-- ==== Sys2Proof/Word.lean ====
section
/-! DEFINITION. The plain value types the commands and the state are made of: bytes and 16-bit words as the link
carries them, the engines E1 to E4 with one value for each, the discrete inputs, and the blocks that take events. -/

namespace Sys2Proof

/-- A byte of the cabinet link. -/
abbrev Byte := BitVec 8

/-- A two-byte field of a payload, sent high byte first (10.2). -/
abbrev Word16 := BitVec 16

/-- The prime movers E1 to E4 (5.1). -/
inductive Engine where
  | e1 | e2 | e3 | e4
deriving DecidableEq, Repr

/-- The engine number, 1 to 4. -/
def Engine.number : Engine → Nat
  | .e1 => 1
  | .e2 => 2
  | .e3 => 3
  | .e4 => 4

/-- The engine a number names, if any. -/
def Engine.ofNumber? : Nat → Option Engine
  | 1 => some .e1
  | 2 => some .e2
  | 3 => some .e3
  | 4 => some .e4
  | _ => none

/-- Every engine in ascending number. -/
def Engine.all : List Engine := [.e1, .e2, .e3, .e4]

/-- One value for each of E1 to E4. -/
structure PerEngine (α : Type) where
  e1 : α
  e2 : α
  e3 : α
  e4 : α
deriving DecidableEq, Repr

/-- The same value for every engine. -/
def PerEngine.same {α : Type} (a : α) : PerEngine α := ⟨a, a, a, a⟩

/-- The value of one engine. -/
def PerEngine.get {α : Type} (p : PerEngine α) : Engine → α
  | .e1 => p.e1
  | .e2 => p.e2
  | .e3 => p.e3
  | .e4 => p.e4

/-- Replace the value of one engine. -/
def PerEngine.set {α : Type} (p : PerEngine α) (k : Engine) (a : α) : PerEngine α :=
  match k with
  | .e1 => { p with e1 := a }
  | .e2 => { p with e2 := a }
  | .e3 => { p with e3 := a }
  | .e4 => { p with e4 := a }

/-- The value that a rule gives each engine. -/
def PerEngine.of {α : Type} (f : Engine → α) : PerEngine α := ⟨f .e1, f .e2, f .e3, f .e4⟩

/-- The two speed pickups of an engine (7.1). -/
inductive Pickup where
  | a | b
deriving DecidableEq, Repr

/-- The other pickup of the pair. -/
def Pickup.other : Pickup → Pickup
  | .a => .b
  | .b => .a

/-- The discrete inputs of the Line Input Conditioner (1.1). -/
inductive Input where
  | tl1 | tl2 | tl3 | tl4 | run | emergency
  | iso (k : Engine) | lube (k : Engine)
  | gnt
deriving DecidableEq, Repr

/-- One value for each discrete input: the raw levels of a sample, or the filters. -/
structure Lines (α : Type) where
  tl1 : α
  tl2 : α
  tl3 : α
  tl4 : α
  run : α
  emergency : α
  iso : PerEngine α
  lube : PerEngine α
  gnt : α
deriving DecidableEq, Repr

/-- The value of one input. -/
def Lines.get {α : Type} (l : Lines α) : Input → α
  | .tl1 => l.tl1
  | .tl2 => l.tl2
  | .tl3 => l.tl3
  | .tl4 => l.tl4
  | .run => l.run
  | .emergency => l.emergency
  | .iso k => l.iso.get k
  | .lube k => l.lube.get k
  | .gnt => l.gnt

/-- The value that a rule gives each input. -/
def Lines.of {α : Type} (f : Input → α) : Lines α where
  tl1 := f .tl1
  tl2 := f .tl2
  tl3 := f .tl3
  tl4 := f .tl4
  run := f .run
  emergency := f .emergency
  iso := .of fun k => f (.iso k)
  lube := .of fun k => f (.lube k)
  gnt := f .gnt

/-- The blocks that take level changes (R5) and limits-changed events (R39) as events of their own: the Power
Planner, the Engine Sequencer of an engine, the Crank Arbiter. -/
inductive Block where
  | ppl
  | esq (k : Engine)
  | car
deriving DecidableEq, Repr

/-- Who sends a request and how it is told apart: the origin byte the LCC stamps and the tag it chooses (10.2). -/
structure Caller where
  origin : Byte
  tag : Byte
deriving DecidableEq, Repr

end Sys2Proof
end

