-- ==== Sys2Proof/Syntax.lean ====
section
/-! DEFINITION. The commands of the MS-440: one constructor for each row of spec/opcode_table.json, in the table's
order. A request of the catalogue (10.6) carries its caller and its payload fields as the link carries them, bytes that
name no value included (R180); an event carries the engine, input or sample it concerns. -/

namespace Sys2Proof

/-- The commands. Battery samples are in 0.1 V and coolant samples in °C, as whole numbers that may lie outside the
ranges of R150 and R142. -/
inductive Instr where
  | post (c : Caller) (kind scope valuePresent : Byte) (value expiry : Word16)
  | amend (c : Caller) (slot generation valuePresent : Byte) (value expiry : Word16)
  | retire (c : Caller) (slot generation : Byte)
  | readEntry (c : Caller) (slot generation : Byte)
  | listEntries (c : Caller) (kind engine origin start : Byte)
  | readEngine (c : Caller) (engine : Byte)
  | start (c : Caller) (engine : Byte)
  | stop (c : Caller) (engine : Byte)
  | isolate (c : Caller) (engine : Byte)
  | restore (c : Caller) (engine : Byte)
  | setHold (c : Caller) (engine hold : Byte)
  | step (c : Caller) (engine : Byte)
  | ackTrip (c : Caller) (engine : Byte)
  | clearLockout (c : Caller) (engine : Byte)
  | clearPickupFault (c : Caller) (engine : Byte)
  | readCounters (c : Caller) (engine clear : Byte)
  | setDemand (c : Caller) (notch : Byte)
  | selectSource (c : Caller) (source : Byte)
  | readStatus (c : Caller)
  | readPlan (c : Caller)
  | readConfig (c : Caller) (sec : Byte)
  | writeConfig (c : Caller) (sec : Byte) (contents : List Byte)
  | restart (c : Caller)
  | requestFrameComplete
  | frameGapTimeout
  | serveRequest
  | responseSent
  | inputSample (raw : Lines Bool)
  | levelChange (input : Input) (reader : Block)
  | codeAccepted
  | invalidTimeout
  | demandLapse
  | expiryCount
  | entryExpired
  | limitsChanged (recipient : Block)
  | replan
  | plannerCount
  | startDwellComplete
  | shedDwellComplete
  | startOrderTaken (k : Engine)
  | recall (k : Engine)
  | stopOrderTaken (k : Engine)
  | pairHanded
  | setpointUpdate (k : Engine)
  | notchStep (k : Engine)
  | speedUpdate (k : Engine)
  | prelubeTimeout (k : Engine)
  | crankTimeout (k : Engine)
  | restEnd (k : Engine)
  | runupTimeout (k : Engine)
  | cooldownEnd (k : Engine)
  | stopFail (k : Engine)
  | crankGrantTaken (k : Engine)
  | gapEnd
  | rerequestTimerEnd
  | phaseChange
  | batterySample (tenths : Int)
  | batteryLowPosted
  | batteryLowRetired
  | sagReport (k : Engine)
  | supplyDip
  | retentionLoss
  | powerOn
  | resetEnd
  | coolantSample (k : Engine) (celsius : Int)
  | hotPosted (k : Engine)
  | hotRetired (k : Engine)
  | overheat (k : Engine)
  | warmupRetired (k : Engine)
  | dctCount
  | runSinceSaveFull (k : Engine)
  | countedEvent (k : Engine)
  | saveWriteBegin
  | saveWriteEnd
  | writeComplete
  | characterReceived (ch : Byte) (framingError : Bool)
  | pickupPulse (k : Engine) (p : Pickup)
  | releaseLevelCrossed (rising : Bool)
deriving DecidableEq, Repr

end Sys2Proof
end

