-- ==== Sys2Proof/Decode.lean ====
section
/-! DEFINITION. The commands that the opcode table's bits spell. No row of spec/opcode_table.json gives bits ("fields"
is empty throughout), so no word spells a command. The frames of the link are decoded where the CLI does it:
Machine/Catalogue.lean and Machine/Link.lean. -/

namespace Sys2Proof

/-- The command a table word spells: none, since the table numbers no bits. -/
def decodeTableWord (_nbits _w : Nat) : Option Instr := none

end Sys2Proof
end

