-- ==== Sys2Proof/Config.lean ====
section
/-! DEFINITION. What the part fixes once and for all (figures the manual gives as fixed, not held in the configuration
image) and the one free value of the model. The configuration image itself is state: Machine/Image.lean. -/

namespace Sys2Proof

/-- The number of slots of the Restriction Table (R16). -/
abbrev Config.slots : Nat := 49

/-- The slot of BATTERY_LOW (2.1). -/
abbrev Config.batterySlot : Nat := 16

/-- The first external slot (2.1). -/
abbrev Config.externalFirst : Nat := 17

/-- The agreement count of the EMERGENCY and GRANT classes (R1). -/
abbrev Config.fixedFilterCount : Nat := 2

/-- The places of the intake queue, and the most BUSY responses that wait (R174, R175). -/
abbrev Config.intakePlaces : Nat := 4

/-- The largest payload of a request frame (R171). -/
abbrev Config.maxPayload : Nat := 48

/-- The value at which a duty counter saturates (R160). -/
abbrev Config.counterMax : Nat := 4294967295

/-- Run since save at which a save is requested (R162). -/
abbrev Config.runSinceSaveLimit : Nat := 600

/-- The failover and clear floor of a pickup speed, in rpm (R138, R140). -/
abbrev Config.pickupFloor : Nat := 100

/-- The top of the measured speed range, in rpm (R135). -/
abbrev Config.speedMax : Nat := 3000

/-- The samples that agree a coolant condition (R142 to R146). -/
abbrev Config.coolantCount : Nat := 3

/-- The release hold of the logic supply, in ms (R156). -/
abbrev Config.releaseHoldMs : Nat := 50

/-- FREE VALUE. How many of the pulses counted before a sensing set's first speed update fell in one of its four
50 ms intervals: no row of the opcode table closes those intervals, so the model leaves the split free (log entry 5).
The argument is the State counter freeCount. Safe: nothing can be proved of it. -/
opaque Config.earlyPulses : Nat → Nat

end Sys2Proof
end

