-- ==== Sys2Proof/Machine/Image.lean ====
section
/-! DEFINITION. The configuration image: its nine sections as typed records with the defaults of 11.2, and the marks
that say which sections are VALID (R188). Speeds are in rpm, powers in kW, temperatures in °C, voltages in 0.1 V, times
in the unit the image sends them in. -/

namespace Sys2Proof.Machine

/-- The rights of an origin, in rank order (R178). -/
inductive Role where
  | none | observer | operator | supervisor
deriving DecidableEq, Repr

/-- The rank of a role: NONE below OBSERVER below OPERATOR below SUPERVISOR (R178); also its code (11.2). -/
def Role.rank : Role → Nat
  | .none => 0
  | .observer => 1
  | .operator => 2
  | .supervisor => 3

/-- The demand source (1.4). -/
inductive Source where
  | trainline | link
deriving DecidableEq, Repr

/-- How the crank supply is shared (chapter 6). -/
inductive Sharing where
  | exclusive | shared
deriving DecidableEq, Repr

/-- The nine sections of the image (11.2). -/
inductive SectionId where
  | roster | engineTable | locoTable | timing | thresholds | staging | arbiter | inputs | origins
deriving DecidableEq, Repr

/-- ROSTER (11.2). -/
structure Roster where
  fitted : Nat := 3
  teeth : Nat := 120
deriving DecidableEq, Repr

/-- ENGINE_TABLE: EN[0..8].rpm and EN[0..8].kW (11.2). -/
structure EngineTable where
  rpm : List Nat := [900, 1000, 1100, 1200, 1300, 1400, 1500, 1650, 1800]
  kw : List Nat := [0, 90, 180, 270, 360, 450, 540, 630, 700]
deriving DecidableEq, Repr

/-- LOCO_TABLE: LP[0..8] (11.2). -/
structure LocoTable where
  lp : List Nat := [0, 150, 350, 600, 850, 1100, 1400, 1750, 2100]
deriving DecidableEq, Repr

/-- TIMING, times in 0.1 s and rates in rpm/s (11.2). -/
structure Timing where
  attempts : Nat := 3
  prelube : Nat := 300
  crank : Nat := 120
  rest : Nat := 300
  runup : Nat := 200
  rateUp : Nat := 60
  rateDown : Nat := 120
  tUp : Nat := 40
  tDown : Nat := 10
  cooldown : Nat := 1200
  stopLimit : Nat := 600
deriving DecidableEq, Repr

/-- THRESHOLDS (11.2). -/
structure Thresholds where
  fireSpeed : Nat := 250
  idleBand : Nat := 60
  stopped : Nat := 50
  overspeed : Nat := 2000
  cooldownNotch : Nat := 5
  warm : Int := 50
  hot : Nat := 95
  overheat : Nat := 105
  warmupCeiling : Nat := 3
  hotCeiling : Nat := 4
  degradedCeiling : Nat := 5
  lockoutCount : Nat := 3
  startThreshold : Nat := 620
  hysteresis : Nat := 20
  sagFloor : Nat := 450
  batteryFilter : Nat := 3
deriving DecidableEq, Repr

/-- STAGING, dwells in 0.1 s (11.2). -/
structure Staging where
  startPct : Nat := 90
  shedPct : Nat := 70
  startDwell : Nat := 50
  shedDwell : Nat := 600
  minOnline : Nat := 1
deriving DecidableEq, Repr

/-- ARBITER, times in 0.1 s (11.2). -/
structure ArbiterSettings where
  sharing : Sharing := .exclusive
  park : Bool := false
  crankGap : Nat := 100
  rerequest : Nat := 20
deriving DecidableEq, Repr

/-- INPUTS: settle time in ms, invalid timeout in 0.1 s, demand hold time in s (11.2). -/
structure InputSettings where
  throttleFilter : Nat := 4
  switchFilter : Nat := 3
  settleMs : Nat := 100
  invalidTimeout : Nat := 20
  demandHold : Nat := 5
  defaultSource : Source := .trainline
deriving DecidableEq, Repr

/-- ORIGINS: the role of origins 0 to 15 (11.2). The default is the default role table of R178. -/
structure Origins where
  roles : List Role := .supervisor :: List.replicate 15 .none
deriving DecidableEq, Repr

/-- One configuration image. Image.defaults is the factory image (R194). -/
structure Image where
  roster : Roster := {}
  engineTable : EngineTable := {}
  locoTable : LocoTable := {}
  timing : Timing := {}
  thresholds : Thresholds := {}
  staging : Staging := {}
  arbiter : ArbiterSettings := {}
  inputs : InputSettings := {}
  origins : Origins := {}
deriving DecidableEq, Repr

/-- The image with every item at its default (11.2). -/
def Image.defaults : Image := {}

/-- One flag for each section: the validity marks (R188). -/
structure Marks where
  roster : Bool
  engineTable : Bool
  locoTable : Bool
  timing : Bool
  thresholds : Bool
  staging : Bool
  arbiter : Bool
  inputs : Bool
  origins : Bool
deriving DecidableEq, Repr

/-- Every section with the same mark. -/
def Marks.same (b : Bool) : Marks := ⟨b, b, b, b, b, b, b, b, b⟩

/-- The contents of one section, as a write in flight holds them (11.1). -/
inductive SectionData where
  | roster (v : Roster)
  | engineTable (v : EngineTable)
  | locoTable (v : LocoTable)
  | timing (v : Timing)
  | thresholds (v : Thresholds)
  | staging (v : Staging)
  | arbiter (v : ArbiterSettings)
  | inputs (v : InputSettings)
  | origins (v : Origins)
deriving DecidableEq, Repr

end Sys2Proof.Machine
end

