-- ==== Sys2Proof/Machine/State.lean ====
section
/-! DEFINITION. The state of the part, block by block, as plain data; the events one block has handed another and the
other has not yet taken; the values after a reset; the state right after the first power-on of a factory part. Timers
are none when stopped, else the time counted, in 0.1 s unless a field says otherwise. -/

namespace Sys2Proof.Machine

/-! ## Line Input Conditioner and Demand Selector (chapter 1) -/

/-- The agreement filter of one input: filtered level, agreement count, and whether the next sample is its initial
load (R2, R3). -/
structure Filter where
  level : Bool
  count : Nat
  fresh : Bool
deriving DecidableEq, Repr

/-- The DSL (1.3, 1.4). D itself is Dsl.demand, the figure R11 makes of the source, the decoded notch and the link
demand. Settle time and invalid timer are in 10 ms. -/
structure Dsl where
  /-- Code under test, TL4 first, or none before the initial load. -/
  code : Option (BitVec 4)
  /-- Settle time counted; none once settling has ended (R8). -/
  settle : Option Nat
  decoded : Nat
  invalidTimer : Option Nat
  fault : Bool
  source : Source
  linkDemand : Nat
  /-- Hold timer: time counted and the length it was started with, both in 0.1 s (R13 to R15). -/
  hold : Option (Nat × Nat)
  lapsed : Bool
  /-- The notch of a code that has reached its settle time and is not yet taken by CODE_ACCEPTED. -/
  acceptDue : Option Nat
  /-- The invalid timer has reached its timeout and INVALID_TIMEOUT is not yet taken. -/
  timeoutDue : Bool
deriving DecidableEq, Repr

/-! ## Restriction Table (chapter 2) -/

/-- The internal conditions (R19). -/
inductive Condition where
  | warmup | hot | pickup | lockout | batteryLow
deriving DecidableEq, Repr

/-- The kinds of restriction (2.2). -/
inductive Kind where
  | notchCeiling | powerCap | startInhibit | runDemand | stopDemand
deriving DecidableEq, Repr

/-- Who holds an entry: an origin, or the part itself for a condition (R19). -/
inductive Owner where
  | external (origin : Byte)
  | internal (c : Condition)
deriving DecidableEq, Repr

/-- What an entry covers: a set of engines, or the locomotive (2.2). -/
inductive Scope where
  | engines (set : PerEngine Bool)
  | locomotive
deriving DecidableEq, Repr

/-- One restriction entry (2.2); its handle is the slot's place and generation. -/
structure Entry where
  owner : Owner
  kind : Kind
  scope : Scope
  value : Option Nat
  expiry : Option Nat
deriving DecidableEq, Repr

/-- One slot: FREE when it holds no entry; the generation is kept either way (R16, R17). -/
structure Slot where
  gen : Byte
  entry : Option Entry
deriving DecidableEq, Repr

/-- The resolved limits (2.8). -/
structure Limits where
  ceiling : PerEngine Nat
  cap : Option Nat
  inhibit : PerEngine Bool
  stop : PerEngine Bool
  run : PerEngine Bool
deriving DecidableEq, Repr

/-! ## Power Planner (chapter 3) -/

/-- An allocation in kW and a target notch, handed together (R62). -/
structure Pair where
  alloc : Nat
  target : Nat
deriving DecidableEq, Repr

/-- The plan held (3.1). caps holds the capacities of the last re-plan, which R57 reads at planner counts. The pairs
are both the plan's and the ones last handed (R62). -/
structure Plan where
  p : Nat
  online : PerEngine Bool
  co : Nat
  caps : PerEngine Nat
  startTimer : Option Nat
  shedTimer : Option Nat
  candidate : Option Engine
  short : Bool
  pairs : PerEngine Pair
deriving DecidableEq, Repr

/-! ## Engine Sequencers (chapters 4 and 5) -/

/-- The states of an engine, in the order of R67. -/
inductive EState where
  | isolated | stopped | prelube | crankWait | cranking | crankRest | runup | online | cooldown | stopping | tripped
deriving DecidableEq, Repr

/-- Start reasons (R67). -/
inductive StartReason where
  | staging | request | runDemand
deriving DecidableEq, Repr

/-- Stop reasons (R67). -/
inductive StopReason where
  | shed | request | stopDemand | runOff | isolation
deriving DecidableEq, Repr

/-- Trip causes, in the order of R67. -/
inductive TripCause where
  | noPrelube | noStart | runupFail | overspeed | lowLube | overheat | noSpeedSignal | stopFail | emergency
deriving DecidableEq, Repr

/-- Last attempt causes (R67). -/
inductive AttemptCause where
  | fired | crankTimeout | batterySag | falseStart
deriving DecidableEq, Repr

/-- Hold points (R87). -/
inductive HoldPoint where
  | none | beforeCrank | beforeOnline
deriving DecidableEq, Repr

/-- The engine record (R67) with the running state of chapter 5 and the sequencer's timers. -/
structure EngineRec where
  state : EState
  startReason : Option StartReason
  stopPending : Bool
  stopReason : Option StopReason
  tripCause : Option TripCause
  lastAttempt : Option AttemptCause
  notch : Nat
  /-- The ramped setpoint of R95, driven in ONLINE; the output of the other states is R69's. -/
  setpoint : Nat
  attempts : Nat
  holdPoint : HoldPoint
  held : Bool
  highLoad : Bool
  isoRequest : Bool
  /-- The isolation condition as the sequencer last acted on it: it acts on changes (R115). -/
  isoSeen : Bool
  /-- The pair last handed by the planner and taken (R97). -/
  pair : Pair
  settled : Bool
  /-- Settled time in 0.05 s; none while not counted (R94). -/
  settledTime : Option Nat
  prelubeTimer : Option Nat
  crankTimer : Option Nat
  restTimer : Option Nat
  runupTimer : Option Nat
  cooldownTimer : Option Nat
  stopTimer : Option Nat
deriving DecidableEq, Repr

/-! ## Crank Arbiter (chapter 6) -/

/-- What the crank supply is doing (R119). -/
inductive Phase where
  | idle | granted | recovery
deriving DecidableEq, Repr

/-- The state of the request and grant lines (R128). -/
inductive LineState where
  | quiet | asking | held | withdrawn | backoff
deriving DecidableEq, Repr

/-- The Crank Arbiter (6.1). The request output is asserted in ASKING, HELD and WITHDRAWN (R128). -/
structure Car where
  queue : List Engine
  holder : Option Engine
  phase : Phase
  gapTimer : Option Nat
  line : LineState
  rerequest : Option Nat
deriving DecidableEq, Repr

/-! ## Engine Sensing (chapter 7) -/

/-- What a speed update has made of a pickup's window (R135). -/
inductive Reading where
  | notMeasured
  | silent
  | good (speed : Nat) (saturated : Bool)
deriving DecidableEq, Repr

/-- One pickup: the pulses of the interval being counted, of the last four closed intervals (oldest first), and the
latest reading. -/
structure PickupState where
  current : Nat
  w1 : Nat
  w2 : Nat
  w3 : Nat
  w4 : Nat
  reading : Reading
deriving DecidableEq, Repr

/-- The sensing set of one engine (7.1, 7.3). -/
structure Sensing where
  a : PickupState
  b : PickupState
  selection : Pickup
  degraded : Bool
  failed : Option Pickup
  restored : Bool
  coolant : Option Int
  sensorGood : Bool
  hotCount : Nat
  coolCount : Nat
  overCount : Nat
  warmCount : Nat
  warmed : Bool
deriving DecidableEq, Repr

/-! ## Battery and Supply Monitor (chapter 8) -/

/-- The logic supply (R156). -/
inductive Supply where
  | normal | dipped
deriving DecidableEq, Repr

/-- The kinds of reset (R195). -/
inductive ResetKind where
  | powerOn | supplyDip | restart
deriving DecidableEq, Repr

/-- The BSM (8.1); voltages in 0.1 V, the release hold in ms. -/
structure Bsm where
  sample : Option Nat
  phase : Phase
  holder : Option Engine
  low : Nat
  high : Nat
  sag : Nat
  crankMin : Option Nat
  supply : Supply
  releaseHold : Option Nat
deriving DecidableEq, Repr

/-! ## Duty Counters (chapter 9) -/

/-- The six stored counters of an engine (R160). -/
structure DutyRecord where
  run : Nat
  starts : Nat
  failed : Nat
  aborted : Nat
  trips : Nat
  consecutive : Nat
deriving DecidableEq, Repr

/-- One place of the counter store: never written, or a record with its engine field and whether its checksum agrees
(9.6, R168). -/
inductive StoreRecord where
  | unwritten
  | written (place : Engine) (duty : DutyRecord) (good : Bool)
deriving DecidableEq, Repr

/-- The counters and working state of one engine (9.1). -/
structure Duty where
  stored : DutyRecord
  histogram : List Nat
  runSinceSave : Nat
  restored : Bool
deriving DecidableEq, Repr

/-- The DCT: the engines' counters, the save queue, the write in flight with its snapshot, and the counter store. -/
structure Dct where
  duty : PerEngine Duty
  queue : List Engine
  writing : Option (Engine × DutyRecord)
  store : PerEngine StoreRecord
deriving DecidableEq, Repr

/-! ## Cabinet Link Interface (chapter 10) -/

/-- The receiver: hunting, waiting for the length byte, or storing a body of which some bytes have come (R171). -/
inductive Receiver where
  | hunt
  | length
  | body (len : Nat) (got : List Byte)
deriving DecidableEq, Repr

/-- A request as its frame carries it (10.2). -/
structure Request where
  code : Byte
  tag : Byte
  origin : Byte
  payload : List Byte
deriving DecidableEq, Repr

/-- An intake place held: the request and whether it has been served (R174). -/
structure Intake where
  req : Request
  served : Bool
deriving DecidableEq, Repr

/-- The status codes (R177). -/
inductive Status where
  | ok | clamped | busy | badRequest | badValue | notPermitted | unknownHandle | tableFull | wrongState | configInvalid
deriving DecidableEq, Repr

/-- A response: what it answers, its status and payload, and whether its request holds an intake place (a BUSY of R175
holds none). -/
structure Response where
  code : Byte
  tag : Byte
  status : Status
  payload : List Byte
  placed : Bool
deriving DecidableEq, Repr

/-- The nine notice flags (R186). -/
structure Notices where
  changed : PerEngine Bool
  expired : Bool
  resetSeen : Bool
  trainlineFault : Bool
  demandLapsed : Bool
  powerShort : Bool
deriving DecidableEq, Repr

/-- The CLI (10.3). -/
structure Cli where
  receiver : Receiver
  /-- Complete frames, length byte to last CRC byte, that REQUEST_FRAME_COMPLETE has not yet taken. -/
  completed : List (List Byte)
  intake : List Intake
  /-- The request handed to its owning block and not yet answered (R174). -/
  serving : Option Request
  responses : List Response
  notices : Notices
  /-- A RESTART has been taken: reception and serving have stopped (R186). -/
  restarting : Bool
  /-- The bytes of the frame last sent on LINK_TX. -/
  sent : List Byte
  /-- The last status and reply an owning block or a common check has returned (model's own view; log entry 2). -/
  answer : Option Response
deriving DecidableEq, Repr

/-! ## Configuration Store (chapter 11) -/

/-- The non-volatile image: contents, validity marks, and whether its checksum agrees (R194). -/
structure NvImage where
  image : Image
  marks : Marks
  good : Bool
deriving DecidableEq, Repr

/-- The CFS (11.1). -/
structure Cfs where
  working : Image
  marks : Marks
  write : Option SectionData
  nv : NvImage
  /-- The reset cause record; none while its retained state is lost (R157, R195). -/
  cause : Option ResetKind
deriving DecidableEq, Repr

/-! ## Events handed between blocks -/

/-- Why a re-plan is taken (R43); an engine's change says whether it moved the engine into or out of O (R56). -/
inductive ReplanCause where
  | demand | limits | line | engine (onlineChange : Bool) | write | apply
deriving DecidableEq, Repr

/-- The events an Engine Sequencer hands the DCT (R161). -/
inductive CountedEvent where
  | start | failed | aborted | trip (c : TripCause) | rest
deriving DecidableEq, Repr

/-- An event handed by one block and not yet taken by another (5.3, R5, R39, R62). -/
inductive Event where
  | level (input : Input) (reader : Block) (level : Bool)
  | limits (recipient : Block) (stopRose runRose : Bool)
  | replan (cause : ReplanCause)
  | startOrder (k : Engine) (reason : StartReason)
  | recall (k : Engine)
  | stopOrder (k : Engine) (reason : StopReason)
  | pairs (handed : PerEngine (Option Pair))
  | grant (k : Engine)
  | phase (p : Phase) (holder : Option Engine)
  | counted (k : Engine) (events : List CountedEvent)
  | sag (k : Engine)
  | overheat (k : Engine)
deriving DecidableEq, Repr

/-! ## The part -/

/-- The whole part, and the queue of commands waiting for it. -/
structure State where
  lic : Lines Filter
  dsl : Dsl
  table : List Slot
  limits : Limits
  plan : Plan
  engines : PerEngine EngineRec
  car : Car
  sensing : PerEngine Sensing
  bsm : Bsm
  dct : Dct
  cli : Cli
  cfs : Cfs
  /-- The reset the part is held in, if any (R156, R195). -/
  resetting : Option ResetKind
  /-- Events handed and not yet taken, oldest first. -/
  handed : List Event
  /-- Model's own: how many free values have been drawn (log entry 5). -/
  freeCount : Nat
  /-- The commands waiting, first in, first out. -/
  pending : List Instr
deriving DecidableEq, Repr

/-- No command of this part stops it: the manual names no case that the part does not answer, so the type is empty. -/
inductive Fault
deriving DecidableEq, Repr

/-- Why a command has no meaning. -/
inductive Refusal where
  /-- Raised by exec alone, for a row of the opcode table that has no meaning yet (safe). -/
  | notModelled (mnemonic : String)
deriving DecidableEq, Repr

/-! ## After-reset values, block by block -/

/-- A filter at its rest level, with its next sample an initial load or not (R3). -/
def Filter.rest (level fresh : Bool) : Filter := ⟨level, 0, fresh⟩

/-- The rest level of an input (R3). -/
def inputRest : Input → Bool
  | .emergency => true
  | _ => false

/-- The LIC after every reset: every input but the emergency line takes an initial load (R3). -/
def licReset : Lines Filter := .of fun i => .rest (inputRest i) (i ≠ .emergency)

/-- The DSL after every reset, with the default source of the configuration loaded (1.3, 1.4, R15). -/
def Dsl.reset (source : Source) : Dsl where
  code := none
  settle := some 0
  decoded := 0
  invalidTimer := none
  fault := false
  source := source
  linkDemand := 0
  hold := none
  lapsed := false
  acceptDue := none
  timeoutDue := false

/-- A slot never posted since the reset (R42). -/
def Slot.blank : Slot := ⟨0, none⟩

/-- The limits of an empty table (R42). -/
def Limits.open : Limits := ⟨.same 8, none, .same false, .same false, .same false⟩

/-- The planner after every reset (R66). -/
def Plan.reset : Plan := ⟨0, .same false, 0, .same 0, none, none, none, false, .same ⟨0, 0⟩⟩

/-- A record with every field absent, clear or 0 (R93), in a given state. -/
def EngineRec.blank (state : EState) : EngineRec where
  state := state
  startReason := none
  stopPending := false
  stopReason := none
  tripCause := none
  lastAttempt := none
  notch := 0
  setpoint := 0
  attempts := 0
  holdPoint := .none
  held := false
  highLoad := false
  isoRequest := false
  isoSeen := false
  pair := ⟨0, 0⟩
  settled := true
  settledTime := none
  prelubeTimer := none
  crankTimer := none
  restTimer := none
  runupTimer := none
  cooldownTimer := none
  stopTimer := none

/-- The record of a fitted engine after every reset: STOPPING with its stop timer started (R93, R118). -/
def EngineRec.reset : EngineRec := { EngineRec.blank .stopping with stopTimer := some 0 }

/-- The record of a newly fitted engine (R193), and the stand-in for an engine not fitted, which has none. -/
def EngineRec.fresh : EngineRec := EngineRec.blank .stopped

/-- The arbiter after every reset (R134). -/
def Car.reset : Car := ⟨[], none, .idle, none, .quiet, none⟩

/-- A pickup with an empty window, not yet measured (7.1). -/
def PickupState.reset : PickupState := ⟨0, 0, 0, 0, 0, .notMeasured⟩

/-- A sensing set after every reset (R149). -/
def Sensing.reset : Sensing where
  a := .reset
  b := .reset
  selection := .a
  degraded := false
  failed := none
  restored := false
  coolant := none
  sensorGood := true
  hotCount := 0
  coolCount := 0
  overCount := 0
  warmCount := 0
  warmed := false

/-- The monitor after every reset (R159). -/
def Bsm.reset : Bsm := ⟨none, .idle, none, 0, 0, 0, none, .normal, none⟩

/-- Six counters at 0. -/
def DutyRecord.zero : DutyRecord := ⟨0, 0, 0, 0, 0, 0⟩

/-- Working counters with a given duty record: histogram and run since save at 0 (R169, R170). -/
def Duty.begin (stored : DutyRecord) (restored : Bool) : Duty := ⟨stored, List.replicate 9 0, 0, restored⟩

/-- The notice flags at the end of a reset: RESET_SEEN alone is set (R187). -/
def Notices.reset : Notices := ⟨.same false, false, true, false, false, false⟩

/-- The CLI at the end of a reset (R187). -/
def Cli.reset : Cli := ⟨.hunt, [], [], none, [], .reset, false, [], none⟩

/-- The engines fitted by a configuration: E1 to EF (5.1). -/
def fittedBy (f : Nat) (k : Engine) : Bool := k.number ≤ f

/-- A part right after the end of a reset, with the configuration and counters that the reset has loaded or kept. The
lockout test and the save requests of R170 are not in it. -/
def State.started (cfs : Cfs) (cfg : Image) (dct : Dct) : State where
  lic := licReset
  dsl := .reset cfg.inputs.defaultSource
  table := List.replicate Config.slots .blank
  limits := .open
  plan := .reset
  engines := .of fun k => if fittedBy cfg.roster.fitted k then .reset else .fresh
  car := .reset
  sensing := .same .reset
  bsm := .reset
  dct := dct
  cli := .reset
  cfs := cfs
  resetting := none
  handed := []
  freeCount := 0
  pending := []

/-- The Configuration Store of a factory part after a POWER_ON (R194, R195). -/
def Cfs.factory : Cfs where
  working := .defaults
  marks := .same true
  write := none
  nv := ⟨.defaults, .same true, true⟩
  cause := some .powerOn

/-- The Duty Counters of a factory part after a POWER_ON: no record was ever written, so every counter is 0 and not
restored (R168), and a save of each fitted engine has been requested (R170). -/
def Dct.factory : Dct where
  duty := .same (.begin .zero false)
  queue := [.e1, .e2, .e3]
  writing := none
  store := .same .unwritten

/-- The machine right after reset: a factory part at the end of its first POWER_ON reset (R197). -/
def State.reset : State := .started .factory .defaults .factory

end Sys2Proof.Machine
end

