-- ==== Sys2Proof/Machine/Bytes.lean ====
section
/-! DEFINITION. Byte order, codes of flags, and the CRC-16 of the link (R173). -/

namespace Sys2Proof.Machine

/-- A number as one byte. -/
def byte (n : Nat) : Byte := BitVec.ofNat 8 n

/-- A number in two bytes, high byte first (10.2). -/
def be16 (n : Nat) : List Byte := [byte (n / 256), byte n]

/-- A number in four bytes, high byte first. -/
def be32 (n : Nat) : List Byte := be16 (n / 65536) ++ be16 n

/-- A signed figure in two bytes, two's complement, high byte first (10.2). -/
def beSigned16 (i : Int) : List Byte := be16 (BitVec.ofInt 16 i).toNat

/-- The number two bytes carry, high byte first. -/
def ofBe16 (hi lo : Byte) : Nat := hi.toNat * 256 + lo.toNat

/-- The two bytes of a 16-bit field, high byte first. -/
def wordBytes (w : Word16) : List Byte := [w.extractLsb' 8 8, w.extractLsb' 0 8]

/-- The 16-bit field two bytes carry, high byte first. -/
def wordOf (hi lo : Byte) : Word16 := hi ++ lo

/-- A two-valued report item: 0 for no, clear, open or not holding, 1 for the other (R183). -/
def bit (b : Bool) : Byte := if b then 1 else 0

/-- One bit of the CRC register: shift left, and take in the polynomial 1021h when a 1 leaves the top (R173). -/
def crcShift (r : Word16) : Word16 := if r.msb then (r <<< 1) ^^^ 0x1021 else r <<< 1

/-- One byte taken into the CRC register, most significant bit first (R173). -/
def crcByte (r : Word16) (b : Byte) : Word16 :=
  Nat.repeat crcShift 8 (r ^^^ (b ++ (0 : Byte)))

/-- The CRC-16 of a run of bytes: the register starts at FFFFh, with no final inversion (R173). -/
def crc16 (bytes : List Byte) : Word16 := bytes.foldl crcByte 0xFFFF

end Sys2Proof.Machine
end

