-- ==== Sys2Proof/Machine/Codec.lean ====
section
/-! DEFINITION. The configuration sections on the link: their layouts both ways (11.2), the range checks and the
cross-checks of R189. -/

namespace Sys2Proof.Machine

/-! ## From the image to the link -/

/-- Park option, sharing and source as sent. -/
def Sharing.code : Sharing → Byte
  | .exclusive => 0
  | .shared => 1

/-- The default source as sent. -/
def Source.code : Source → Byte
  | .trainline => 0
  | .link => 1

/-- A table of nine two-byte items. -/
def tableBytes (t : List Nat) : List Byte := (List.range 9).flatMap fun n => be16 (t.getD n 0)

/-- THRESHOLDS as sent; the warm threshold is a signed byte (11.2). -/
def Thresholds.bytes (t : Thresholds) : List Byte :=
  be16 t.fireSpeed ++ [byte t.idleBand, byte t.stopped] ++ be16 t.overspeed ++
    [byte t.cooldownNotch, BitVec.ofInt 8 t.warm, byte t.hot, byte t.overheat, byte t.warmupCeiling, byte t.hotCeiling,
      byte t.degradedCeiling, byte t.lockoutCount] ++
    be16 t.startThreshold ++ [byte t.hysteresis] ++ be16 t.sagFloor ++ [byte t.batteryFilter]

/-- TIMING as sent. -/
def Timing.bytes (t : Timing) : List Byte :=
  [byte t.attempts] ++
    [t.prelube, t.crank, t.rest, t.runup, t.rateUp, t.rateDown, t.tUp, t.tDown, t.cooldown, t.stopLimit].flatMap be16

/-- The contents of a section of an image, in the layout of 11.2. -/
def Image.contents (im : Image) : SectionId → List Byte
  | .roster => [byte im.roster.fitted, byte im.roster.teeth]
  | .engineTable => tableBytes im.engineTable.rpm ++ tableBytes im.engineTable.kw
  | .locoTable => tableBytes im.locoTable.lp
  | .timing => im.timing.bytes
  | .thresholds => im.thresholds.bytes
  | .staging =>
    [byte im.staging.startPct, byte im.staging.shedPct] ++ be16 im.staging.startDwell ++ be16 im.staging.shedDwell ++
      [byte im.staging.minOnline]
  | .arbiter =>
    [im.arbiter.sharing.code, bit im.arbiter.park] ++ be16 im.arbiter.crankGap ++ be16 im.arbiter.rerequest
  | .inputs =>
    [byte im.inputs.throttleFilter, byte im.inputs.switchFilter] ++ be16 im.inputs.settleMs ++
      be16 im.inputs.invalidTimeout ++ [byte im.inputs.demandHold, im.inputs.defaultSource.code]
  | .origins => (List.range 16).map fun n => byte (im.origins.roles.getD n .none).rank

/-! ## From the link to the image -/

/-- The bytes of each item of a section, in index order (11.2). -/
def itemWidths : SectionId → List Nat
  | .roster => [1, 1]
  | .engineTable => List.replicate 18 2
  | .locoTable => List.replicate 9 2
  | .timing => 1 :: List.replicate 10 2
  | .thresholds => [2, 1, 1, 2, 1, 1, 1, 1, 1, 1, 1, 1, 2, 1, 2, 1]
  | .staging => [1, 1, 2, 2, 1]
  | .arbiter => [1, 1, 2, 2]
  | .inputs => [1, 1, 2, 2, 1, 1]
  | .origins => List.replicate 16 1

/-- The number some bytes carry, high byte first. -/
def ofBytes (bs : List Byte) : Nat := bs.foldl (fun n b => n * 256 + b.toNat) 0

/-- The items some contents carry, in index order. -/
def readItems : List Nat → List Byte → List Nat
  | [], _ => []
  | w :: ws, bs => ofBytes (bs.take w) :: readItems ws (bs.drop w)

/-- A signed byte (11.2, the warm threshold). -/
def signedByte (n : Nat) : Int := (BitVec.ofNat 8 n).toInt

/-- A role by its code. -/
def roleOf : Nat → Role
  | 1 => .observer
  | 2 => .operator
  | 3 => .supervisor
  | _ => .none

/-- The section that some items make, in index order from 0. -/
def sectionData (id : SectionId) (v : List Nat) : SectionData :=
  let x (n : Nat) : Nat := v.getD n 0
  match id with
  | .roster => .roster ⟨x 0, x 1⟩
  | .engineTable => .engineTable ⟨v.take 9, v.drop 9⟩
  | .locoTable => .locoTable ⟨v⟩
  | .timing => .timing ⟨x 0, x 1, x 2, x 3, x 4, x 5, x 6, x 7, x 8, x 9, x 10⟩
  | .thresholds =>
    .thresholds ⟨x 0, x 1, x 2, x 3, x 4, signedByte (x 5), x 6, x 7, x 8, x 9, x 10, x 11, x 12, x 13, x 14, x 15⟩
  | .staging => .staging ⟨x 0, x 1, x 2, x 3, x 4⟩
  | .arbiter => .arbiter ⟨if x 0 = 1 then .shared else .exclusive, decide (x 1 = 1), x 2, x 3⟩
  | .inputs => .inputs ⟨x 0, x 1, x 2, x 3, x 4, if x 5 = 1 then .link else .trainline⟩
  | .origins => .origins ⟨v.map roleOf⟩

/-- The section of offered contents. -/
def decodeSection (id : SectionId) (contents : List Byte) : SectionData :=
  sectionData id (readItems (itemWidths id) contents)

/-- Put a section into an image (R193). -/
def Image.put (im : Image) : SectionData → Image
  | .roster v => { im with roster := v }
  | .engineTable v => { im with engineTable := v }
  | .locoTable v => { im with locoTable := v }
  | .timing v => { im with timing := v }
  | .thresholds v => { im with thresholds := v }
  | .staging v => { im with staging := v }
  | .arbiter v => { im with arbiter := v }
  | .inputs v => { im with inputs := v }
  | .origins v => { im with origins := v }

/-- Mark a section VALID (R193). -/
def Marks.put (m : Marks) : SectionData → Marks
  | .roster _ => { m with roster := true }
  | .engineTable _ => { m with engineTable := true }
  | .locoTable _ => { m with locoTable := true }
  | .timing _ => { m with timing := true }
  | .thresholds _ => { m with thresholds := true }
  | .staging _ => { m with staging := true }
  | .arbiter _ => { m with arbiter := true }
  | .inputs _ => { m with inputs := true }
  | .origins _ => { m with origins := true }

/-! ## Validation (R189) -/

/-- A number from lo to hi. -/
def within (lo hi : Nat) (n : Nat) : Bool := decide (lo ≤ n) && decide (n ≤ hi)

/-- The range of each item of a section, in index order (11.2). The range of min_online at this check is 0 to 4: its
comparison with F is cross-check 5 (log entry 9). DEDUCED: 11.2's range column also has strictly increasing, non-decreasing,
EN[0].kW = 0, EN[8].kW ≥ 1 and LP[0] = 0; R189 lists these as cross-checks 1 to 3, and they are made there only (log
entry 43). -/
def itemRanges : SectionId → List (Nat → Bool)
  | .roster => [within 2 4, within 60 200]
  | .engineTable => List.replicate 9 (within 500 2200) ++ List.replicate 9 (within 0 2000)
  | .locoTable => List.replicate 9 (within 0 8000)
  | .timing => [within 1 5, within 50 1200, within 50 300, within 100 1200, within 50 600, within 10 500, within 10 500,
      within 10 300, within 0 300, within 0 6000, within 100 1200]
  | .thresholds => [within 100 400, within 20 200, within 20 100, within 500 3000, within 1 8,
      fun n => decide (-20 ≤ signedByte n) && decide (signedByte n ≤ 90), within 60 120, within 70 130, within 0 8,
      within 0 8, within 0 8, within 1 9, within 400 800, within 5 50, within 200 600, within 1 7]
  | .staging => [within 50 100, within 20 90, within 0 600, within 100 6000, within 0 4]
  | .arbiter => [within 0 1, within 0 1, within 0 600, within 10 100]
  | .inputs => [within 2 8, within 2 8, fun n => within 50 500 n && decide (n % 10 = 0), within 5 100, within 1 30,
      within 0 1]
  | .origins => List.replicate 16 (within 0 3)

/-- The index, from a start, of the first item outside its range. -/
def firstOutside (start : Nat) : List (Nat → Bool) → List Nat → Option Nat
  | ok :: oks, v :: vs => if ok v then firstOutside (start + 1) oks vs else some start
  | _, _ => none

/-- The first row n from 1 to 8 of a nine-row table that fails a comparison with the row before it. -/
def firstRow (ok : Nat → Nat → Bool) (t : List Nat) : Option Nat :=
  (List.range' 1 8).find? fun n => !ok (t.getD (n - 1) 0) (t.getD n 0)

/-- The index of a failed comparison, if it fails. -/
def failsAt (ok : Bool) (index : Nat) : Option Nat := if ok then none else some index

/-- Fire speed below EN[0].rpm − idle band (cross-check 6). -/
def fireBelowIdle (im : Image) : Bool :=
  decide (im.thresholds.fireSpeed + im.thresholds.idleBand < im.engineTable.rpm.getD 0 0)

/-- Overspeed trip above EN[8].rpm (cross-check 8). -/
def overspeedAbove (im : Image) : Bool := decide (im.engineTable.rpm.getD 8 0 < im.thresholds.overspeed)

/-- min_online at most F (cross-check 5). -/
def minOnlineFits (im : Image) : Bool := decide (im.staging.minOnline ≤ im.roster.fitted)

/-- The cross-checks that hold a term of the section written, in the order of R189, each with the index it reports: the
offered section stands in the image with the working values of the others. -/
def crossChecks (id : SectionId) (im : Image) : List (Option Nat) :=
  match id with
  | .roster => [failsAt (minOnlineFits im) 1]
  | .engineTable => [
      (firstRow (fun a b => decide (a < b)) im.engineTable.rpm).map (· + 1),
      failsAt (decide (im.engineTable.kw.getD 0 0 = 0)) 10,
      (firstRow (fun a b => decide (a ≤ b)) im.engineTable.kw).map (10 + ·),
      failsAt (decide (1 ≤ im.engineTable.kw.getD 8 0)) 18,
      failsAt (fireBelowIdle im) 1,
      failsAt (overspeedAbove im) 9]
  | .locoTable => [
      failsAt (decide (im.locoTable.lp.getD 0 0 = 0)) 1,
      (firstRow (fun a b => decide (a ≤ b)) im.locoTable.lp).map (· + 1)]
  | .timing => []
  | .thresholds => [
      failsAt (fireBelowIdle im) 1,
      failsAt (decide (im.thresholds.stopped < im.thresholds.fireSpeed)) 3,
      failsAt (overspeedAbove im) 4,
      failsAt (decide (im.thresholds.hot < im.thresholds.overheat)) 8]
  | .staging => [failsAt (decide (im.staging.shedPct < im.staging.startPct)) 2, failsAt (minOnlineFits im) 5]
  | .arbiter => []
  | .inputs => []
  | .origins => [failsAt (im.origins.roles.any fun r => decide (r = .supervisor)) 0]

/-- The index of the item for which a write of a section is refused, if it is (R189). -/
def refusedIndex (working : Image) (id : SectionId) (contents : List Byte) : Option Nat :=
  let items := readItems (itemWidths id) contents
  match firstOutside 1 (itemRanges id) items with
  | some n => some n
  | none => (crossChecks id (working.put (sectionData id items))).findSome? fun x => x

end Sys2Proof.Machine
end

