-- ==== Sys2Proof/Machine/Catalogue.lean ====
section
/-! DEFINITION. The request catalogue (10.6): each request's code, minimum role, need of a valid configuration and
payload, and the two ways between a request command and the request its frame carries. -/

namespace Sys2Proof.Machine

/-- One row of the catalogue. The length of WRITE_CONFIG depends on the section named and is not in the row. -/
structure CatalogueRow where
  code : Nat
  minRole : Role
  needsValid : Bool
  length : Nat
deriving DecidableEq, Repr

/-- The code of WRITE_CONFIG (10.6). -/
abbrev writeConfigCode : Nat := 0x31

/-- The catalogue of 10.6, with the four requests that need no valid configuration (R179). -/
def catalogue : List CatalogueRow := [
  ⟨0x01, .operator, true, 7⟩, ⟨0x02, .operator, true, 7⟩, ⟨0x03, .operator, true, 2⟩, ⟨0x04, .observer, true, 2⟩,
  ⟨0x05, .observer, true, 4⟩, ⟨0x10, .observer, true, 1⟩, ⟨0x11, .operator, true, 1⟩, ⟨0x12, .operator, true, 1⟩,
  ⟨0x13, .supervisor, true, 1⟩, ⟨0x14, .supervisor, true, 1⟩, ⟨0x15, .supervisor, true, 2⟩,
  ⟨0x16, .supervisor, true, 1⟩, ⟨0x17, .supervisor, true, 1⟩, ⟨0x18, .supervisor, true, 1⟩,
  ⟨0x19, .supervisor, true, 1⟩, ⟨0x1A, .observer, true, 2⟩, ⟨0x20, .operator, true, 1⟩,
  ⟨0x21, .supervisor, true, 1⟩, ⟨0x22, .observer, false, 0⟩, ⟨0x23, .observer, true, 0⟩,
  ⟨0x30, .observer, false, 1⟩, ⟨0x31, .supervisor, false, 0⟩, ⟨0x32, .supervisor, false, 0⟩]

/-- The catalogue row of a request code. -/
def catalogueRow (code : Byte) : Option CatalogueRow := catalogue.find? fun row => row.code = code.toNat

/-- The section a code names (11.2). -/
def sectionOf (code : Byte) : Option SectionId :=
  match code.toNat with
  | 1 => some .roster
  | 2 => some .engineTable
  | 3 => some .locoTable
  | 4 => some .timing
  | 5 => some .thresholds
  | 6 => some .staging
  | 7 => some .arbiter
  | 8 => some .inputs
  | 9 => some .origins
  | _ => none

/-- The fixed length of a section in bytes (11.2). -/
def sectionLength : SectionId → Nat
  | .roster => 2
  | .engineTable => 36
  | .locoTable => 18
  | .timing => 21
  | .thresholds => 20
  | .staging => 7
  | .arbiter => 6
  | .inputs => 8
  | .origins => 16

/-- The payload length is the one the code requires; for WRITE_CONFIG, the one required by the section its first
payload byte names (R179, check 1). -/
def lengthFits (row : CatalogueRow) (payload : List Byte) : Bool :=
  if row.code = writeConfigCode then
    match payload with
    | [] => false
    | sec :: contents =>
      match sectionOf sec with
      | none => false
      | some id => contents.length = sectionLength id
  else payload.length = row.length

/-- The request a command's frame carries (10.2, 10.6); none for the events. -/
def requestOf : Instr → Option Request
  | .post c kind scope vp v e => some ⟨0x01, c.tag, c.origin, [kind, scope, vp] ++ wordBytes v ++ wordBytes e⟩
  | .amend c slot gen vp v e => some ⟨0x02, c.tag, c.origin, [slot, gen, vp] ++ wordBytes v ++ wordBytes e⟩
  | .retire c slot gen => some ⟨0x03, c.tag, c.origin, [slot, gen]⟩
  | .readEntry c slot gen => some ⟨0x04, c.tag, c.origin, [slot, gen]⟩
  | .listEntries c kind engine origin start => some ⟨0x05, c.tag, c.origin, [kind, engine, origin, start]⟩
  | .readEngine c engine => some ⟨0x10, c.tag, c.origin, [engine]⟩
  | .start c engine => some ⟨0x11, c.tag, c.origin, [engine]⟩
  | .stop c engine => some ⟨0x12, c.tag, c.origin, [engine]⟩
  | .isolate c engine => some ⟨0x13, c.tag, c.origin, [engine]⟩
  | .restore c engine => some ⟨0x14, c.tag, c.origin, [engine]⟩
  | .setHold c engine hold => some ⟨0x15, c.tag, c.origin, [engine, hold]⟩
  | .step c engine => some ⟨0x16, c.tag, c.origin, [engine]⟩
  | .ackTrip c engine => some ⟨0x17, c.tag, c.origin, [engine]⟩
  | .clearLockout c engine => some ⟨0x18, c.tag, c.origin, [engine]⟩
  | .clearPickupFault c engine => some ⟨0x19, c.tag, c.origin, [engine]⟩
  | .readCounters c engine clear => some ⟨0x1A, c.tag, c.origin, [engine, clear]⟩
  | .setDemand c notch => some ⟨0x20, c.tag, c.origin, [notch]⟩
  | .selectSource c source => some ⟨0x21, c.tag, c.origin, [source]⟩
  | .readStatus c => some ⟨0x22, c.tag, c.origin, []⟩
  | .readPlan c => some ⟨0x23, c.tag, c.origin, []⟩
  | .readConfig c sec => some ⟨0x30, c.tag, c.origin, [sec]⟩
  | .writeConfig c sec contents => some ⟨0x31, c.tag, c.origin, sec :: contents⟩
  | .restart c => some ⟨0x32, c.tag, c.origin, []⟩
  | _ => none

/-- The command that takes a request at its owning block (10.6); none for an unknown code or another payload length. -/
def commandOf (r : Request) : Option Instr :=
  let c : Caller := ⟨r.origin, r.tag⟩
  match r.code.toNat, r.payload with
  | 0x01, [kind, scope, vp, vh, vl, eh, el] => some (.post c kind scope vp (wordOf vh vl) (wordOf eh el))
  | 0x02, [slot, gen, vp, vh, vl, eh, el] => some (.amend c slot gen vp (wordOf vh vl) (wordOf eh el))
  | 0x03, [slot, gen] => some (.retire c slot gen)
  | 0x04, [slot, gen] => some (.readEntry c slot gen)
  | 0x05, [kind, engine, origin, start] => some (.listEntries c kind engine origin start)
  | 0x10, [engine] => some (.readEngine c engine)
  | 0x11, [engine] => some (.start c engine)
  | 0x12, [engine] => some (.stop c engine)
  | 0x13, [engine] => some (.isolate c engine)
  | 0x14, [engine] => some (.restore c engine)
  | 0x15, [engine, hold] => some (.setHold c engine hold)
  | 0x16, [engine] => some (.step c engine)
  | 0x17, [engine] => some (.ackTrip c engine)
  | 0x18, [engine] => some (.clearLockout c engine)
  | 0x19, [engine] => some (.clearPickupFault c engine)
  | 0x1A, [engine, clear] => some (.readCounters c engine clear)
  | 0x20, [notch] => some (.setDemand c notch)
  | 0x21, [source] => some (.selectSource c source)
  | 0x22, [] => some (.readStatus c)
  | 0x23, [] => some (.readPlan c)
  | 0x30, [sec] => some (.readConfig c sec)
  | 0x31, sec :: contents => some (.writeConfig c sec contents)
  | 0x32, [] => some (.restart c)
  | _, _ => none

/-- The bytes over which a request frame's CRC is formed: payload length to last payload byte (R173). -/
def requestBody (r : Request) : List Byte := [byte r.payload.length, r.code, r.tag, r.origin] ++ r.payload

/-- The request frame of 10.2: marker A5h, the body, and its CRC high byte first. -/
def requestFrame (r : Request) : List Byte := 0xA5 :: (requestBody r ++ wordBytes (crc16 (requestBody r)))

end Sys2Proof.Machine
end

