-- ==== Sys2Proof/Machine/Ops.lean ====
section
/-! DEFINITION. The named operations that every meaning is written over: one setter for each block of the state, the
events blocks hand each other, what each block reads of another, the outputs, the Restriction Table with its resolved
limits, and the notice flags' neighbours. -/

namespace Sys2Proof.Machine

/-! ## One setter for each field -/

/-- Replace lic. -/
def State.setLic (s : State) (x : Lines Filter) : State := { s with lic := x }

/-- Replace dsl. -/
def State.setDsl (s : State) (x : Dsl) : State := { s with dsl := x }

/-- Replace table. -/
def State.setTable (s : State) (x : List Slot) : State := { s with table := x }

/-- Replace limits. -/
def State.setLimits (s : State) (x : Limits) : State := { s with limits := x }

/-- Replace plan. -/
def State.setPlan (s : State) (x : Plan) : State := { s with plan := x }

/-- Replace engines. -/
def State.setEngines (s : State) (x : PerEngine EngineRec) : State := { s with engines := x }

/-- Replace car. -/
def State.setCar (s : State) (x : Car) : State := { s with car := x }

/-- Replace sensing. -/
def State.setSensing (s : State) (x : PerEngine Sensing) : State := { s with sensing := x }

/-- Replace bsm. -/
def State.setBsm (s : State) (x : Bsm) : State := { s with bsm := x }

/-- Replace dct. -/
def State.setDct (s : State) (x : Dct) : State := { s with dct := x }

/-- Replace cli. -/
def State.setCli (s : State) (x : Cli) : State := { s with cli := x }

/-- Replace cfs. -/
def State.setCfs (s : State) (x : Cfs) : State := { s with cfs := x }

/-- Replace resetting. -/
def State.setResetting (s : State) (x : Option ResetKind) : State := { s with resetting := x }

/-- Replace handed. -/
def State.setHanded (s : State) (x : List Event) : State := { s with handed := x }

/-- Replace freeCount. -/
def State.setFreeCount (s : State) (x : Nat) : State := { s with freeCount := x }

/-- Replace pending. -/
def State.setPending (s : State) (x : List Instr) : State := { s with pending := x }

/-- Replace the record of one engine. -/
def State.setEng (s : State) (k : Engine) (r : EngineRec) : State := s.setEngines (s.engines.set k r)

/-- Replace the sensing set of one engine. -/
def State.setSense (s : State) (k : Engine) (x : Sensing) : State := s.setSensing (s.sensing.set k x)

/-- Replace the working counters of one engine. -/
def State.setDuty (s : State) (k : Engine) (d : Duty) : State := s.setDct { s.dct with duty := s.dct.duty.set k d }

/-! ## Events between blocks -/

/-- Hand events on, in the order given. -/
def State.emitAll (s : State) (es : List Event) : State := s.setHanded (s.handed ++ es)

/-- Hand one event on. -/
def State.emit (s : State) (e : Event) : State := s.emitAll [e]

/-- The first event of a kind, with what it carries, and the events left. -/
def takeFirst {α : Type} (p : Event → Option α) : List Event → Option (α × List Event)
  | [] => none
  | e :: es =>
    match p e with
    | some a => some (a, es)
    | none => (takeFirst p es).map fun x => (x.1, e :: x.2)

/-- Take the oldest handed event of a kind and act on it; with none handed there is nothing to take (log entry 3). -/
def State.take {α : Type} (s : State) (p : Event → Option α) (act : α → State → State) : State :=
  match takeFirst p s.handed with
  | some (a, rest) => act a (s.setHanded rest)
  | none => s

/-- While the part is held in reset every block stops (R156, R187, R195). -/
def State.running (s : State) (act : State → State) : State := if s.resetting.isSome then s else act s

/-! ## Configuration in use (R188) -/

/-- The configuration is valid while all nine sections are VALID (R188). -/
def State.valid (s : State) : Bool := decide (s.cfs.marks = Marks.same true)

/-- The values the blocks work from: the working image while the configuration is valid, else the defaults of every
section (R188). DEDUCED: a value written is in use from the event of the apply, for the planner too, whose re-plan of the
apply may come later (R193; log entry 39). -/
def State.cfg (s : State) : Image := if s.valid then s.cfs.working else .defaults

/-- A configuration write is in flight (11.1). -/
def State.writing (s : State) : Bool := s.cfs.write.isSome

/-- Engine k is fitted under the fitted count in use (5.1, R191). -/
def State.fitted (s : State) (k : Engine) : Bool := fittedBy s.cfg.roster.fitted k

/-- The fitted engines in ascending number. -/
def State.fittedEngines (s : State) : List Engine := Engine.all.filter s.fitted

/-- Do something for every fitted engine, in ascending number. -/
def State.forFitted (s : State) (act : Engine → State → State) : State :=
  s.fittedEngines.foldl (fun t k => act k t) s

/-- Row n of a nine-row table. -/
def row (table : List Nat) (n : Nat) : Nat := table.getD n 0

/-- EN[n].rpm in use. -/
def State.enRpm (s : State) (n : Nat) : Nat := row s.cfg.engineTable.rpm n

/-- EN[n].kW in use. -/
def State.enKw (s : State) (n : Nat) : Nat := row s.cfg.engineTable.kw n

/-- LP[n] in use. -/
def State.lp (s : State) (n : Nat) : Nat := row s.cfg.locoTable.lp n

/-- The role of an origin in use (R178). -/
def State.role (s : State) (origin : Byte) : Role := s.cfg.origins.roles.getD origin.toNat .none

/-! ## What one block reads of another -/

/-- The filtered level of an input. -/
def State.level (s : State) (i : Input) : Bool := (s.lic.get i).level

/-- The run line state: RUN (R6). -/
def State.runLine (s : State) : Bool := s.lic.run.level

/-- The emergency line state: EMERGENCY (R6). -/
def State.emergency (s : State) : Bool := s.lic.emergency.level

/-- The lube switch of an engine is made. -/
def State.lubeMade (s : State) (k : Engine) : Bool := (s.lic.lube.get k).level

/-- The isolation condition: switch made or request flag set (R115). -/
def State.isoCond (s : State) (k : Engine) : Bool := (s.lic.iso.get k).level || (s.engines.get k).isoRequest

/-- The demand notch D (R11). -/
def Dsl.demand (d : Dsl) : Nat :=
  match d.source with
  | .trainline => d.decoded
  | .link => d.linkDemand

/-- The record of an engine. -/
def State.eng (s : State) (k : Engine) : EngineRec := s.engines.get k

/-- The sensing set of an engine. -/
def State.sense (s : State) (k : Engine) : Sensing := s.sensing.get k

/-- A pickup of a sensing set. -/
def Sensing.pickup (x : Sensing) : Pickup → PickupState
  | .a => x.a
  | .b => x.b

/-- Replace one pickup of a sensing set. -/
def Sensing.setPickup (x : Sensing) (p : Pickup) (v : PickupState) : Sensing :=
  match p with
  | .a => { x with a := v }
  | .b => { x with b := v }

/-- The speed a reading stands for: none before the first update, 0 when SILENT (R135, R136). -/
def Reading.speed : Reading → Option Nat
  | .notMeasured => none
  | .silent => some 0
  | .good v _ => some v

/-- The selected speed; none while not yet measured (R136). -/
def Sensing.selected (x : Sensing) : Option Nat := (x.pickup x.selection).reading.speed

/-- Both pickups are SILENT (R136). -/
def Sensing.bothSilent (x : Sensing) : Bool := decide (x.a.reading = .silent) && decide (x.b.reading = .silent)

/-- The selected speed is below the stopped threshold; a speed not yet measured is not (R71, R193). -/
def State.atRest (s : State) (k : Engine) : Bool :=
  match (s.sense k).selected with
  | none => false
  | some v => v < s.cfg.thresholds.stopped || (s.sense k).bothSilent

/-- The states at rest for a configuration write or a RESTART (R191, R196). -/
def EState.resting : EState → Bool
  | .isolated | .stopped | .tripped => true
  | _ => false

/-- The start path (R67). -/
def EState.startPath : EState → Bool
  | .prelube | .crankWait | .cranking | .crankRest | .runup => true
  | _ => false

/-- Every fitted engine is STOPPED, ISOLATED or TRIPPED. -/
def State.allResting (s : State) : Bool := s.fittedEngines.all fun k => (s.eng k).state.resting

/-- The engine is in the online set: ONLINE without a stop pending (R46). -/
def EngineRec.inO (r : EngineRec) : Bool := decide (r.state = .online) && !r.stopPending

/-- The allocation and target the sequencer uses: the pair handed while in the online set, else 0 and 0 (R62). -/
def EngineRec.pairInUse (r : EngineRec) : Pair := if r.inO then r.pair else ⟨0, 0⟩

/-- The supply counts as held for the arbiter: always in EXCLUSIVE, in SHARED while the line is HELD (R121, R126). -/
def State.supplyHeld (s : State) : Bool :=
  decide (s.cfg.arbiter.sharing = .exclusive) || decide (s.car.line = .held)

/-! ## Outputs. All are de-energised while the part is held in reset (4.2, R195). -/

/-- The crank relay output of an engine (R68). -/
def State.crankRelay (s : State) (k : Engine) : Bool :=
  s.resetting.isNone && s.fitted k && decide ((s.eng k).state = .cranking)

/-- The fuel admission output (R68): off for every engine while the configuration is invalid. -/
def State.fuel (s : State) (k : Engine) : Bool :=
  s.resetting.isNone && s.fitted k && s.valid &&
    match (s.eng k).state with
    | .cranking | .runup | .online | .cooldown => true
    | _ => false

/-- The prelube pump output (R68). -/
def State.prelubePump (s : State) (k : Engine) : Bool :=
  s.resetting.isNone && s.fitted k &&
    match (s.eng k).state with
    | .prelube | .crankWait | .cranking | .crankRest => true
    | _ => false

/-- The setpoint of a record: the ramped setpoint in ONLINE, EN[0].rpm in every other state, 0 while the
configuration is invalid (R69). -/
def State.setpointOf (s : State) (r : EngineRec) : Nat :=
  if !s.valid then 0 else if r.state = .online then r.setpoint else s.enRpm 0

/-- The governor setpoint output (R69). -/
def State.setpointOut (s : State) (k : Engine) : Nat :=
  if s.resetting.isNone && s.fitted k then s.setpointOf (s.eng k) else 0

/-- The load limit of a record: in ONLINE the smaller of the allocation in use and EN[n].kW, else 0 (R98). -/
def State.loadLimitOf (s : State) (r : EngineRec) : Nat :=
  if r.state = .online then min r.pairInUse.alloc (s.enKw r.notch) else 0

/-- The load limit output (R98). -/
def State.loadLimit (s : State) (k : Engine) : Nat :=
  if s.resetting.isNone && s.fitted k then s.loadLimitOf (s.eng k) else 0

/-- The request output is asserted in ASKING, HELD and WITHDRAWN (R128). -/
def LineState.requests : LineState → Bool
  | .asking | .held | .withdrawn => true
  | .quiet | .backoff => false

/-- APU_REQ (R128, R134). -/
def State.apuReq (s : State) : Bool := s.resetting.isNone && s.car.line.requests

/-- At least one notice flag is set (R186). -/
def Notices.any (n : Notices) : Bool :=
  n.changed.e1 || n.changed.e2 || n.changed.e3 || n.changed.e4 || n.expired || n.resetSeen || n.trainlineFault ||
    n.demandLapsed || n.powerShort

/-- LINK_ATTN: asserted while at least one notice flag is set (R186, R187). -/
def State.attention (s : State) : Bool := s.resetting.isNone && s.cli.notices.any

/-! ## The Restriction Table (chapter 2) -/

/-- The slot bound to a condition of an engine: 4(k − 1) + c; BATTERY_LOW has slot 16 (2.1). -/
def internalSlot (c : Condition) (k : Engine) : Nat :=
  match c with
  | .warmup => 4 * (k.number - 1)
  | .hot => 4 * (k.number - 1) + 1
  | .pickup => 4 * (k.number - 1) + 2
  | .lockout => 4 * (k.number - 1) + 3
  | .batteryLow => Config.batterySlot

/-- A slot of a table. -/
def slotAt (t : List Slot) (n : Nat) : Slot := t.getD n .blank

/-- A slot is LIVE (R16). -/
def Slot.live (x : Slot) : Bool := x.entry.isSome

/-- An internal condition's slot is LIVE. -/
def State.stands (s : State) (c : Condition) (k : Engine) : Bool := (slotAt s.table (internalSlot c k)).live

/-- BATTERY_LOW stands. -/
def State.batteryLow (s : State) : Bool := (slotAt s.table Config.batterySlot).live

/-- The next generation of a slot: 1 after 0 and after 255 (R17). -/
def nextGen (g : Byte) : Byte := if g = 255 then 1 else g + 1

/-- Post an entry into a slot: the generation advances and the slot is LIVE (R17). -/
def postAt (t : List Slot) (n : Nat) (e : Entry) : List Slot := t.set n ⟨nextGen (slotAt t n).gen, some e⟩

/-- Free a slot: the generation is kept (R17). -/
def freeAt (t : List Slot) (n : Nat) : List Slot := t.set n ⟨(slotAt t n).gen, none⟩

/-- Change the entry of a slot in place: the generation is kept (R17). -/
def amendAt (t : List Slot) (n : Nat) (e : Entry) : List Slot := t.set n ⟨(slotAt t n).gen, some e⟩

/-- The live entries of a table. -/
def liveEntries (t : List Slot) : List Entry := t.filterMap Slot.entry

/-- The entry's scope contains engine k; LOCOMOTIVE contains none (R29). -/
def Entry.covers (e : Entry) (k : Engine) : Bool :=
  match e.scope with
  | .engines set => set.get k
  | .locomotive => false

/-- The least of some numbers, none of none. -/
def least : List Nat → Option Nat
  | [] => none
  | n :: ns => some (match least ns with | none => n | some m => min n m)

/-- The values of the entries of a kind. -/
def valuesOf (es : List Entry) (kind : Kind) : List Nat := (es.filter fun e => e.kind = kind).filterMap Entry.value

/-- Some entry of a kind covers engine k (R38). -/
def demanded (es : List Entry) (kind : Kind) (k : Engine) : Bool := es.any fun e => decide (e.kind = kind) && e.covers k

/-- ceiling_k: the lowest NOTCH_CEILING value covering the engine, 8 when there is none (R37). -/
def ceilingOf (es : List Entry) (k : Engine) : Nat := (least (valuesOf (es.filter fun e => e.covers k) .notchCeiling)).getD 8

/-- The resolved limits of a table (R37, R38). -/
def resolve (t : List Slot) : Limits where
  ceiling := .of (ceilingOf (liveEntries t))
  cap := least (valuesOf (liveEntries t) .powerCap)
  inhibit := .of (demanded (liveEntries t) .startInhibit)
  stop := .of (demanded (liveEntries t) .stopDemand)
  run := .of fun k => demanded (liveEntries t) .runDemand k && !demanded (liveEntries t) .stopDemand k

/-- The limits-changed events of one change: to the Power Planner, to the sequencer of every fitted engine (with
whether its stop demand or its run demand has just come to hold), and to the Crank Arbiter (R39, R72, R100). -/
def limitsEvents (fitted : List Engine) (old new : Limits) : List Event :=
  .limits .ppl false false ::
    (fitted.map fun k =>
      .limits (.esq k) (new.stop.get k && !old.stop.get k) (new.run.get k && !old.run.get k)) ++
  [.limits .car false false]

/-- Recompute every resolved limit; when one differs, hand the limits-changed event on (R39). The limits of all four
engines are compared: an engine not fitted has ceiling 8 and no demand (log entry 28). -/
def State.recompute (s : State) : State :=
  if resolve s.table = s.limits then s
  else (s.setLimits (resolve s.table)).emitAll (limitsEvents s.fittedEngines s.limits (resolve s.table))

/-- Change the table, then recompute the limits once (R39). -/
def State.changeTable (s : State) (t : List Slot) : State := (s.setTable t).recompute

/-- The set of the fitted engines. -/
def State.fittedSet (s : State) : PerEngine Bool := .of s.fitted

/-- The set of one engine. -/
def only (k : Engine) : PerEngine Bool := .of fun j => decide (j = k)

/-- The entry of an internal condition: kind, scope and value of R19, no expiry. -/
def State.internalEntry (s : State) (c : Condition) (k : Engine) : Entry where
  owner := .internal c
  kind := match c with
    | .warmup | .hot | .pickup => .notchCeiling
    | .lockout | .batteryLow => .startInhibit
  scope := match c with
    | .batteryLow => .engines s.fittedSet
    | _ => .engines (only k)
  value := match c with
    | .warmup => some s.cfg.thresholds.warmupCeiling
    | .hot => some s.cfg.thresholds.hotCeiling
    | .pickup => some s.cfg.thresholds.degradedCeiling
    | .lockout | .batteryLow => none
  expiry := none

/-- An owner posts an internal condition of an engine: nothing for an engine not fitted or a slot already LIVE
(R33). -/
def State.postInternal (s : State) (c : Condition) (k : Engine) : State :=
  if s.fitted k && !s.stands c k then s.changeTable (postAt s.table (internalSlot c k) (s.internalEntry c k)) else s

/-- An owner retires an internal condition: nothing for a slot already FREE (R34). -/
def State.retireInternal (s : State) (c : Condition) (k : Engine) : State :=
  if s.stands c k then s.changeTable (freeAt s.table (internalSlot c k)) else s

/-- The external slots, lowest first (2.1). -/
def externalSlots : List Nat := List.range' Config.externalFirst 32

/-- The lowest FREE external slot (R23). -/
def freeExternal (t : List Slot) : Option Nat := externalSlots.find? fun n => !(slotAt t n).live

/-- The external occupancy: LIVE external slots (R16). -/
def occupancy (t : List Slot) : Nat := (externalSlots.filter fun n => (slotAt t n).live).length

/-- The binding flag of an entry, as it is when read (R41). -/
def State.binding (s : State) (e : Entry) : Bool :=
  let anyScoped (p : Engine → Bool) : Bool := s.fittedEngines.any fun k => e.covers k && p k
  match e.kind with
  | .notchCeiling => anyScoped fun k => decide (e.value = some (s.limits.ceiling.get k))
  | .powerCap => decide (e.value = s.limits.cap) && decide (e.value.getD 0 < s.lp s.dsl.demand)
  | .startInhibit => anyScoped fun k => decide ((s.eng k).state = .stopped) || decide ((s.eng k).state = .crankWait)
  | .runDemand => anyScoped fun k =>
      !s.limits.stop.get k && !decide ((s.eng k).state = .isolated) && !decide ((s.eng k).state = .tripped)
  | .stopDemand => anyScoped fun k => !(s.eng k).state.resting

end Sys2Proof.Machine
end

