-- ==== Sys2Proof/Machine/Flags.lean ====
section
/-! DEFINITION. The notice flags: each is set by the event and cleared by the read that R186 names. The attention line
follows them (State.attention). -/

namespace Sys2Proof.Machine

/-- Change the notice flags. -/
def State.setNotices (s : State) (n : Notices) : State := s.setCli { s.cli with notices := n }

/-- An engine's changed flag: set by a state change or by held becoming yes (R70). -/
def State.flagChanged (s : State) (k : Engine) : State :=
  s.setNotices { s.cli.notices with changed := s.cli.notices.changed.set k true }

/-- READ_ENGINE clears its engine's changed flag (R183); so does an apply that leaves the engine unfitted (R193). -/
def State.clearChanged (s : State) (k : Engine) : State :=
  s.setNotices { s.cli.notices with changed := s.cli.notices.changed.set k false }

/-- EXPIRED is set by an expiry count that retires an entry (R31). -/
def State.flagExpired (s : State) : State := s.setNotices { s.cli.notices with expired := true }

/-- Each change of TRAINLINE_FAULT sets its change flag (R10). -/
def State.flagTrainlineFault (s : State) : State := s.setNotices { s.cli.notices with trainlineFault := true }

/-- A lapse of the link demand sets DEMAND_LAPSED (R14). -/
def State.flagDemandLapsed (s : State) : State := s.setNotices { s.cli.notices with demandLapsed := true }

/-- Each change of POWER_SHORT sets its change flag (R55). -/
def State.flagPowerShort (s : State) : State := s.setNotices { s.cli.notices with powerShort := true }

/-- READ_STATUS clears the five locomotive flags and leaves the changed flags (R184). -/
def State.clearStatusNotices (s : State) : State :=
  s.setNotices ⟨s.cli.notices.changed, false, false, false, false, false⟩

/-- The notice byte of READ_STATUS: bit 0 EXPIRED to bit 4 POWER_SHORT change (R184). -/
def noticeByte (n : Notices) : Byte :=
  byte ((if n.expired then 1 else 0) + (if n.resetSeen then 2 else 0) + (if n.trainlineFault then 4 else 0) +
    (if n.demandLapsed then 8 else 0) + (if n.powerShort then 16 else 0))

/-- A set of engines as bits 0 to 3 (R180, R184). -/
def engineBits (set : PerEngine Bool) : Byte :=
  byte ((if set.e1 then 1 else 0) + (if set.e2 then 2 else 0) + (if set.e3 then 4 else 0) + (if set.e4 then 8 else 0))

end Sys2Proof.Machine
end

