-- ==== Sys2Proof/Machine/Operands.lean ====
section
/-! DEFINITION. How the fields of a request are read (R180) and how a request is served: the common checks in their
order (R179), the handing to the owning block, and the one response (R174, R177). -/

namespace Sys2Proof.Machine

/-! ## Fields (R180) -/

/-- Engine byte. -/
def engineField (b : Byte) : Option Engine := Engine.ofNumber? b.toNat

/-- Kind byte. -/
def kindField (b : Byte) : Option Kind :=
  match b.toNat with
  | 1 => some .notchCeiling
  | 2 => some .powerCap
  | 3 => some .startInhibit
  | 4 => some .runDemand
  | 5 => some .stopDemand
  | _ => none

/-- The code of a kind. -/
def kindCode : Kind → Byte
  | .notchCeiling => 1
  | .powerCap => 2
  | .startInhibit => 3
  | .runDemand => 4
  | .stopDemand => 5

/-- Scope byte: 80h LOCOMOTIVE, bits 0 to 3 engines, anything else names no scope. -/
def scopeField (b : Byte) : Option Scope :=
  if b = 0x80 then some .locomotive
  else if b.toNat < 16 then
    some (.engines ⟨b.getLsbD 0, b.getLsbD 1, b.getLsbD 2, b.getLsbD 3⟩)
  else none

/-- The code of a scope. -/
def scopeCode : Scope → Byte
  | .locomotive => 0x80
  | .engines set => engineBits set

/-- A yes or no byte: value present, clear. -/
def yesNoField (b : Byte) : Option Bool :=
  match b.toNat with
  | 0 => some false
  | 1 => some true
  | _ => none

/-- Hold point byte. -/
def holdField (b : Byte) : Option HoldPoint :=
  match b.toNat with
  | 0 => some .none
  | 1 => some .beforeCrank
  | 2 => some .beforeOnline
  | _ => none

/-- Source byte. -/
def sourceField (b : Byte) : Option Source :=
  match b.toNat with
  | 0 => some .trainline
  | 1 => some .link
  | _ => none

/-! ## Serving a request -/

/-- What an owning block returns: a status and the reply. -/
structure Reply where
  status : Status
  payload : List Byte
deriving DecidableEq, Repr

/-- A refusal, or an OK without a reply: the payload is empty (R177). -/
def Reply.bare (st : Status) : Reply := ⟨st, []⟩

/-- The common checks of R179 in their order; none when they pass. -/
def State.commonCheck (s : State) (r : Request) : Option Status :=
  match catalogueRow r.code with
  | none => some .badRequest
  | some row =>
    if !(lengthFits row r.payload) || decide (15 < r.origin.toNat) then some .badRequest
    else if (s.role r.origin).rank < row.minRole.rank then some .notPermitted
    else if row.needsValid && !s.valid then some .configInvalid
    else none

/-- Keep the last status and reply (model's own view of what the requester is told). -/
def State.setAnswer (s : State) (r : Request) (rep : Reply) (placed : Bool) : State :=
  s.setCli { s.cli with answer := some ⟨r.code, r.tag, rep.status, rep.payload, placed⟩ }

/-- Mark the oldest unserved request as served (R174). -/
def markServed : List Intake → List Intake
  | [] => []
  | x :: xs => if x.served then x :: markServed xs else { x with served := true } :: xs

/-- Queue the response of the request being served at the tail; the request is then served (R174). -/
def State.respond (s : State) (r : Request) (rep : Reply) : State :=
  let t := s.setAnswer r rep true
  t.setCli { t.cli with
    responses := t.cli.responses ++ [⟨r.code, r.tag, rep.status, rep.payload, true⟩]
    intake := markServed t.cli.intake
    serving := none }

/-- The owning block takes a request (R174). Over the link it is the request the CLI has handed on, its common checks
passed, and the response is queued; any other request finds the CLI serving and is not taken. With nothing being served
the command stands for the whole service away from the link: the common checks, the owner, and the answer kept in the
state, with no intake place and no frame (log entry 2). -/
def State.serve (s : State) (r : Request) (owner : State → State × Reply) : State :=
  if s.resetting.isSome || s.cli.restarting then s
  else
    match s.cli.serving with
    | some r' => if r' = r then (owner s).1.respond r (owner s).2 else s
    | none =>
      match s.commonCheck r with
      | some st => s.setAnswer r (.bare st) false
      | none => (owner s).1.setAnswer r (owner s).2 false

/-- A request command taken at its owning block; an event is no request. -/
def State.serveCommand (s : State) (c : Instr) (owner : State → State × Reply) : State :=
  match requestOf c with
  | some r => s.serve r owner
  | none => s

/-- The owner's handling of an engine request: a number naming no engine or one not fitted is refused BAD_VALUE
(R180). -/
def State.forEngine (s : State) (engine : Byte) (act : Engine → State → State × Reply) : State × Reply :=
  match engineField engine with
  | some k => if s.fitted k then act k s else (s, .bare .badValue)
  | none => (s, .bare .badValue)

end Sys2Proof.Machine
end

