-- ==== Sys2Proof/Machine/DutyCounters.lean ====
section
/-! DEFINITION. The Duty Counters (chapter 9): the lockout test, save requests, counting, READ_COUNTERS, CLEAR_LOCKOUT
and the writes of the counter store. -/

namespace Sys2Proof.Machine

/-- An advance by 1 that saturates (R160). -/
def satSucc (n : Nat) : Nat := if n < Config.counterMax then n + 1 else Config.counterMax

/-- The working counters of an engine. -/
def State.dutyOf (s : State) (k : Engine) : Duty := s.dct.duty.get k

/-- The causes that add to consecutive failures (R86, R161). -/
def TripCause.failedStart : TripCause → Bool
  | .noPrelube | .noStart | .runupFail => true
  | _ => false

/-- One counted event on a duty record (R161). -/
def CountedEvent.advance (e : CountedEvent) (d : DutyRecord) : DutyRecord :=
  match e with
  | .start => { d with starts := satSucc d.starts, consecutive := 0 }
  | .failed => { d with failed := satSucc d.failed }
  | .aborted => { d with aborted := satSucc d.aborted }
  | .trip c =>
    { d with
      trips := satSucc d.trips
      consecutive := if c.failedStart then satSucc d.consecutive else d.consecutive }
  | .rest => d

/-- The events come with an entry into STOPPED, ISOLATED or TRIPPED (R161). -/
def CountedEvent.saves : CountedEvent → Bool
  | .trip _ | .rest => true
  | _ => false

/-- The lockout test: at or above the lockout count in force, the LOCKOUT condition is posted into a FREE slot; nothing
is retired (R164). -/
def State.lockoutTest (s : State) (k : Engine) : State :=
  if s.cfg.thresholds.lockoutCount ≤ (s.dutyOf k).stored.consecutive then s.postInternal .lockout k else s

/-- A save request: an engine not in the queue is added at its tail; one already QUEUED is not added again (R167). -/
def State.requestSave (s : State) (k : Engine) : State :=
  if s.dct.queue.contains k then s else s.setDct { s.dct with queue := s.dct.queue ++ [k] }

/-- Counters loaded from a place of the store, or zeros for a damaged or unwritten record (R168). -/
def StoreRecord.load (r : StoreRecord) (place : Engine) : Duty :=
  match r with
  | .written e d true => if e = place then .begin d true else .begin .zero false
  | _ => .begin .zero false

/-- The save state (9.1). -/
inductive SaveState where
  | idle | queued | writing
deriving DecidableEq, Repr

/-- The save state of an engine, read from the queue and the write in flight (R167). -/
def Dct.saveState (d : Dct) (k : Engine) : SaveState :=
  if d.writing.map Prod.fst = some k then .writing else if d.queue.contains k then .queued else .idle

/-- The counter report, 66 bytes (R182). -/
def State.counterReport (s : State) (k : Engine) : List Byte :=
  let d := s.dutyOf k
  [d.stored.run, d.stored.starts, d.stored.failed, d.stored.aborted, d.stored.trips, d.stored.consecutive].flatMap be32 ++
    (List.range 9).flatMap (fun n => be32 (row d.histogram n)) ++ be16 d.runSinceSave ++
    [match s.dct.saveState k with
      | .idle => 0
      | .queued => 1
      | .writing => 2,
      bit d.restored, byte s.cfg.thresholds.lockoutCount, bit (s.stands .lockout k)]

/-- READ_COUNTERS at the Duty Counters: the report, then the clear of the histogram when asked (R166). -/
def State.readCounters (s : State) (clear : Byte) (k : Engine) : State × Reply :=
  match yesNoField clear with
  | none => (s, .bare .badValue)
  | some false => (s, ⟨.ok, s.counterReport k⟩)
  | some true => (s.setDuty k { s.dutyOf k with histogram := List.replicate 9 0 }, ⟨.ok, s.counterReport k⟩)

/-- CLEAR_LOCKOUT at the Duty Counters (R165). -/
def State.clearLockout (s : State) (k : Engine) : State × Reply :=
  let d := s.dutyOf k
  if d.stored.consecutive = 0 ∧ s.stands .lockout k = false then (s, .bare .ok)
  else
    (((s.setDuty k { d with stored := { d.stored with consecutive := 0 } }).retireInternal .lockout k).requestSave k,
      .bare .ok)

/-- Take the events of one state change: counters, then the lockout test, then the save request (R161). -/
def State.countEvents (s : State) (k : Engine) (events : List CountedEvent) : State :=
  let d := s.dutyOf k
  let t := (s.setDuty k { d with stored := events.foldl (fun r e => e.advance r) d.stored }).lockoutTest k
  if events.any CountedEvent.saves then t.requestSave k else t

/-- One second of a bin (R162). -/
def bumpBin (h : List Nat) (n : Nat) : List Nat := h.set n (satSucc (row h n))

/-- One step of the DCT count on one engine: run seconds and run since save in RUNUP, ONLINE and COOLDOWN, and the
notch's bin in ONLINE (R162). Run since save stays at 600 until the save it asks for begins. -/
def Duty.count (d : Duty) (r : EngineRec) : Duty :=
  let ran : Duty :=
    { d with
      stored := { d.stored with run := satSucc d.stored.run }
      runSinceSave := min (d.runSinceSave + 1) Config.runSinceSaveLimit }
  match r.state with
  | .runup | .cooldown => ran
  | .online => { ran with histogram := bumpBin d.histogram r.notch }
  | _ => d

/-- Begin the write of the engine at the head of the save queue: its record is not good again until the write ends
(R167, R168). -/
def State.saveBegin (s : State) : State :=
  match s.dct.writing, s.dct.queue with
  | none, k :: rest =>
    let d := s.dutyOf k
    s.setDct
      { s.dct with
        queue := rest
        writing := some (k, d.stored)
        store := s.dct.store.set k (.written k d.stored false)
        duty := s.dct.duty.set k { d with runSinceSave := 0 } }
  | _, _ => s

/-- End the write in flight: its record is good (R167, R168). -/
def State.saveEnd (s : State) : State :=
  match s.dct.writing with
  | some (k, d) => s.setDct { s.dct with writing := none, store := s.dct.store.set k (.written k d true) }
  | none => s

/-- Meaning of READ_COUNTERS. The engine is checked before the clear flag; both are refused BAD_VALUE (R166). -/
def execReadCounters (c : Caller) (engine clear : Byte) (s : State) : Host.Outcome State Fault Refusal :=
  .next (s.serveCommand (.readCounters c engine clear) fun t =>
    t.forEngine engine fun k u => u.readCounters clear k)

/-- Meaning of CLEAR_LOCKOUT. -/
def execClearLockout (c : Caller) (engine : Byte) (s : State) : Host.Outcome State Fault Refusal :=
  .next (s.serveCommand (.clearLockout c engine) fun t => t.forEngine engine fun k u => u.clearLockout k)

/-- Meaning of DCT_COUNT: one step of the 1 s count on every fitted engine (R162). -/
def execDctCount (s : State) : Host.Outcome State Fault Refusal :=
  .next (s.running fun t =>
    t.setDct { t.dct with
      duty := .of fun k => if t.fitted k then (t.dutyOf k).count (t.eng k) else t.dutyOf k })

/-- Meaning of RUN_SINCE_SAVE_FULL: run since save at 600 requests a save of the engine (R162). -/
def execRunSinceSaveFull (k : Engine) (s : State) : Host.Outcome State Fault Refusal :=
  .next (s.running fun t =>
    if t.fitted k ∧ (t.dutyOf k).runSinceSave = Config.runSinceSaveLimit then t.requestSave k else t)

/-- Meaning of COUNTED_EVENT: the events of one state change of the engine, oldest first, are taken as one event
(R161). DESIGN CHOICE: other commands may be taken between a trip and its COUNTED_EVENT, ACK_TRIP among them, so LOCKOUT may
be posted on an engine that is no longer TRIPPED (R164; log entry 41). -/
def execCountedEvent (k : Engine) (s : State) : Host.Outcome State Fault Refusal :=
  .next (s.running fun t =>
    t.take (fun e => match e with | .counted j es => if j = k then some es else none | _ => none) fun es u =>
      if u.fitted k then u.countEvents k es else u)

/-- Meaning of SAVE_WRITE_BEGIN. -/
def execSaveWriteBegin (s : State) : Host.Outcome State Fault Refusal := .next (s.running State.saveBegin)

/-- Meaning of SAVE_WRITE_END. -/
def execSaveWriteEnd (s : State) : Host.Outcome State Fault Refusal := .next (s.running State.saveEnd)

end Sys2Proof.Machine
end

