-- ==== Sys2Proof/Machine/Reports.lean ====
section
/-! DEFINITION. READ_STATUS and READ_PLAN (R63, R184, R185). -/

namespace Sys2Proof.Machine

/-- The reset cause, 1 POWER_ON to 3 RESTART (R184). -/
def resetCauseCode : Option ResetKind → Byte
  | none => 0
  | some .powerOn => 1
  | some .supplyDip => 2
  | some .restart => 3

/-- The phase, 1 IDLE to 3 RECOVERY. -/
def Phase.code : Phase → Byte
  | .idle => 1
  | .granted => 2
  | .recovery => 3

/-- The line state, 1 QUIET to 5 BACKOFF. -/
def LineState.code : LineState → Byte
  | .quiet => 1
  | .asking => 2
  | .held => 3
  | .withdrawn => 4
  | .backoff => 5

/-- An engine number, 0 for none. -/
def engineCode : Option Engine → Byte
  | none => 0
  | some k => byte k.number

/-- The four places of the crank queue, 0 beyond its length. -/
def queueBytes (queue : List Engine) : List Byte := (List.range 4).map fun n => engineCode queue[n]?

/-- The gap remaining in 0.1 s: 0 outside RECOVERY (R133). -/
def State.gapRemaining (s : State) : Nat :=
  match s.car.phase, s.car.gapTimer with
  | .recovery, some n => s.cfg.arbiter.crankGap - n
  | _, _ => 0

/-- A voltage, FFFFh for none. -/
def voltageBytes (v : Option Nat) : List Byte := be16 (v.getD 0xFFFF)

/-- The changed flags, one bit for each engine (R184). -/
def changedByte (n : Notices) : Byte := engineBits n.changed

/-- The reset, configuration, line, demand and table groups of the status report. -/
def State.statusFront (s : State) : List Byte :=
  [resetCauseCode s.cfs.cause, bit s.valid, bit s.writing, bit s.runLine, bit s.emergency,
    bit (decide (s.dsl.source = .link)), byte s.dsl.demand, byte s.dsl.decoded, byte s.dsl.linkDemand, bit s.dsl.lapsed,
    bit s.dsl.fault, byte (occupancy s.table)]

/-- The arbiter group of the status report. -/
def State.statusArbiter (s : State) : List Byte :=
  [s.car.phase.code, engineCode s.car.holder, byte s.car.queue.length] ++ queueBytes s.car.queue ++
    be16 s.gapRemaining ++
    [bit (decide (s.cfg.arbiter.sharing = .shared)), s.car.line.code, bit s.apuReq, bit (s.level .gnt)]

/-- The battery and notice groups of the status report. -/
def State.statusBack (s : State) : List Byte :=
  voltageBytes s.bsm.sample ++ [byte s.bsm.low, byte s.bsm.high, byte s.bsm.sag, s.bsm.phase.code] ++
    voltageBytes s.bsm.crankMin ++ [bit s.batteryLow, noticeByte s.cli.notices, changedByte s.cli.notices]

/-- The status report, 36 bytes (R184). -/
def State.statusReport (s : State) : List Byte := s.statusFront ++ s.statusArbiter ++ s.statusBack

/-- READ_STATUS: the report, and in the same event the five locomotive flags are cleared (R184). -/
def State.readStatus (s : State) : State × Reply := (s.clearStatusNotices, ⟨.ok, s.statusReport⟩)

/-- The number of engines of a set. -/
def countOf (set : PerEngine Bool) : Nat := (Engine.all.filter set.get).length

/-- A staging start: on the start path with start reason STAGING, held or not (R47). -/
def EngineRec.staging (r : EngineRec) : Bool := r.state.startPath && decide (r.startReason = some .staging)

/-- The engine in a staging start (R47). -/
def State.stagingEngine (s : State) : Option Engine := s.fittedEngines.find? fun k => (s.eng k).staging

/-- A dwell remaining in 0.1 s, FFFFh for NOT_COUNTING (R63, R185). -/
def dwellBytes (timer : Option Nat) (dwell : Nat) : List Byte :=
  match timer with
  | none => be16 0xFFFF
  | some n => be16 (dwell - n)

/-- The plan's figures of one engine; 0 in every field for one not fitted (R185). -/
def State.planOf (s : State) (k : Engine) : List Byte :=
  if s.fitted k then
    be16 (s.plan.pairs.get k).alloc ++ [byte (s.plan.pairs.get k).target] ++ be16 (s.loadLimit k)
  else [0, 0, 0, 0, 0]

/-- A cap, as a presence byte and two bytes. -/
def capBytes : Option Nat → List Byte
  | none => [0, 0, 0]
  | some n => 1 :: be16 n

/-- The plan report, 35 bytes (R185). DEDUCED: D, the cap and the engine in a staging start are given as they stand, P, C_O,
|O|, the timers, POWER_SHORT and the pairs as the plan holds them (R63; log entry 38). -/
def State.planReport (s : State) : List Byte :=
  [byte s.dsl.demand] ++ be16 s.plan.p ++ capBytes s.limits.cap ++ be16 s.plan.co ++ [byte (countOf s.plan.online)] ++
    dwellBytes s.plan.startTimer s.cfg.staging.startDwell ++ dwellBytes s.plan.shedTimer s.cfg.staging.shedDwell ++
    [engineCode s.stagingEngine, bit s.plan.short] ++ Engine.all.flatMap s.planOf

/-- READ_PLAN: the report, changing nothing (R63). -/
def State.readPlan (s : State) : State × Reply := (s, ⟨.ok, s.planReport⟩)

/-- Meaning of READ_STATUS. -/
def execReadStatus (c : Caller) (s : State) : Host.Outcome State Fault Refusal :=
  .next (s.serveCommand (.readStatus c) State.readStatus)

/-- Meaning of READ_PLAN. -/
def execReadPlan (c : Caller) (s : State) : Host.Outcome State Fault Refusal :=
  .next (s.serveCommand (.readPlan c) State.readPlan)

end Sys2Proof.Machine
end

