-- ==== Sys2Proof/Machine/Planner.lean ====
section
/-! DEFINITION. The Power Planner (chapter 3): capped demand, online set and capacity, the start and shed decisions with
their dwell timers, water-filling, target notches and what is handed on. -/

namespace Sys2Proof.Machine

/-- Change the plan held. -/
def State.modPlan (s : State) (f : Plan → Plan) : State := s.setPlan (f s.plan)

/-- Stage 1: the capped demand P (R45). -/
def State.cappedDemand (s : State) : Nat :=
  if !s.runLine || s.emergency || !s.valid then 0
  else
    match s.limits.cap with
    | none => s.lp s.dsl.demand
    | some c => min c (s.lp s.dsl.demand)

/-- Stage 2: the online set (R46). -/
def State.onlineSet (s : State) : PerEngine Bool := .of fun k => s.fitted k && (s.eng k).inO

/-- EN[ceiling_k].kW, the capacity of an engine (R46). -/
def State.capOf (s : State) (k : Engine) : Nat := s.enKw (s.limits.ceiling.get k)

/-- The engines of a set, in ascending number. -/
def members (set : PerEngine Bool) : List Engine := Engine.all.filter set.get

/-- Run seconds as the planner reads them (R163). -/
def State.runSeconds (s : State) (k : Engine) : Nat := (s.dct.duty.get k).stored.run

/-- The engine with the lowest run seconds, ties to the earlier in the list (R52, R53). -/
def lowestRun (run : Engine → Nat) : List Engine → Option Engine
  | [] => none
  | k :: ks =>
    match lowestRun run ks with
    | none => some k
    | some j => if run j < run k then some j else some k

/-- The engine with the highest run seconds, ties to the later in the list (R56). -/
def highestRun (run : Engine → Nat) : List Engine → Option Engine
  | [] => none
  | k :: ks =>
    match highestRun run ks with
    | none => some k
    | some j => if run j < run k then some k else some j

/-- A recall candidate: ONLINE with a stop pending, or in COOLDOWN, with reason SHED (R52). -/
def EngineRec.recallable (r : EngineRec) : Bool :=
  decide (r.stopReason = some .shed) && (decide (r.state = .online) && r.stopPending || decide (r.state = .cooldown))

/-- The recall candidates (R52). -/
def State.recallCandidates (s : State) : List Engine := s.fittedEngines.filter fun k => (s.eng k).recallable

/-- The new-start candidates (R53). -/
def State.newStartCandidates (s : State) : List Engine :=
  s.fittedEngines.filter fun k =>
    decide ((s.eng k).state = .stopped) && !s.limits.inhibit.get k && !s.limits.stop.get k && !s.isoCond k &&
      s.atRest k && decide (1 ≤ s.capOf k)

/-- The start order that would be handed: a recall when there is a recall candidate, else a new start (R52, R53). -/
def State.startOrder (s : State) : Option Event :=
  match lowestRun s.runSeconds s.recallCandidates with
  | some k => some (.recall k)
  | none => (lowestRun s.runSeconds s.newStartCandidates).map fun k => .startOrder k .staging

/-- The number of engines in a staging start (R47, R48), by the records as they stand at the evaluation. DEDUCED: at a planner
count they stand beside the O held, so an engine that has come ONLINE counts in neither until its re-plan (log entry
37). -/
def State.stagingCount (s : State) : Nat := (s.fittedEngines.filter fun k => (s.eng k).staging).length

/-- The capacity clause of R48, on the P held. DEDUCED: at a planner count between the drop of the run line and its re-plan
that P still stands, and the clause can hold (R44; log entry 36). -/
def State.capacityClause (s : State) : Bool :=
  decide (s.cfg.staging.startPct * s.plan.co < 100 * s.plan.p) &&
    decide (countOf s.plan.online + s.stagingCount < s.cfg.roster.fitted)

/-- The minimum clause of R48. -/
def State.minimumClause (s : State) : Bool :=
  s.runLine && decide (countOf s.plan.online + s.stagingCount < s.cfg.staging.minOnline)

/-- The start condition (R48). -/
def State.startCondition (s : State) : Bool := s.capacityClause || s.minimumClause

/-- A condition of R49 holds. -/
def State.startBlocked (s : State) : Bool := !s.valid || s.writing || s.emergency

/-- A timer that starts at 0 if it was STOPPED (R50, R58). -/
def startedAt0 (timer : Option Nat) : Option Nat := some (timer.getD 0)

/-- A timer that has counted a dwell. -/
def complete (timer : Option Nat) (dwell : Nat) : Bool :=
  match timer with
  | none => false
  | some n => decide (dwell ≤ n)

/-- The start decision at an evaluation (R50, R51): an order handed before and not yet taken holds nothing off (log
entry 7). With onDwell false a completed dwell is left to START_DWELL_COMPLETE: it has just been reached at this planner
count (log entry 4). -/
def State.decideStart (s : State) (onDwell : Bool) : State :=
  if !s.startCondition then s.modPlan fun p => { p with startTimer := none }
  else
    let timer := startedAt0 s.plan.startTimer
    let t := s.modPlan fun p => { p with startTimer := timer }
    let called := s.minimumClause || (s.capacityClause && onDwell && complete timer s.cfg.staging.startDwell)
    if called && s.stagingEngine.isNone && !s.startBlocked then
      match s.startOrder with
      | some e => (t.modPlan fun p => { p with startTimer := some 0 }).emit e
      | none => t
    else t

/-- The shed condition for the candidate held (R57). -/
def State.shedCondition (s : State) : Bool :=
  match s.plan.candidate with
  | none => false
  | some x =>
    decide (s.cfg.staging.minOnline < countOf s.plan.online) && s.stagingEngine.isNone &&
      decide (100 * s.plan.p < s.cfg.staging.shedPct * (s.plan.co - s.plan.caps.get x))

/-- The shed decision at an evaluation (R58). -/
def State.decideShed (s : State) (onDwell : Bool) : State :=
  if !s.shedCondition then s.modPlan fun p => { p with shedTimer := none }
  else
    let timer := startedAt0 s.plan.shedTimer
    match s.plan.candidate with
    | some x =>
      if onDwell && complete timer s.cfg.staging.shedDwell && s.valid then
        (s.modPlan fun p => { p with shedTimer := none }).emit (.stopOrder x .shed)
      else s.modPlan fun p => { p with shedTimer := timer }
    | none => s

/-- The shed candidate chosen afresh among the engines of O without run_k (R56). -/
def State.freshCandidate (s : State) : Option Engine :=
  highestRun s.runSeconds ((members s.plan.online).filter fun k => !s.limits.run.get k)

/-- The re-plans at which the shed candidate is chosen afresh (R56). -/
def ReplanCause.chooses : ReplanCause → Bool
  | .limits | .apply => true
  | .engine onlineChange => onlineChange
  | .demand | .line | .write => false

/-- The candidate held no longer serves: none, not in O, or run_k holds (R56). -/
def State.candidateGone (s : State) : Bool :=
  match s.plan.candidate with
  | none => true
  | some x => !s.plan.online.get x || s.limits.run.get x

/-- Stage 4: choose the candidate; a different engine restarts a counting timer from 0 (R56, R58). -/
def State.chooseCandidate (s : State) (cause : ReplanCause) : State :=
  if cause.chooses || s.candidateGone then
    let x := s.freshCandidate
    if x = s.plan.candidate then s
    else s.modPlan fun p => { p with candidate := x, shedTimer := p.shedTimer.map fun _ => 0 }
  else s

/-- Insert into a list in ascending order of capacity, before the first greater one: ties keep the engines' order
(R59). -/
def insertByCap (x : Engine × Nat) : List (Engine × Nat) → List (Engine × Nat)
  | [] => [x]
  | y :: ys => if y.2 ≤ x.2 then y :: insertByCap x ys else x :: y :: ys

/-- The engines of O with their capacities, ascending by capacity and then by number (R59). -/
def orderByCap (xs : List (Engine × Nat)) : List (Engine × Nat) := xs.foldl (fun acc x => insertByCap x acc) []

/-- Water-filling of a remainder over engines in order (R59): each takes its equal share of what is left, rounded up, or
its capacity. -/
def waterFill (remainder : Nat) : List (Engine × Nat) → List (Engine × Nat)
  | [] => []
  | (k, cap) :: rest =>
    let share := (remainder + rest.length) / (rest.length + 1)
    (k, min share cap) :: waterFill (remainder - min share cap) rest

/-- The allocation of an engine in an allotment, 0 when it has none. -/
def allotted (xs : List (Engine × Nat)) (k : Engine) : Nat :=
  match xs with
  | [] => 0
  | (j, a) :: rest => if j = k then a else allotted rest k

/-- Stage 5: the allocations of the plan held (R59). -/
def State.allotment (s : State) : List (Engine × Nat) :=
  waterFill s.plan.p (orderByCap ((members s.plan.online).map fun k => (k, s.plan.caps.get k)))

/-- Stage 6: the lowest notch up to the ceiling whose power covers an allocation (R61). -/
def State.targetFor (s : State) (k : Engine) (alloc : Nat) : Nat :=
  ((List.range (s.limits.ceiling.get k + 1)).find? fun n => decide (alloc ≤ s.enKw n)).getD (s.limits.ceiling.get k)

/-- The pair the plan gives an engine: 0 and 0 outside O (R59, R61). -/
def State.plannedPair (s : State) (k : Engine) : Pair :=
  if s.plan.online.get k then ⟨allotted s.allotment k, s.targetFor k (allotted s.allotment k)⟩ else ⟨0, 0⟩

/-- The pair handed to an engine: only a fitted engine's, and only when it differs from the last (R62). -/
def handPair (fitted : Bool) (last now : Pair) : Option Pair := if fitted && decide (now ≠ last) then some now else none

/-- Hand the pairs that differ, together (R62). -/
def State.handPairs (s : State) : State :=
  let pairs : PerEngine Pair := .of s.plannedPair
  let handed : PerEngine (Option Pair) := .of fun k => handPair (s.fitted k) (s.plan.pairs.get k) (pairs.get k)
  let t := s.modPlan fun p => { p with pairs := pairs }
  if Engine.all.any fun k => (handed.get k).isSome then t.emit (.pairs handed) else t

/-- POWER_SHORT: short of P, no candidate and no staging start (R55). -/
def State.isShort (s : State) : Bool :=
  decide (s.plan.co < s.plan.p) && s.startOrder.isNone && s.stagingEngine.isNone

/-- Form POWER_SHORT; each change sets its flag (R55). -/
def State.formShort (s : State) : State :=
  if s.isShort = s.plan.short then s else (s.modPlan fun p => { p with short := s.isShort }).flagPowerShort

/-- Stages 1 and 2 put into the plan held. -/
def State.formDemand (s : State) : State :=
  let online := s.onlineSet
  s.modPlan fun p =>
    { p with
      p := s.cappedDemand
      online := online
      caps := .of s.capOf
      co := ((members online).map s.capOf).sum }

/-- One re-plan, stage by stage (R43). -/
def State.replan (s : State) (cause : ReplanCause) : State :=
  ((((s.formDemand.decideStart true).chooseCandidate cause).decideShed true).formShort).handPairs

/-- A counting timer advances by 0.1 s up to its dwell (R44). -/
def tickDwell (timer : Option Nat) (dwell : Nat) : Option Nat := timer.map fun n => if n < dwell then n + 1 else n

/-- A timer that reaches its dwell at this count. -/
def reaches (timer : Option Nat) (dwell : Nat) : Bool :=
  match timer with
  | none => false
  | some n => decide (n < dwell) && decide (dwell ≤ n + 1)

/-- PLANNER_COUNT: the dwell timers advance, then the start and shed decisions are evaluated on the plan held (R44). An
order due because a dwell is reached at this very count is its own row's. -/
def State.plannerCount (s : State) : State :=
  let startReached := reaches s.plan.startTimer s.cfg.staging.startDwell
  let shedReached := reaches s.plan.shedTimer s.cfg.staging.shedDwell
  let t := s.modPlan fun p =>
    { p with
      startTimer := tickDwell p.startTimer s.cfg.staging.startDwell
      shedTimer := tickDwell p.shedTimer s.cfg.staging.shedDwell }
  (t.decideStart (!startReached)).decideShed (!shedReached)

/-- START_DWELL_COMPLETE: with the timer complete and the condition holding, the start decision on the capacity clause
(R51). -/
def State.startDwellComplete (s : State) : State :=
  if complete s.plan.startTimer s.cfg.staging.startDwell && s.startCondition then s.decideStart true else s

/-- SHED_DWELL_COMPLETE: with the timer complete and the condition holding, the shed order is handed (R58). -/
def State.shedDwellComplete (s : State) : State :=
  if complete s.plan.shedTimer s.cfg.staging.shedDwell && s.shedCondition then s.decideShed true else s

/-- Meaning of REPLAN: the oldest handed cause is taken as a re-plan. -/
def execReplan (s : State) : Host.Outcome State Fault Refusal :=
  .next (s.running fun t =>
    t.take (fun e => match e with | .replan c => some c | _ => none) fun c u => u.replan c)

/-- Meaning of PLANNER_COUNT. -/
def execPlannerCount (s : State) : Host.Outcome State Fault Refusal := .next (s.running State.plannerCount)

/-- Meaning of START_DWELL_COMPLETE. -/
def execStartDwellComplete (s : State) : Host.Outcome State Fault Refusal := .next (s.running State.startDwellComplete)

/-- Meaning of SHED_DWELL_COMPLETE. -/
def execShedDwellComplete (s : State) : Host.Outcome State Fault Refusal := .next (s.running State.shedDwellComplete)

end Sys2Proof.Machine
end

