-- ==== Sys2Proof/Machine/Arbiter.lean ====
section
/-! DEFINITION. The Crank Arbiter (chapter 6): the queue, the grant decision, releases, the wish for the supply and the
line state; and its commands GAP_END and REREQUEST_TIMER_END. -/

namespace Sys2Proof.Machine

/-- A change of phase, handed to the Battery and Supply Monitor with the holder on entry into GRANTED (R119). -/
def State.setPhase (s : State) (p : Phase) (holder : Option Engine) : State :=
  (s.setCar { s.car with phase := p }).emit (.phase p holder)

/-- De-assert the request: the re-request timer starts at 0 and the line enters BACKOFF (R128). -/
def State.deassert (s : State) : State := s.setCar { s.car with line := .backoff, rerequest := some 0 }

/-- The arbiter wants the supply: an engine queued, a holder, or with the park option on an engine in PRELUBE or
CRANK_REST (R127). -/
def State.wish (s : State) : Bool :=
  !s.car.queue.isEmpty || s.car.holder.isSome ||
    (s.cfg.arbiter.park && s.fittedEngines.any fun k =>
      decide ((s.eng k).state = .prelube) || decide ((s.eng k).state = .crankRest))

/-- Form the wish afresh in SHARED mode and move the line on it: QUIET asks when the wish holds, ASKING and HELD back
off when it ceases (R127, R128). -/
def State.formWish (s : State) : State :=
  if s.cfg.arbiter.sharing = .exclusive then s
  else
    match s.car.line with
    | .quiet => if s.wish then s.setCar { s.car with line := .asking } else s
    | .asking | .held => if s.wish then s else s.deassert
    | .withdrawn | .backoff => s

/-- The oldest engine in the queue without inhibit_k (R121). -/
def State.eligible (s : State) : Option Engine := s.car.queue.find? fun k => !s.limits.inhibit.get k

/-- Sag reports of an engine still waiting when it is granted are from grants it no longer holds: they are discarded
(R154). -/
def State.dropSags (s : State) (k : Engine) : State := s.setHanded (s.handed.filter fun e => e ≠ .sag k)

/-- A grant decision: with the phase IDLE and the supply counted held, the oldest uninhibited engine leaves the queue,
becomes holder and is handed the grant (R121). -/
def State.decideGrant (s : State) : State :=
  if s.car.phase = .idle ∧ s.supplyHeld = true then
    match s.eligible with
    | some k =>
      (((s.dropSags k).setCar { s.car with queue := s.car.queue.erase k, holder := some k }).setPhase .granted
        (some k)).emit (.grant k)
    | none => s
  else s

/-- A join: the engine is added at the tail; one already queued or already holder is discarded (R120). -/
def State.join (s : State) (k : Engine) : State :=
  if s.car.queue.contains k || decide (s.car.holder = some k) then s
  else s.setCar { s.car with queue := s.car.queue ++ [k] }

/-- A leave: the engine is removed from wherever it stands in the queue (R120). -/
def State.leave (s : State) (k : Engine) : State := s.setCar { s.car with queue := s.car.queue.erase k }

/-- At the holder's release in WITHDRAWN the request is de-asserted (R130). -/
def State.giveUpIfWithdrawn (s : State) : State := if s.car.line = .withdrawn then s.deassert else s

/-- A used release: the crank end. The phase is RECOVERY with the gap timer at 0; with a crank gap of 0 it passes on to
IDLE in the one event (R123, R124). A release from an engine that is not the holder is discarded. -/
def State.releaseUsed (s : State) (k : Engine) : State :=
  if s.car.holder = some k then
    let t := ((s.setCar { s.car with holder := none, gapTimer := some 0 }).setPhase .recovery none).giveUpIfWithdrawn
    if s.cfg.arbiter.crankGap = 0 then (t.setCar { t.car with gapTimer := none }).setPhase .idle none else t
  else s

/-- An unused release: the phase is IDLE with a grant decision, and no crank gap (R123). -/
def State.releaseUnused (s : State) (k : Engine) : State :=
  if s.car.holder = some k then
    (((s.setCar { s.car with holder := none, gapTimer := none }).setPhase .idle none).giveUpIfWithdrawn).formWish.decideGrant
  else s

/-- What the arbiter takes of an engine's change of state: a leave on an exit from CRANK_WAIT other than by grant, a
used release on an exit from CRANKING, a join on an entry into CRANK_WAIT, all in that same state change; then the wish
is formed, and a join or a release that left the phase IDLE brings a grant decision (R120, R121, R123, R124, R127). -/
def State.arbiterOnChange (s : State) (k : Engine) (old new : EState) : State :=
  let left := if old = .crankWait ∧ new ≠ .cranking ∧ new ≠ .crankWait then s.leave k else s
  let released := if old = .cranking ∧ new ≠ .cranking then left.releaseUsed k else left
  let joined := if new = .crankWait ∧ old ≠ .crankWait then released.join k else released
  let wished := joined.formWish
  if new = .crankWait ∨ old = .cranking then wished.decideGrant else wished

/-- A change of the filtered external grant (R126, R128 to R130). Changes the table of R128 does not name are
discarded, as is every change in EXCLUSIVE mode. -/
def State.externalGrant (s : State) (asserted : Bool) : State :=
  if s.cfg.arbiter.sharing = .exclusive then s
  else
    match s.car.line, asserted with
    | .asking, true => (s.setCar { s.car with line := .held }).decideGrant
    | .held, false =>
      if s.car.holder.isSome then s.setCar { s.car with line := .withdrawn } else s.deassert
    | _, _ => s

/-- GAP_END: in RECOVERY the gap timer reaching the crank gap makes the phase IDLE, with a grant decision (R124). -/
def State.gapEnd (s : State) : State :=
  match s.car.gapTimer with
  | some n =>
    if s.car.phase = .recovery ∧ s.cfg.arbiter.crankGap ≤ n then
      ((s.setCar { s.car with gapTimer := none }).setPhase .idle none).decideGrant
    else s
  | none => s

/-- REREQUEST_TIMER_END: in BACKOFF the timer reaching the interval moves the line to ASKING when the wish holds, else
to QUIET (R128). -/
def State.rerequestEnd (s : State) : State :=
  match s.car.rerequest with
  | some n =>
    if s.car.line = .backoff ∧ s.cfg.arbiter.rerequest ≤ n then
      s.setCar { s.car with line := if s.wish then .asking else .quiet, rerequest := none }
    else s
  | none => s

/-- Meaning of GAP_END. -/
def execGapEnd (s : State) : Host.Outcome State Fault Refusal := .next (s.running State.gapEnd)

/-- Meaning of REREQUEST_TIMER_END. -/
def execRerequestTimerEnd (s : State) : Host.Outcome State Fault Refusal := .next (s.running State.rerequestEnd)

end Sys2Proof.Machine
end

