-- ==== Sys2Proof/Machine/Sequencer.lean ====
section
/-! DEFINITION. The Engine Sequencer's shared operations (chapters 4 and 5): the one change of state, admission, the
prelube step, online entry, failed attempts, stopping, trips, recall, holds and isolation. The commands that call them
are in Machine/Sequence.lean and Machine/EngineRequests.lean. -/

namespace Sys2Proof.Machine

/-- Every timer of the sequencer stopped. -/
def EngineRec.noTimers (r : EngineRec) : EngineRec :=
  { r with prelubeTimer := none, crankTimer := none, restTimer := none, runupTimer := none, cooldownTimer := none, stopTimer := none }

/-- Change the record of an engine. -/
def State.modEng (s : State) (k : Engine) (f : EngineRec → EngineRec) : State := s.setEng k (f (s.eng k))

/-- Entry into one of these states retires the engine's WARMUP entry (R146); ISOLATED is entered from STOPPED in the
same state change (R91). -/
def EState.endsWarmup : EState → Bool
  | .stopping | .tripped | .stopped | .isolated => true
  | _ => false

/-- One change of state: the record's new fields, the changed flag (R70), the re-plan it causes (R43), the counted
events it hands the DCT as one (R161), the WARMUP entry it may retire (R146), and the arbiter's part (R120, R123). -/
def State.enter (s : State) (k : Engine) (new : EState) (counted : List CountedEvent) (f : EngineRec → EngineRec) :
    State :=
  let old := s.eng k
  let now : EngineRec := { f old with state := new }
  let t := ((s.setEng k now).flagChanged k).emitAll
    (.replan (.engine (old.inO != now.inO)) :: if counted.isEmpty then [] else [.counted k counted])
  let u := if new.endsWarmup then t.retireInternal .warmup k else t
  u.arbiterOnChange k old.state new

/-- Held becomes yes: the step's timer is stopped and the changed flag set (R70, R88). -/
def State.hold (s : State) (k : Engine) : State :=
  (s.modEng k fun r => { r.noTimers with held := true }).flagChanged k

/-! ## Start path -/

/-- Entry into CRANK_WAIT (R77). -/
def State.enterCrankWait (s : State) (k : Engine) : State :=
  s.enter k .crankWait [] fun r => { r.noTimers with held := false }

/-- The prelube step: held at BEFORE_CRANK, else into CRANK_WAIT (R75). -/
def State.prelubeStep (s : State) (k : Engine) : State :=
  if (s.eng k).holdPoint = .beforeCrank then s.hold k else s.enterCrankWait k

/-- Start admission (R71). -/
def State.admits (s : State) (k : Engine) : Bool :=
  s.valid && !s.writing && s.runLine && !s.emergency && !s.limits.inhibit.get k && !s.limits.stop.get k &&
    !s.isoCond k && s.atRest k

/-- Admission passed: PRELUBE with full attempts, and warmed becomes no (R71, R145); the prelube step follows at once
if the lube switch is already made (R75). -/
def State.admitStart (s : State) (k : Engine) (reason : StartReason) : State :=
  let t := s.enter k .prelube [] fun r =>
    { r.noTimers with
      startReason := some reason, attempts := s.cfg.timing.attempts, lastAttempt := none, held := false
      prelubeTimer := some 0 }
  let u := t.setSense k { t.sense k with warmed := false }
  if u.lubeMade k then u.prelubeStep k else u

/-- A start order of any cause: through admission in STOPPED, dropped elsewhere (R71, R73). An order refused leaves the
record and its changed flag as they were (R70; log entry 30). -/
def State.takeStart (s : State) (k : Engine) (reason : StartReason) : State :=
  if (s.eng k).state = .stopped ∧ s.admits k = true then s.admitStart k reason else s

/-- A run demand in force makes a start order for a STOPPED engine at the events R72 names. -/
def State.runDemandStart (s : State) (k : Engine) : State :=
  if s.fitted k && s.limits.run.get k then s.takeStart k .runDemand else s

/-- The online test: selected speed at or above EN[0].rpm − idle band, and the lube switch made (R83). -/
def State.onlineTest (s : State) (k : Engine) : Bool :=
  s.lubeMade k &&
    match (s.sense k).selected with
    | none => false
    | some v => s.enRpm 0 ≤ v + s.cfg.thresholds.idleBand

/-- Entry into ONLINE from RUNUP (R83, R94). -/
def State.enterOnline (s : State) (k : Engine) : State :=
  s.enter k .online [.start] fun r =>
    { r.noTimers with
      startReason := none, stopPending := false, stopReason := none, held := false, highLoad := false
      notch := 0, setpoint := s.enRpm 0, settled := true, settledTime := some 0 }

/-- The online test made in RUNUP while not held: when it holds, held at BEFORE_ONLINE or into ONLINE (R83, R88). -/
def State.tryOnline (s : State) (k : Engine) : State :=
  if (s.eng k).state = .runup ∧ (s.eng k).held = false ∧ s.onlineTest k = true then
    if (s.eng k).holdPoint = .beforeOnline then s.hold k else s.enterOnline k
  else s

/-- The WARMUP condition at an entry into RUNUP: a cold engine not yet warmed, with a good sensor and a reading below
the warm threshold (R145). A slot already LIVE is left as it is. -/
def State.warmupAtFire (s : State) (k : Engine) : State :=
  let x := s.sense k
  match x.coolant with
  | some t =>
    if !x.warmed && x.sensorGood && decide (t < s.cfg.thresholds.warm) && !s.stands .warmup k then
      (s.setSense k { x with warmCount := 0 }).postInternal .warmup k
    else s
  | none => s

/-- The engine has fired: RUNUP with the runup timer at 0, and the WARMUP examination (R79, R84, R145). -/
def State.fire (s : State) (k : Engine) : State :=
  (s.enter k .runup [] fun r => { r.noTimers with lastAttempt := some .fired, runupTimer := some 0 }).warmupAtFire k

/-! ## Stopping and trips -/

/-- The fields every exit from running or starting clears (R91, R94, R107, R111). -/
def EngineRec.cleared (r : EngineRec) : EngineRec :=
  { r.noTimers with
    startReason := none, stopPending := false, stopReason := none, held := false, notch := 0, settled := true
    settledTime := none }

/-- Entry into TRIPPED in one state change (R86, R111), with the events that came with it. -/
def State.trip (s : State) (k : Engine) (cause : TripCause) (also : List CountedEvent) : State :=
  s.enter k .tripped (also ++ [.trip cause]) fun r => { r.cleared with tripCause := some cause, highLoad := false }

/-- Entry into STOPPING (R107). -/
def State.enterStopping (s : State) (k : Engine) (counted : List CountedEvent) : State :=
  s.enter k .stopping counted fun r => { r.cleared with highLoad := false, stopTimer := some 0 }

/-- The engine comes to rest: ISOLATED if the isolation condition holds at that moment, else STOPPED, where a standing
run demand starts it again (R72, R91, R107, R113, R117). -/
def State.enterRest (s : State) (k : Engine) (counted : List CountedEvent) : State :=
  let iso := s.isoCond k
  let t := s.enter k (if iso then .isolated else .stopped) (counted ++ [.rest]) fun r =>
    { r.cleared with tripCause := none, isoSeen := iso }
  if iso then t else t.runDemandStart k

/-- A failed attempt: attempts remaining falls by 1; CRANK_REST while some remain, else the NO_START trip in the same
state change (R80, R81, R85). -/
def State.failAttempt (s : State) (k : Engine) (cause : AttemptCause) : State :=
  let left := (s.eng k).attempts - 1
  let s := s.modEng k fun r => { r with attempts := left, lastAttempt := some cause }
  if left = 0 then s.trip k .noStart [.failed]
  else s.enter k .crankRest [.failed] fun r => { r.noTimers with held := false, restTimer := some 0 }

/-- A stop becoming pending: not a change of state, but one the planner re-plans on (R43, R101). -/
def State.pendStop (s : State) (k : Engine) (reason : StopReason) : State :=
  (s.modEng k fun r => { r with stopPending := true, stopReason := some reason }).emit (.replan (.engine true))

/-- A stop order on an engine with a stop pending or in COOLDOWN: only SHED is replaced, and not by SHED (R102). -/
def State.restateStop (s : State) (k : Engine) (reason : StopReason) : State :=
  if (s.eng k).stopReason = some .shed ∧ reason ≠ .shed then
    s.modEng k fun r => { r with stopReason := some reason }
  else s

/-- A stop order taken according to the engine's state (R91, R100 to R102). SHED is taken only by an engine in ONLINE
with no stop pending and without run_k. -/
def State.takeStop (s : State) (k : Engine) (reason : StopReason) : State :=
  let r := s.eng k
  if reason = .shed then
    if r.inO ∧ s.limits.run.get k = false then s.pendStop k .shed else s
  else
    match r.state with
    | .prelube | .crankWait | .crankRest => s.enterRest k [.aborted]
    | .cranking | .runup => s.enterStopping k [.aborted]
    | .online => if r.stopPending then s.restateStop k reason else s.pendStop k reason
    | .cooldown => s.restateStop k reason
    | .stopping | .stopped | .isolated | .tripped => s

/-- A recall: cancels a SHED stop pending, or ends a SHED cooldown into ONLINE; discarded elsewhere (R54, R105). -/
def State.takeRecall (s : State) (k : Engine) : State :=
  let r := s.eng k
  if r.stopReason = some .shed then
    if r.state = .online ∧ r.stopPending = true then
      (s.modEng k fun r => { r with stopPending := false, stopReason := none }).emit (.replan (.engine true))
    else if r.state = .cooldown then
      s.enter k .online [] fun r =>
        { r.noTimers with
          stopPending := false, stopReason := none, notch := 0, setpoint := s.enRpm 0, settled := true
          settledTime := some 0 }
    else s
  else s

/-- The step-down is complete: COOLDOWN with the reason kept when the high-load mark is set and the cooldown time is
above 0, else STOPPING (R103). -/
def State.stepDownComplete (s : State) (k : Engine) : State :=
  if (s.eng k).highLoad = true ∧ 0 < s.cfg.timing.cooldown then
    s.enter k .cooldown [] fun r =>
      { r.noTimers with stopPending := false, notch := 0, settled := true, settledTime := none, cooldownTimer := some 0 }
  else s.enterStopping k []

/-! ## Holds and isolation -/

/-- The hold point at which a held engine stands: BEFORE_CRANK in PRELUBE, BEFORE_ONLINE in RUNUP (R88). -/
def EngineRec.heldAt (r : EngineRec) : HoldPoint :=
  if r.held then
    match r.state with
    | .prelube => .beforeCrank
    | .runup => .beforeOnline
    | _ => .none
  else .none

/-- The condition of the transition at which the engine is held holds at this moment (R89, R90). -/
def State.holdPassable (s : State) (k : Engine) : Bool :=
  match (s.eng k).heldAt with
  | .beforeCrank => s.lubeMade k
  | .beforeOnline => s.onlineTest k
  | .none => false

/-- A held engine passes its hold point: into CRANK_WAIT or ONLINE (R89, R90). -/
def State.passHold (s : State) (k : Engine) : State :=
  match (s.eng k).heldAt with
  | .beforeCrank => s.enterCrankWait k
  | .beforeOnline => s.enterOnline k
  | .none => s

/-- The timers of an engine that goes on unheld (R89): in PRELUBE the prelube timer goes on counting from the opening of
the switch, and begins at 0 where the opening's LEVEL_CHANGE is not yet taken (log entry 34); in RUNUP the runup timer
restarts from 0. -/
def EngineRec.unheld (r : EngineRec) : EngineRec :=
  { r with
    held := false
    prelubeTimer := if r.state = .prelube then some (r.prelubeTimer.getD 0) else r.prelubeTimer
    runupTimer := if r.state = .runup then some 0 else r.runupTimer }

/-- A release by change of hold point: the transition at once if its condition holds, else the engine goes on unheld
(R89). -/
def State.releaseHold (s : State) (k : Engine) : State :=
  if s.holdPassable k then s.passHold k else s.modEng k EngineRec.unheld

/-- The sequencer acts on a change of the isolation condition, not of its two parts: coming to hold isolates a STOPPED
engine and gives every other a stop order ISOLATION; clearing returns an ISOLATED engine to STOPPED and is an event of
R72 (R115 to R117). The switch is read as it stands at the taking, so a change undone before it is taken is no change
(log entry 29). -/
def State.reviewIsolation (s : State) (k : Engine) : State :=
  let iso := s.isoCond k
  if iso = (s.eng k).isoSeen then s
  else
    let t := s.modEng k fun r => { r with isoSeen := iso }
    if iso then
      if (s.eng k).state = .stopped then t.enter k .isolated [.rest] id else t.takeStop k .isolation
    else if (s.eng k).state = .isolated then t.enterRest k [] else t.runDemandStart k

/-- The lube switch is made: the prelube step, or a held engine's timer stopped, or an online test (R75, R83, R88). -/
def State.lubeClosed (s : State) (k : Engine) : State :=
  let r := s.eng k
  match r.state with
  | .prelube => if r.held then s.modEng k fun r => { r with prelubeTimer := none } else s.prelubeStep k
  | .runup => s.tryOnline k
  | _ => s

/-- The lube switch opens: a held engine's prelube timer starts from 0, and a running engine trips LOW_LUBE (R88,
R109). -/
def State.lubeOpened (s : State) (k : Engine) : State :=
  let r := s.eng k
  match r.state with
  | .prelube => if r.held then s.modEng k fun r => { r with prelubeTimer := some 0 } else s
  | .online | .cooldown => s.trip k .lowLube []
  | _ => s

/-- The emergency line is seen asserted: every engine on the start path, ONLINE or in COOLDOWN trips (R110). -/
def State.emergencyTrip (s : State) (k : Engine) : State :=
  let st := (s.eng k).state
  if st.startPath ∨ st = .online ∨ st = .cooldown then s.trip k .emergency [] else s

end Sys2Proof.Machine
end

