-- ==== Sys2Proof/Machine/TableRequests.lean ====
section
/-! DEFINITION. POST, AMEND, RETIRE, READ_ENTRY and LIST_ENTRIES, and the expiry count (chapter 2). -/

namespace Sys2Proof.Machine

/-- A kind carries a value (R19). -/
def Kind.hasValue : Kind → Bool
  | .notchCeiling | .powerCap => true
  | .startInhibit | .runDemand | .stopDemand => false

/-- The value-present check of R20: the byte is the yes or no the kind requires. -/
def valueFormOk (kind : Kind) (valuePresent : Byte) : Bool := decide (yesNoField valuePresent = some kind.hasValue)

/-- The value as stored, and whether it was clamped (R22). -/
def adjustValue (kind : Kind) (value : Nat) : Option Nat × Bool :=
  match kind with
  | .notchCeiling => (some (min value 8), decide (8 < value))
  | .powerCap => (some value, false)
  | .startInhibit | .runDemand | .stopDemand => (none, false)

/-- The expiry as stored, and whether it was clamped (R22). -/
def adjustExpiry (expiry : Nat) : Option Nat × Bool :=
  if expiry = 0 then (none, false) else (some (min expiry 3600), decide (3600 < expiry))

/-- No engine is named. -/
def noEngine (set : PerEngine Bool) : Bool := !(set.e1 || set.e2 || set.e3 || set.e4)

/-- The scope check of R21: the scope taken and whether an engine was dropped, or none for BAD_VALUE. -/
def State.checkScope (s : State) (kind : Kind) (scope : Byte) : Option (Scope × Bool) :=
  match scopeField scope, kind with
  | some .locomotive, .powerCap => some (.locomotive, false)
  | some (.engines _), .powerCap => none
  | some .locomotive, _ => none
  | some (.engines set), _ =>
    let kept : PerEngine Bool := .of fun k => set.get k && s.fitted k
    if noEngine kept then none else some (.engines kept, decide (kept ≠ set))
  | none, _ => none

/-- OK, or CLAMPED when a mark was set (R24, R26). -/
def clampStatus (clamped : Bool) : Status := if clamped then .clamped else .ok

/-- A handle: slot, then generation (R181). -/
def handleBytes (t : List Slot) (n : Nat) : List Byte := [byte n, (slotAt t n).gen]

/-- POST at the Restriction Table: form, scope, adjustment, slot, entry (R20 to R24). -/
def State.post (s : State) (origin kind scope valuePresent : Byte) (value expiry : Word16) : State × Reply :=
  match kindField kind with
  | none => (s, .bare .badValue)
  | some kd =>
    if !valueFormOk kd valuePresent then (s, .bare .badRequest)
    else
      match s.checkScope kd scope with
      | none => (s, .bare .badValue)
      | some (sc, dropped) =>
        match freeExternal s.table with
        | none => (s, .bare .tableFull)
        | some n =>
          let v := adjustValue kd value.toNat
          let x := adjustExpiry expiry.toNat
          let t := s.changeTable (postAt s.table n ⟨.external origin, kd, sc, v.1, x.1⟩)
          (t, ⟨clampStatus (dropped || v.2 || x.2), handleBytes t.table n⟩)

/-- The handle check of R18: the entry of a valid handle, or the refusal. -/
def checkHandle (t : List Slot) (slot gen : Byte) : Except Status Entry :=
  if Config.slots ≤ slot.toNat then .error .badValue
  else
    match (slotAt t slot.toNat).entry with
    | none => .error .unknownHandle
    | some e => if (slotAt t slot.toNat).gen = gen then .ok e else .error .unknownHandle

/-- The right of an origin to change an entry (R25). -/
def State.mayChange (s : State) (origin : Byte) (e : Entry) : Bool :=
  match e.owner with
  | .internal _ => false
  | .external o => decide (s.role origin = .supervisor) || decide (o = origin)

/-- AMEND: handle, right and form, then value and expiry are replaced and the limits recomputed (R26). -/
def State.amend (s : State) (origin slot gen valuePresent : Byte) (value expiry : Word16) : State × Reply :=
  match checkHandle s.table slot gen with
  | .error st => (s, .bare st)
  | .ok e =>
    if !s.mayChange origin e then (s, .bare .notPermitted)
    else if !valueFormOk e.kind valuePresent then (s, .bare .badRequest)
    else
      let v := adjustValue e.kind value.toNat
      let x := adjustExpiry expiry.toNat
      let t := s.changeTable (amendAt s.table slot.toNat { e with value := v.1, expiry := x.1 })
      (t, ⟨clampStatus (v.2 || x.2), handleBytes t.table slot.toNat⟩)

/-- RETIRE: handle and right, then the slot is FREE and the limits recomputed (R27). -/
def State.retire (s : State) (origin slot gen : Byte) : State × Reply :=
  match checkHandle s.table slot gen with
  | .error st => (s, .bare st)
  | .ok e =>
    if !s.mayChange origin e then (s, .bare .notPermitted)
    else (s.changeTable (freeAt s.table slot.toNat), .bare .ok)

/-- The origin byte of an entry: 0 to 15, or 10h INTERNAL (R181). -/
def ownerCode : Owner → Byte
  | .external o => o
  | .internal _ => 0x10

/-- The condition byte of an entry (R181). -/
def conditionCode : Owner → Byte
  | .external _ => 0
  | .internal .warmup => 1
  | .internal .hot => 2
  | .internal .pickup => 3
  | .internal .lockout => 4
  | .internal .batteryLow => 5

/-- A field that may be absent, as a presence byte and two bytes (R181). -/
def optional16 : Option Nat → List Byte
  | none => [0, 0, 0]
  | some n => 1 :: be16 n

/-- The entry report, 13 bytes (R181). -/
def State.entryReport (s : State) (slot gen : Byte) (e : Entry) : List Byte :=
  [slot, gen, ownerCode e.owner, conditionCode e.owner, kindCode e.kind, scopeCode e.scope] ++ optional16 e.value ++
    optional16 e.expiry ++ [bit (s.binding e)]

/-- READ_ENTRY (R28). -/
def State.readEntry (s : State) (slot gen : Byte) : State × Reply :=
  match checkHandle s.table slot gen with
  | .error st => (s, .bare st)
  | .ok e => (s, ⟨.ok, s.entryReport slot gen e⟩)

/-- The kind filter: ANY, a kind, or a byte that names neither (R180). -/
def kindFilter (b : Byte) : Option (Option Kind) :=
  if b = 0 then some none else (kindField b).map some

/-- The engine filter: ANY, an engine, or a byte that names neither. -/
def engineFilter (b : Byte) : Option (Option Engine) :=
  if b = 0 then some none else (engineField b).map some

/-- What an origin filter lets through (R29). -/
inductive OriginFilter where
  | any
  | internal
  | origin (o : Byte)
deriving DecidableEq, Repr

/-- The origin filter: 0 to 15, 10h INTERNAL, FFh ANY. -/
def originFilter (b : Byte) : Option OriginFilter :=
  if b = 0xFF then some .any else if b = 0x10 then some .internal else if b.toNat ≤ 15 then some (.origin b) else none

/-- An entry passes the origin filter (R29). -/
def OriginFilter.passes (f : OriginFilter) (o : Owner) : Bool :=
  match f, o with
  | .any, _ => true
  | .internal, .internal _ => true
  | .origin x, .external y => x = y
  | _, _ => false

/-- An entry passes all three filters (R29). -/
def Entry.matches (e : Entry) (kind : Option Kind) (engine : Option Engine) (origin : OriginFilter) : Bool :=
  (kind.all fun x => decide (x = e.kind)) && (engine.all fun k => e.covers k) && origin.passes e.owner

/-- The slots from a start slot up that hold a matching LIVE entry, in ascending order (R30). -/
def matching (t : List Slot) (start : Nat) (kind : Option Kind) (engine : Option Engine) (origin : OriginFilter) :
    List Nat :=
  (List.range' start (Config.slots - start)).filter fun n =>
    ((slotAt t n).entry.map fun e => e.matches kind engine origin).getD false

/-- The next slot of a listing: one past the sixth handle, else 49 (R30). -/
def nextSlot (found : List Nat) : Nat :=
  match found.drop 5 with
  | n :: _ => n + 1
  | [] => Config.slots

/-- LIST_ENTRIES: the filters and the start slot checked, then up to six handles and the next slot (R29, R30). -/
def State.listEntries (s : State) (kind engine origin start : Byte) : State × Reply :=
  match kindFilter kind, engineFilter engine, originFilter origin with
  | some kd, some en, some og =>
    if Config.slots < start.toNat then (s, .bare .badValue)
    else
      let found := matching s.table start.toNat kd en og
      let six := found.take 6
      (s, ⟨.ok, byte six.length :: six.flatMap (handleBytes s.table) ++ [byte (nextSlot found)]⟩)
  | _, _, _ => (s, .bare .badValue)

/-- The next expiry count brings the entry to 0 (R31): internal entries and entries without an expiry are not counted. -/
def Entry.spent (e : Entry) : Bool :=
  match e.owner, e.expiry with
  | .external _, some n => decide (n ≤ 1)
  | _, _ => false

/-- One entry at an expiry count: an external entry's expiry remaining falls by 1, and an entry brought to 0 is gone
(R31). -/
def Entry.counted (e : Entry) : Option Entry :=
  if e.spent then none
  else
    match e.owner with
    | .external _ => some { e with expiry := e.expiry.map fun n => n - 1 }
    | .internal _ => some e

/-- One slot at an expiry count, its generation kept (R17, R31). -/
def Slot.counted (x : Slot) : Slot := { x with entry := x.entry.bind Entry.counted }

/-- One expiry count, one event (R31): every lifetime falls by 1; when entries reach 0 they are retired at this count,
EXPIRED is set, and the limits are recomputed once after all of them have gone. -/
def State.expiryCount (s : State) : State :=
  if (liveEntries s.table).any Entry.spent then (s.changeTable (s.table.map Slot.counted)).flagExpired
  else s.setTable (s.table.map Slot.counted)

/-- Meaning of POST. -/
def execPost (c : Caller) (kind scope valuePresent : Byte) (value expiry : Word16) (s : State) :
    Host.Outcome State Fault Refusal :=
  .next (s.serveCommand (.post c kind scope valuePresent value expiry) fun t =>
    t.post c.origin kind scope valuePresent value expiry)

/-- Meaning of AMEND. -/
def execAmend (c : Caller) (slot generation valuePresent : Byte) (value expiry : Word16) (s : State) :
    Host.Outcome State Fault Refusal :=
  .next (s.serveCommand (.amend c slot generation valuePresent value expiry) fun t =>
    t.amend c.origin slot generation valuePresent value expiry)

/-- Meaning of RETIRE. -/
def execRetire (c : Caller) (slot generation : Byte) (s : State) : Host.Outcome State Fault Refusal :=
  .next (s.serveCommand (.retire c slot generation) fun t => t.retire c.origin slot generation)

/-- Meaning of READ_ENTRY. -/
def execReadEntry (c : Caller) (slot generation : Byte) (s : State) : Host.Outcome State Fault Refusal :=
  .next (s.serveCommand (.readEntry c slot generation) fun t => t.readEntry slot generation)

/-- Meaning of LIST_ENTRIES. -/
def execListEntries (c : Caller) (kind engine origin start : Byte) (s : State) : Host.Outcome State Fault Refusal :=
  .next (s.serveCommand (.listEntries c kind engine origin start) fun t => t.listEntries kind engine origin start)

/-- Meaning of EXPIRY_COUNT: the whole count, whatever reaches 0 at it (R31). -/
def execExpiryCount (s : State) : Host.Outcome State Fault Refusal := .next (s.running State.expiryCount)

/-- Meaning of ENTRY_EXPIRED: the expiry count named by what it brings about. It is the same count as EXPIRY_COUNT, taken
when an entry reaches 0 at it, and nothing when none does (R31; log entry 26). -/
def execEntryExpired (s : State) : Host.Outcome State Fault Refusal :=
  .next (s.running fun t => if (liveEntries t.table).any Entry.spent then t.expiryCount else t)

end Sys2Proof.Machine
end

