-- ==== Sys2Proof/Machine/Apply.lean ====
section
/-! DEFINITION. The completion of a configuration write and the configuration apply, block by block (R193). -/

namespace Sys2Proof.Machine

/-- The write's end at the Configuration Store: the section in the working image and VALID, the write state IDLE, and the
rewritten non-volatile image good (R191, R193). -/
def Cfs.finish (c : Cfs) (d : SectionData) : Cfs where
  working := c.working.put d
  marks := c.marks.put d
  write := none
  nv := ⟨c.working.put d, c.marks.put d, true⟩
  cause := c.cause

/-- A set without the engines not fitted. -/
def State.keepFitted (s : State) (set : PerEngine Bool) : PerEngine Bool := .of fun k => set.get k && s.fitted k

/-- An entry at an apply: internal values and the BATTERY_LOW scope are brought in line, engines no longer fitted leave
a scope, and an entry left without an engine is retired (R35, R36). -/
def State.applyEntry (s : State) (e : Entry) : Option Entry :=
  match e.owner, e.scope with
  | .internal .batteryLow, _ => some { e with scope := .engines s.fittedSet }
  | .internal c, .engines set =>
    if noEngine (s.keepFitted set) then none else some { e with value := (s.internalEntry c .e1).value }
  | .external _, .engines set =>
    if noEngine (s.keepFitted set) then none else some { e with scope := .engines (s.keepFitted set) }
  | _, .locomotive => some e

/-- The table at an apply, generations kept (R35, R36). -/
def State.appliedTable (s : State) : List Slot := s.table.map fun x => { x with entry := x.entry.bind s.applyEntry }

/-- The switches of engines that became or ceased to be fitted: at rest, their next sample an initial load (R4). -/
def State.applyLic (s : State) (changed : Engine → Bool) : State :=
  s.setLic { s.lic with
    iso := .of fun k => if changed k then .rest false true else s.lic.iso.get k
    lube := .of fun k => if changed k then .rest false true else s.lic.lube.get k }

/-- The planner drops the engines no longer fitted (R64). -/
def State.applyPlan (s : State) : State :=
  s.modPlan fun p =>
    { p with
      online := s.keepFitted p.online
      pairs := .of fun k => if s.fitted k then p.pairs.get k else ⟨0, 0⟩
      candidate := p.candidate.filter fun x => s.fitted x }

/-- Records: a newly fitted engine's begins at the values of R193, one no longer fitted is lost with its changed flag.
DESIGN CHOICE: an engine fitted before and after keeps its attempts remaining even above newly lowered configured attempts;
R67 and R80 put it at 0 to the configured attempts and no rule says that an apply cuts it (log entry 40). -/
def State.applyEngines (s : State) (changed : Engine → Bool) : State :=
  (s.setEngines (.of fun k => if changed k then .fresh else s.eng k)).setNotices
    { s.cli.notices with changed := s.keepFitted s.cli.notices.changed }

/-- The arbiter: a change of mode takes the line to QUIET (R132). -/
def State.applyCar (s : State) (old : Sharing) : State :=
  if s.cfg.arbiter.sharing = old then s else s.setCar { s.car with line := .quiet, rerequest := none }

/-- A sensing set at an apply: its coolant counts begin again, and a set that became or ceased to be fitted begins at
the values of R149 (R147). -/
def Sensing.applied (x : Sensing) (changed : Bool) : Sensing :=
  if changed then .reset else { x with hotCount := 0, coolCount := 0, overCount := 0, warmCount := 0 }

/-- Engine Sensing (R147). -/
def State.applySensing (s : State) (changed : Engine → Bool) : State :=
  s.setSensing (.of fun k => (s.sense k).applied (changed k))

/-- The Battery and Supply Monitor: its three counts begin again (R158). -/
def State.applyBsm (s : State) : State := s.setBsm { s.bsm with low := 0, high := 0, sag := 0 }

/-- The Duty Counters: engines no longer fitted leave the queue and lose their working counters, newly fitted ones are
loaded from the store; then the lockout test under the count in force (R169). An engine fitted again while its write is
still in flight is loaded from a damaged record and is WRITING (log entry 31). -/
def State.applyDct (s : State) (changed : Engine → Bool) : State :=
  (s.setDct { s.dct with
      queue := s.dct.queue.filter s.fitted
      duty := .of fun k =>
        if changed k then (if s.fitted k then (s.dct.store.get k).load k else .begin .zero false) else s.dutyOf k }).forFitted
    fun k t => t.lockoutTest k

/-- The engine an event is for, when it is for one engine only. -/
def Event.engine : Event → Option Engine
  | .level _ (.esq k) _ | .limits (.esq k) _ _ | .startOrder k _ | .recall k | .stopOrder k _ | .counted k _ | .sag k
  | .overheat k => some k
  | _ => none

/-- Events handed to an engine no longer fitted are lost with its record (R193). -/
def State.dropUnfitted (s : State) : State :=
  s.setHanded (s.handed.filter fun e => e.engine.all fun k => s.fitted k)

/-- The configuration apply, one event for every block (R193). The new configuration is already in the state; old is the
one in use before. The limits are recomputed once for R35 and R36, and again for each LOCKOUT that the lockout test of
R169 posts after them (log entry 27). -/
def State.apply (s : State) (old : Image) : State :=
  let changed (k : Engine) : Bool := s.fitted k != fittedBy old.roster.fitted k
  let a := ((((((s.applyLic changed).applyPlan).applyEngines changed).applyCar old.arbiter.sharing).applySensing
    changed).applyBsm).dropUnfitted
  let b := (a.changeTable a.appliedTable).applyDct changed
  (b.formWish.decideGrant).emit (.replan .apply)

/-- WRITE_COMPLETE (R193): the write ends; when the configuration is now valid it is applied; and a standing run demand
is tried again (R72). -/
def State.writeComplete (s : State) : State :=
  match s.cfs.write with
  | some d =>
    let t := (s.setCfs (s.cfs.finish d)).emit (.replan .write)
    let u := if t.valid then t.apply s.cfg else t
    u.forFitted fun k v => v.runDemandStart k
  | none => s

/-- Meaning of WRITE_COMPLETE. -/
def execWriteComplete (s : State) : Host.Outcome State Fault Refusal := .next (s.running State.writeComplete)

end Sys2Proof.Machine
end

