-- ==== Sys2Proof/Machine/Battery.lean ====
section
/-! DEFINITION. The Battery and Supply Monitor's battery side (chapter 8): phase changes taken, samples, the start permit
and the sag report. -/

namespace Sys2Proof.Machine

/-- PHASE_CHANGE: what a change handed by the arbiter does to the counts (R151). -/
def Bsm.takePhase (b : Bsm) (p : Phase) (holder : Option Engine) : Bsm :=
  match p with
  | .granted => { b with phase := p, holder := holder, low := 0, high := 0, sag := 0, crankMin := none }
  | .recovery => { b with phase := p, holder := none, sag := 0 }
  | .idle => { b with phase := p, holder := none, low := 0, high := 0, sag := 0 }

/-- A battery sample as the monitor reads it: 0.0 to 100.0 V (R150). -/
def readVoltage (tenths : Int) : Nat := min tenths.toNat 1000

/-- The permit counts at a sample judged in IDLE (R152). -/
def Bsm.permit (b : Bsm) (th : Thresholds) (v : Nat) : Bsm :=
  { b with
    low := if v < th.startThreshold then min (b.low + 1) th.batteryFilter else 0
    high := if th.startThreshold + th.hysteresis ≤ v then min (b.high + 1) th.batteryFilter else 0 }

/-- The lower of a sample and the crank minimum, the sample when there is none (R150, R155). -/
def lowerOf (least : Option Nat) (v : Nat) : Nat := match least with | none => v | some m => min m v

/-- The sag count at a sample judged in GRANTED, and whether it reaches the filter count (R154). -/
def Bsm.sagCount (b : Bsm) (th : Thresholds) (v : Nat) : Nat × Bool :=
  if v < th.sagFloor then
    if th.batteryFilter ≤ b.sag + 1 then (0, true) else (b.sag + 1, false)
  else (0, false)

/-- BATTERY_SAMPLE: the latest sample, judged against the phase as handed (R150, R152, R154). A sag is reported to the
holder as handed. -/
def State.batterySample (s : State) (tenths : Int) : State :=
  let v := readVoltage tenths
  let b := { s.bsm with sample := some v }
  match b.phase with
  | .idle => s.setBsm (b.permit s.cfg.thresholds v)
  | .granted =>
    let sag := b.sagCount s.cfg.thresholds v
    let t := s.setBsm { b with crankMin := some (lowerOf b.crankMin v), sag := sag.1 }
    match sag.2, b.holder with
    | true, some k => t.emit (.sag k)
    | _, _ => t
  | .recovery => s.setBsm b

/-- BATTERY_LOW_POSTED: in IDLE with the low count at the filter count, a FREE slot 16 is posted (R153). -/
def State.batteryLowPosted (s : State) : State :=
  if s.bsm.phase = .idle ∧ s.cfg.thresholds.batteryFilter ≤ s.bsm.low then s.postInternal .batteryLow .e1 else s

/-- BATTERY_LOW_RETIRED: in IDLE with the high count at the filter count, a LIVE slot 16 is retired (R153). -/
def State.batteryLowRetired (s : State) : State :=
  if s.bsm.phase = .idle ∧ s.cfg.thresholds.batteryFilter ≤ s.bsm.high then s.retireInternal .batteryLow .e1 else s

/-- SAG_REPORT at the holder's sequencer: in CRANKING a failed attempt, discarded elsewhere (R80, R154). -/
def State.sagSeen (s : State) (k : Engine) : State :=
  if (s.eng k).state = .cranking ∧ s.car.holder = some k then s.failAttempt k .batterySag else s

/-- Meaning of PHASE_CHANGE: the oldest handed change of phase. -/
def execPhaseChange (s : State) : Host.Outcome State Fault Refusal :=
  .next (s.running fun t =>
    t.take (fun e => match e with | .phase p h => some (p, h) | _ => none) fun x u =>
      u.setBsm (u.bsm.takePhase x.1 x.2))

/-- Meaning of BATTERY_SAMPLE. -/
def execBatterySample (tenths : Int) (s : State) : Host.Outcome State Fault Refusal :=
  .next (s.running fun t => t.batterySample tenths)

/-- Meaning of BATTERY_LOW_POSTED. -/
def execBatteryLowPosted (s : State) : Host.Outcome State Fault Refusal := .next (s.running State.batteryLowPosted)

/-- Meaning of BATTERY_LOW_RETIRED. -/
def execBatteryLowRetired (s : State) : Host.Outcome State Fault Refusal := .next (s.running State.batteryLowRetired)

/-- Meaning of SAG_REPORT: the engine's oldest handed report. -/
def execSagReport (k : Engine) (s : State) : Host.Outcome State Fault Refusal :=
  .next (s.running fun t =>
    t.take (fun e => match e with | .sag j => if j = k then some () else none | _ => none)
      fun _ u => if u.fitted k then u.sagSeen k else u)

end Sys2Proof.Machine
end

