-- ==== Sys2Proof/Machine/Reset.lean ====
section
/-! DEFINITION. Raising a reset (R195): what happens to the part at the moment the reset is raised. Its end, with the
after-reset values of every block, is RESET_END in Machine/Supply.lean. -/

namespace Sys2Proof.Machine

/-- A write in flight is abandoned by a reset, and leaves the non-volatile image with a checksum that disagrees
(R192). -/
def Cfs.abandon (c : Cfs) : Cfs :=
  if c.write.isSome then { c with write := none, nv := { c.nv with good := false } } else c

/-- Raise a reset of a kind: the part is held in reset, every output goes off (they read State.resetting), nothing
handed between blocks survives, and a configuration write in flight is abandoned (R156, R192, R195). -/
def State.raiseReset (s : State) (kind : ResetKind) : State :=
  ((s.setResetting (some kind)).setHanded []).setCfs s.cfs.abandon

/-- The retained state is lost: the reset cause record, the counters and COUNTERS_RESTORED (R157, R170, R195). -/
def State.loseRetained (s : State) : State :=
  (s.setCfs { s.cfs with cause := none }).setDct { s.dct with duty := .same (.begin .zero false) }

end Sys2Proof.Machine
end

