-- ==== Sys2Proof/Machine/ConfigRequests.lean ====
section
/-! DEFINITION. READ_CONFIG, WRITE_CONFIG and RESTART at the Configuration Store (chapter 11), and the end of the last
response after a RESTART. -/

namespace Sys2Proof.Machine

/-- READ_CONFIG: the section's working-image contents (R190). -/
def State.readConfig (s : State) (sec : Byte) : State × Reply :=
  match sectionOf sec with
  | none => (s, .bare .badValue)
  | some id => (s, ⟨.ok, s.cfs.working.contents id⟩)

/-- WRITE_CONFIG: write state, engines at rest, then the section whole; a write taken is in flight (R189, R191). -/
def State.writeConfig (s : State) (sec : Byte) (contents : List Byte) : State × Reply :=
  match sectionOf sec with
  | none => (s, .bare .badRequest)
  | some id =>
    if s.writing then (s, .bare .busy)
    else if !s.allResting then (s, .bare .wrongState)
    else
      match refusedIndex s.cfs.working id contents with
      | some n => (s, ⟨.badValue, [byte n]⟩)
      | none =>
        ((s.setCfs { s.cfs with write := some (decodeSection id contents) }).emit (.replan .write), .bare .ok)

/-- RESTART: refused during a write or with an engine not at rest; taken, the CLI stops receiving and serving
(R186, R196). -/
def State.restart (s : State) : State × Reply :=
  if s.writing then (s, .bare .busy)
  else if !s.allResting then (s, .bare .wrongState)
  else (s.setCli { s.cli with restarting := true }, .bare .ok)

/-- The reset of a RESTART is raised once its response has been sent: none is left to send (R186). -/
def State.restartWhenSent (s : State) : State :=
  if s.resetting.isNone && s.cli.restarting && s.cli.responses.isEmpty then s.raiseReset .restart else s

/-- Meaning of READ_CONFIG. -/
def execReadConfig (c : Caller) (sec : Byte) (s : State) : Host.Outcome State Fault Refusal :=
  .next (s.serveCommand (.readConfig c sec) fun t => t.readConfig sec)

/-- Meaning of WRITE_CONFIG. -/
def execWriteConfig (c : Caller) (sec : Byte) (contents : List Byte) (s : State) : Host.Outcome State Fault Refusal :=
  .next (s.serveCommand (.writeConfig c sec contents) fun t => t.writeConfig sec contents)

/-- Meaning of RESTART. Away from the link there is no response to wait for (log entry 2). -/
def execRestart (c : Caller) (s : State) : Host.Outcome State Fault Refusal :=
  .next (s.serveCommand (.restart c) State.restart).restartWhenSent

end Sys2Proof.Machine
end

