-- ==== Sys2Proof/Machine/Demand.lean ====
section
/-! DEFINITION. The Demand Selector and the Line Input Conditioner (chapter 1): the input sample, the throttle decode,
the level changes' hand-offs, SET_DEMAND, SELECT_SOURCE and the lapse. The level changes are taken in
Machine/Inputs.lean. -/

namespace Sys2Proof.Machine

/-- The notch a throttle code names, lines in the order TL4 TL3 TL2 TL1 (R7). -/
def notchOf (code : BitVec 4) : Option Nat :=
  match code.toNat with
  | 0b0000 => some 0
  | 0b0001 => some 1
  | 0b0011 => some 2
  | 0b0010 => some 3
  | 0b0110 => some 4
  | 0b0111 => some 5
  | 0b0101 => some 6
  | 0b0100 => some 7
  | 0b1100 => some 8
  | _ => none

/-- One sample of one input under its class's count: the filter after it, and whether the filtered level changed (R2,
R3). -/
def Filter.sample (f : Filter) (count : Nat) (raw : Bool) : Filter × Bool :=
  if f.fresh then (⟨raw, 0, false⟩, raw != f.level)
  else if raw = f.level then (⟨f.level, 0, false⟩, false)
  else if count ≤ f.count + 1 then (⟨raw, 0, false⟩, true)
  else (⟨f.level, f.count + 1, false⟩, false)

/-- The agreement count of an input's class in use (R1, R4). -/
def State.filterCount (s : State) : Input → Nat
  | .tl1 | .tl2 | .tl3 | .tl4 | .run => s.cfg.inputs.throttleFilter
  | .iso _ | .lube _ => s.cfg.inputs.switchFilter
  | .emergency | .gnt => Config.fixedFilterCount

/-- An input is sampled: the switches of an engine not fitted are not (R4). -/
def State.sampled (s : State) : Input → Bool
  | .iso k | .lube k => s.fitted k
  | _ => true

/-- One input at one sample. -/
def State.sampleInput (s : State) (raw : Lines Bool) (i : Input) : Filter × Bool :=
  if s.sampled i then (s.lic.get i).sample (s.filterCount i) (raw.get i) else (s.lic.get i, false)

/-- The blocks each change of an input is handed to (R5); the throttle lines are read at the sample itself (R8). -/
def State.readers (s : State) : Input → List Block
  | .run | .emergency => .ppl :: s.fittedEngines.map .esq
  | .iso k | .lube k => [.esq k]
  | .gnt => [.car]
  | .tl1 | .tl2 | .tl3 | .tl4 => []

/-- Every input that other blocks take changes of. -/
def readInputs : List Input :=
  [.run, .emergency] ++ Engine.all.map .iso ++ Engine.all.map .lube ++ [.gnt]

/-- The level changes a sample hands on (R5). -/
def State.levelEvents (s : State) (raw : Lines Bool) : List Event :=
  readInputs.flatMap fun i =>
    if (s.sampleInput raw i).2 then (s.readers i).map fun b => .level i b (s.sampleInput raw i).1.level else []

/-- The throttle code of some filtered levels, TL4 first (R7). -/
def codeOf (l : Lines Filter) : BitVec 4 :=
  BitVec.ofBool l.tl4.level ++ (BitVec.ofBool l.tl3.level ++ (BitVec.ofBool l.tl2.level ++ BitVec.ofBool l.tl1.level))

/-- The invalid timer advances by one sample; at the timeout it stops and INVALID_TIMEOUT is due (R9). -/
def Dsl.advanceInvalid (d : Dsl) (timeout : Nat) : Dsl :=
  match d.invalidTimer with
  | some n => if timeout ≤ n + 1 then { d with invalidTimer := none, timeoutDue := true } else { d with invalidTimer := some (n + 1) }
  | none => d

/-- A code that differs from the code under test (R8, R9). -/
def Dsl.newCode (d : Dsl) (code : BitVec 4) (timeout : Nat) : Dsl :=
  let under : Dsl := { d with code := some code, settle := some 0 }
  match notchOf code with
  | some _ => { under with invalidTimer := none }
  | none =>
    if d.code.any fun c => (notchOf c).isNone then under.advanceInvalid timeout
    else { under with invalidTimer := some 0 }

/-- The code under test formed again (R8, R9): a valid code is accepted at the sample at which its settle time is
reached; an invalid one never is. -/
def Dsl.sameCode (d : Dsl) (code : BitVec 4) (settleTicks timeout : Nat) : Dsl :=
  match notchOf code, d.settle with
  | some n, some t =>
    if settleTicks ≤ t + 1 then { d with settle := none, acceptDue := some n } else { d with settle := some (t + 1) }
  | some _, none => d
  | none, t => { d with settle := t.map fun n => min (n + 1) settleTicks }.advanceInvalid timeout

/-- The DSL at a sample, once all four filters have taken it (R8). Times are in samples of 10 ms. -/
def Dsl.sample (d : Dsl) (code : BitVec 4) (settleTicks timeout : Nat) : Dsl :=
  if d.code = some code then d.sameCode code settleTicks timeout else d.newCode code timeout

/-- INPUT_SAMPLE: every filter takes its sample, the changes are handed on, and the DSL forms its code (R2 to R9). -/
def State.inputSample (s : State) (raw : Lines Bool) : State :=
  let lic : Lines Filter := .of fun i => (s.sampleInput raw i).1
  ((s.setLic lic).setDsl
    (s.dsl.sample (codeOf lic) (s.cfg.inputs.settleMs / 10) (s.cfg.inputs.invalidTimeout * 10))).emitAll (s.levelEvents raw)

/-- Replace the DSL; a change of D is handed to the Power Planner (R11). -/
def State.demandStep (s : State) (d : Dsl) : State :=
  if d.demand = s.dsl.demand then s.setDsl d else (s.setDsl d).emit (.replan .demand)

/-- CODE_ACCEPTED: the decoded notch takes the accepted code's notch, and a standing fault clears (R8, R10). -/
def State.codeAccepted (s : State) : State :=
  match s.dsl.acceptDue with
  | some n =>
    let t := s.demandStep { s.dsl with acceptDue := none, decoded := n, fault := false }
    if s.dsl.fault then t.flagTrainlineFault else t
  | none => s

/-- INVALID_TIMEOUT: the decoded notch becomes 0 and TRAINLINE_FAULT is set (R9, R10). -/
def State.invalidTimeout (s : State) : State :=
  if s.dsl.timeoutDue then
    let t := s.demandStep { s.dsl with timeoutDue := false, decoded := 0, fault := true }
    if s.dsl.fault then t else t.flagTrainlineFault
  else s

/-- The hold timer has reached the length it was started with (R14, R15). -/
def Dsl.lapseDue (d : Dsl) : Bool :=
  match d.hold with
  | some (n, len) => decide (len ≤ n)
  | none => false

/-- DEMAND_LAPSE (R14). -/
def State.demandLapse (s : State) : State :=
  if s.dsl.lapseDue then
    (s.demandStep { s.dsl with linkDemand := 0, lapsed := true, hold := none }).flagDemandLapsed
  else s

/-- SET_DEMAND at the DSL (R13). -/
def State.setDemand (s : State) (notch : Byte) : State × Reply :=
  match s.dsl.source with
  | .trainline => (s, .bare .wrongState)
  | .link =>
    (s.demandStep { s.dsl with
        linkDemand := min notch.toNat 8
        hold := some (0, s.cfg.inputs.demandHold * 10)
        lapsed := false },
      .bare (if 8 < notch.toNat then .clamped else .ok))

/-- SELECT_SOURCE at the DSL (R12). -/
def State.selectSource (s : State) (source : Byte) : State × Reply :=
  match sourceField source with
  | none => (s, .bare .badValue)
  | some x =>
    if x = s.dsl.source then (s, .bare .ok)
    else (s.demandStep { s.dsl with source := x, linkDemand := 0, hold := none, lapsed := false }, .bare .ok)

/-- Meaning of SET_DEMAND. -/
def execSetDemand (c : Caller) (notch : Byte) (s : State) : Host.Outcome State Fault Refusal :=
  .next (s.serveCommand (.setDemand c notch) fun t => t.setDemand notch)

/-- Meaning of SELECT_SOURCE. -/
def execSelectSource (c : Caller) (source : Byte) (s : State) : Host.Outcome State Fault Refusal :=
  .next (s.serveCommand (.selectSource c source) fun t => t.selectSource source)

/-- Meaning of INPUT_SAMPLE. -/
def execInputSample (raw : Lines Bool) (s : State) : Host.Outcome State Fault Refusal :=
  .next (s.running fun t => t.inputSample raw)

/-- Meaning of CODE_ACCEPTED. -/
def execCodeAccepted (s : State) : Host.Outcome State Fault Refusal := .next (s.running State.codeAccepted)

/-- Meaning of INVALID_TIMEOUT. -/
def execInvalidTimeout (s : State) : Host.Outcome State Fault Refusal := .next (s.running State.invalidTimeout)

/-- Meaning of DEMAND_LAPSE. -/
def execDemandLapse (s : State) : Host.Outcome State Fault Refusal := .next (s.running State.demandLapse)

end Sys2Proof.Machine
end

