-- ==== Sys2Proof/Machine/EngineRequests.lean ====
section
/-! DEFINITION. The requests on one engine: READ_ENGINE, START, STOP, ISOLATE, RESTORE, SET_HOLD, STEP, ACK_TRIP and
CLEAR_PICKUP_FAULT (chapters 4, 5, 7 and R183). -/

namespace Sys2Proof.Machine

/-! ## Codes of the engine report (R183) -/

/-- The state, 1 ISOLATED to 11 TRIPPED. -/
def EState.code : EState → Byte
  | .isolated => 1
  | .stopped => 2
  | .prelube => 3
  | .crankWait => 4
  | .cranking => 5
  | .crankRest => 6
  | .runup => 7
  | .online => 8
  | .cooldown => 9
  | .stopping => 10
  | .tripped => 11

/-- The start reason. -/
def startReasonCode : Option StartReason → Byte
  | none => 0
  | some .staging => 1
  | some .request => 2
  | some .runDemand => 3

/-- The stop reason. -/
def stopReasonCode : Option StopReason → Byte
  | none => 0
  | some .shed => 1
  | some .request => 2
  | some .stopDemand => 3
  | some .runOff => 4
  | some .isolation => 5

/-- The trip cause. -/
def tripCauseCode : Option TripCause → Byte
  | none => 0
  | some .noPrelube => 1
  | some .noStart => 2
  | some .runupFail => 3
  | some .overspeed => 4
  | some .lowLube => 5
  | some .overheat => 6
  | some .noSpeedSignal => 7
  | some .stopFail => 8
  | some .emergency => 9

/-- The last attempt cause. -/
def attemptCode : Option AttemptCause → Byte
  | none => 0
  | some .fired => 1
  | some .crankTimeout => 2
  | some .batterySag => 3
  | some .falseStart => 4

/-- The hold point as the report gives it: 1 NONE. -/
def HoldPoint.code : HoldPoint → Byte
  | .none => 1
  | .beforeCrank => 2
  | .beforeOnline => 3

/-- A speed, FFFFh when not yet measured. -/
def speedBytes (v : Option Nat) : List Byte := be16 (v.getD 0xFFFF)

/-- The speed, health and saturated mark of a pickup. -/
def Reading.bytes (r : Reading) : List Byte :=
  speedBytes r.speed ++
    match r with
    | .notMeasured => [0, 0]
    | .silent => [2, 0]
    | .good _ saturated => [1, bit saturated]

/-- A pickup, 1 A or 2 B. -/
def pickupCode : Pickup → Byte
  | .a => 1
  | .b => 2

/-- A coolant reading, 7FFFh for none. -/
def coolantBytes : Option Int → List Byte
  | none => be16 0x7FFF
  | some t => beSigned16 t

/-- The place of an engine in the crank queue, 1 at the head; 0 for none (R133). -/
def placeIn (queue : List Engine) (k : Engine) : Nat :=
  match queue with
  | [] => 0
  | j :: rest =>
    if j = k then 1
    else
      match placeIn rest k with
      | 0 => 0
      | n + 1 => n + 2

/-- The record group of the report (R67). -/
def State.recordBytes (s : State) (r : EngineRec) : List Byte :=
  [r.state.code, startReasonCode r.startReason, bit r.stopPending, stopReasonCode r.stopReason, tripCauseCode r.tripCause,
      attemptCode r.lastAttempt, byte r.notch, byte r.pairInUse.target] ++
    be16 r.pairInUse.alloc ++ be16 (s.loadLimitOf r) ++ be16 (s.setpointOf r) ++
    [byte r.attempts, r.holdPoint.code, bit r.held, bit r.highLoad, bit r.settled] ++ be16 (r.settledTime.getD 0)

/-- The sensing group of the report (R148). -/
def Sensing.bytes (x : Sensing) : List Byte :=
  x.a.reading.bytes ++ x.b.reading.bytes ++ [pickupCode x.selection] ++ speedBytes x.selected ++
    [bit x.degraded, bit x.restored,
      match x.failed with
      | none => 0
      | some p => pickupCode p] ++
    coolantBytes x.coolant ++
    [if x.sensorGood then 1 else 2, bit (decide (x.overCount = Config.coolantCount)), bit x.warmed]

/-- The engine report, 48 bytes (R183). -/
def State.engineReport (s : State) (k : Engine) : List Byte :=
  s.recordBytes (s.eng k) ++
    [bit (s.eng k).isoRequest, bit (s.level (.iso k)), byte (s.limits.ceiling.get k), bit (s.limits.inhibit.get k),
      bit (s.limits.run.get k), bit (s.limits.stop.get k), byte (placeIn s.car.queue k),
      bit (decide (s.car.holder = some k))] ++
    (s.sense k).bytes

/-- READ_ENGINE: the report, and in the same event the engine's changed flag is cleared (R183). -/
def State.readEngine (s : State) (k : Engine) : State × Reply := (s.clearChanged k, ⟨.ok, s.engineReport k⟩)

/-- START by the state of the engine (R74). -/
def State.start (s : State) (k : Engine) : State × Reply :=
  if s.writing then (s, .bare .busy)
  else
    let r := s.eng k
    match r.state with
    | .stopped => if s.admits k then (s.admitStart k .request, .bare .ok) else (s, .bare .wrongState)
    | .prelube | .crankWait | .cranking | .crankRest | .runup => (s, .bare .ok)
    | .online =>
      if !r.stopPending then (s, .bare .ok)
      else if r.stopReason = some .shed then (s.takeRecall k, .bare .ok)
      else (s, .bare .wrongState)
    | .cooldown => if r.stopReason = some .shed then (s.takeRecall k, .bare .ok) else (s, .bare .wrongState)
    | .isolated | .stopping | .tripped => (s, .bare .wrongState)

/-- STOP: a stop order REQUEST, answered OK in every state (R104). -/
def State.stop (s : State) (k : Engine) : State × Reply := (s.takeStop k .request, .bare .ok)

/-- ISOLATE and RESTORE: on a flag that has the level asked they change nothing; else the flag takes it, and a change of the
isolation condition is acted upon (R115, R116). -/
def State.setIsolation (s : State) (k : Engine) (asked : Bool) : State × Reply :=
  (if (s.eng k).isoRequest = asked then s else (s.modEng k fun r => { r with isoRequest := asked }).reviewIsolation k,
    .bare .ok)

/-- SET_HOLD: the hold point is replaced, and an engine held at another point is released (R87, R89). -/
def State.setHold (s : State) (hold : Byte) (k : Engine) : State × Reply :=
  match holdField hold with
  | none => (s, .bare .badValue)
  | some p =>
    let t := s.modEng k fun r => { r with holdPoint := p }
    (if (s.eng k).held ∧ p ≠ (s.eng k).heldAt then t.releaseHold k else t, .bare .ok)

/-- STEP: a held engine passes its hold point when the step's condition holds (R90). -/
def State.stepHold (s : State) (k : Engine) : State × Reply :=
  if (s.eng k).held ∧ s.holdPassable k = true then (s.passHold k, .bare .ok) else (s, .bare .wrongState)

/-- ACK_TRIP: a TRIPPED engine at rest, with the emergency line clear for an EMERGENCY trip, enters STOPPED or ISOLATED
(R113). DESIGN CHOICE: it may be taken before the COUNTED_EVENT of that trip, whose LOCKOUT then comes to an engine no longer
TRIPPED (R164; log entry 41). -/
def State.ackTrip (s : State) (k : Engine) : State × Reply :=
  if (s.eng k).state = .tripped ∧ s.atRest k = true ∧ ¬ ((s.eng k).tripCause = some .emergency ∧ s.emergency = true) then
    (s.enterRest k [], .bare .ok)
  else (s, .bare .wrongState)

/-- Both pickups GOOD at 100 rpm or more and within a tenth of the higher (R140). DESIGN CHOICE (log entry 35): pickups not
yet measured, before the engine's first speed update, do not agree; R140's table has no row for them. -/
def Sensing.pickupsAgree (x : Sensing) : Bool :=
  match x.a.reading, x.b.reading with
  | .good va _, .good vb _ =>
    decide (Config.pickupFloor ≤ va) && decide (Config.pickupFloor ≤ vb) &&
      decide (10 * (max va vb - min va vb) ≤ max va vb)
  | _, _ => false

/-- CLEAR_PICKUP_FAULT (R140; before the first speed update: log entry 35). -/
def State.clearPickupFault (s : State) (k : Engine) : State × Reply :=
  if (s.sense k).pickupsAgree then
    ((s.setSense k { s.sense k with degraded := false, restored := false, failed := none }).retireInternal .pickup k,
      .bare .ok)
  else (s, .bare .wrongState)

/-- Meaning of READ_ENGINE. -/
def execReadEngine (c : Caller) (engine : Byte) (s : State) : Host.Outcome State Fault Refusal :=
  .next (s.serveCommand (.readEngine c engine) fun t => t.forEngine engine fun k u => u.readEngine k)

/-- Meaning of START. -/
def execStart (c : Caller) (engine : Byte) (s : State) : Host.Outcome State Fault Refusal :=
  .next (s.serveCommand (.start c engine) fun t => t.forEngine engine fun k u => u.start k)

/-- Meaning of STOP. -/
def execStop (c : Caller) (engine : Byte) (s : State) : Host.Outcome State Fault Refusal :=
  .next (s.serveCommand (.stop c engine) fun t => t.forEngine engine fun k u => u.stop k)

/-- Meaning of ISOLATE. -/
def execIsolate (c : Caller) (engine : Byte) (s : State) : Host.Outcome State Fault Refusal :=
  .next (s.serveCommand (.isolate c engine) fun t => t.forEngine engine fun k u => u.setIsolation k true)

/-- Meaning of RESTORE. -/
def execRestore (c : Caller) (engine : Byte) (s : State) : Host.Outcome State Fault Refusal :=
  .next (s.serveCommand (.restore c engine) fun t => t.forEngine engine fun k u => u.setIsolation k false)

/-- Meaning of SET_HOLD. -/
def execSetHold (c : Caller) (engine hold : Byte) (s : State) : Host.Outcome State Fault Refusal :=
  .next (s.serveCommand (.setHold c engine hold) fun t => t.forEngine engine fun k u => u.setHold hold k)

/-- Meaning of STEP. -/
def execStep (c : Caller) (engine : Byte) (s : State) : Host.Outcome State Fault Refusal :=
  .next (s.serveCommand (.step c engine) fun t => t.forEngine engine fun k u => u.stepHold k)

/-- Meaning of ACK_TRIP. -/
def execAckTrip (c : Caller) (engine : Byte) (s : State) : Host.Outcome State Fault Refusal :=
  .next (s.serveCommand (.ackTrip c engine) fun t => t.forEngine engine fun k u => u.ackTrip k)

/-- Meaning of CLEAR_PICKUP_FAULT. -/
def execClearPickupFault (c : Caller) (engine : Byte) (s : State) : Host.Outcome State Fault Refusal :=
  .next (s.serveCommand (.clearPickupFault c engine) fun t => t.forEngine engine fun k u => u.clearPickupFault k)

end Sys2Proof.Machine
end

