-- ==== Sys2Proof/Machine/Inputs.lean ====
section
/-! DEFINITION. What the Power Planner, the Engine Sequencers and the Crank Arbiter do when they take a level change (R5)
or a limits-changed event (R39). -/

namespace Sys2Proof.Machine

/-- A sequencer takes a change of the run line: de-assertion is a stop order RUN_OFF, and any change is an event of R72
(R100, R72). -/
def State.runLineSeen (s : State) (k : Engine) (level : Bool) : State :=
  (if level then s else s.takeStop k .runOff).runDemandStart k

/-- A sequencer takes a change of the emergency line: assertion trips, clearing is an event of R72 (R110, R72). -/
def State.emergencySeen (s : State) (k : Engine) (level : Bool) : State :=
  (if level then s.emergencyTrip k else s).runDemandStart k

/-- A reader takes the change of an input (R5). -/
def State.levelSeen (s : State) (i : Input) (b : Block) (level : Bool) : State :=
  match i, b with
  | .run, .ppl | .emergency, .ppl => s.emit (.replan .line)
  | .run, .esq k => if s.fitted k then s.runLineSeen k level else s
  | .emergency, .esq k => if s.fitted k then s.emergencySeen k level else s
  | .iso j, .esq k => if s.fitted k ∧ j = k then s.reviewIsolation k else s
  | .lube j, .esq k =>
    if s.fitted k ∧ j = k then (if level then s.lubeClosed k else s.lubeOpened k) else s
  | .gnt, .car => s.externalGrant level
  | _, _ => s

/-- A sequencer takes a limits-changed event: a stop demand newly holding is a stop order, a run demand newly holding
recalls, and the event is one of R72 (R72, R100, R105). -/
def State.limitsSeen (s : State) (k : Engine) (stopRose runRose : Bool) : State :=
  let t := if stopRose && s.limits.stop.get k then s.takeStop k .stopDemand else s
  let u := if runRose && t.limits.run.get k then t.takeRecall k else t
  u.runDemandStart k

/-- A recipient takes a limits-changed event (R39): a re-plan, the sequencer's part, or a grant decision. -/
def State.limitsChanged (s : State) (b : Block) (stopRose runRose : Bool) : State :=
  match b with
  | .ppl => s.emit (.replan .limits)
  | .esq k => if s.fitted k then s.limitsSeen k stopRose runRose else s
  | .car => s.decideGrant

/-- Meaning of LEVEL_CHANGE: the reader takes its oldest handed change of the input. -/
def execLevelChange (input : Input) (reader : Block) (s : State) : Host.Outcome State Fault Refusal :=
  .next (s.running fun t =>
    t.take (fun e => match e with
      | .level j b lvl => if j = input ∧ b = reader then some lvl else none
      | _ => none) fun lvl u => u.levelSeen input reader lvl)

/-- Meaning of LIMITS_CHANGED: the recipient takes its oldest handed event. -/
def execLimitsChanged (recipient : Block) (s : State) : Host.Outcome State Fault Refusal :=
  .next (s.running fun t =>
    t.take (fun e => match e with
      | .limits b stop run => if b = recipient then some (stop, run) else none
      | _ => none) fun x u => u.limitsChanged recipient x.1 x.2)

end Sys2Proof.Machine
end

