-- ==== Sys2Proof/Machine/Link.lean ====
section
/-! DEFINITION. The Cabinet Link Interface (chapter 10): the receiver, the intake, serving and the sending of
responses. -/

namespace Sys2Proof.Machine

/-- The status code of a response (R177). -/
def Status.code : Status → Byte
  | .ok => 0x00
  | .clamped => 0x01
  | .busy => 0x02
  | .badRequest => 0x03
  | .badValue => 0x04
  | .notPermitted => 0x05
  | .unknownHandle => 0x06
  | .tableFull => 0x07
  | .wrongState => 0x08
  | .configInvalid => 0x09

/-- The bytes over which a response frame's CRC is formed (R173). -/
def responseBody (r : Response) : List Byte := [byte r.payload.length, r.code, r.tag, r.status.code] ++ r.payload

/-- The response frame of 10.2. -/
def responseFrame (r : Response) : List Byte := 0x5A :: (responseBody r ++ wordBytes (crc16 (responseBody r)))

/-- The last two bytes of a frame body are the CRC of the bytes before them (R173). -/
def crcAgrees (frame : List Byte) : Bool :=
  decide (wordBytes (crc16 (frame.take (frame.length - 2))) = frame.drop (frame.length - 2))

/-- A character at the receiver: its next state, and the frame it completes, length byte to last CRC byte (R171). -/
def Receiver.take (r : Receiver) (ch : Byte) (framingError : Bool) : Receiver × Option (List Byte) :=
  match r with
  | .hunt => (if !framingError && decide (ch = 0xA5) then .length else .hunt, none)
  | .length => (if framingError || decide (Config.maxPayload < ch.toNat) then .hunt else .body ch.toNat [], none)
  | .body len got =>
    if framingError then (.hunt, none)
    else
      let now := got ++ [ch]
      if now.length = len + 5 then (.hunt, some (byte len :: now)) else (.body len now, none)

/-- CHARACTER_RECEIVED: a complete frame with a good CRC waits for REQUEST_FRAME_COMPLETE, one with a bad CRC is
discarded (R171 to R173); nothing is received once a RESTART is taken (R186). DESIGN CHOICE: R171 and R174 take the request
in at the storing of the last CRC byte; here the frame waits in cli.completed, and other commands may come before its own row
(log entry 42). -/
def State.characterReceived (s : State) (ch : Byte) (framingError : Bool) : State :=
  if s.cli.restarting then s
  else
    let step := s.cli.receiver.take ch framingError
    match step.2 with
    | some frame =>
      s.setCli { s.cli with
        receiver := step.1
        completed := if crcAgrees frame then s.cli.completed ++ [frame] else s.cli.completed }
    | none => s.setCli { s.cli with receiver := step.1 }

/-- The request a complete frame carries: code, tag and origin after the length byte, then the payload (10.2). -/
def frameRequest (frame : List Byte) : Request where
  code := frame.getD 1 0
  tag := frame.getD 2 0
  origin := frame.getD 3 0
  payload := (frame.drop 4).take (frame.length - 6)

/-- How many BUSY responses wait: those without an intake place (R175). -/
def busyWaiting (responses : List Response) : Nat := (responses.filter fun r => !r.placed).length

/-- A request completes: it takes a free place, or is answered BUSY, or discarded (R174, R175). -/
def State.takeIn (s : State) (r : Request) : State :=
  if s.cli.intake.length < Config.intakePlaces then s.setCli { s.cli with intake := s.cli.intake ++ [⟨r, false⟩] }
  else if busyWaiting s.cli.responses < Config.intakePlaces then
    s.setCli { s.cli with responses := s.cli.responses ++ [⟨r.code, r.tag, .busy, [], false⟩] }
  else s

/-- REQUEST_FRAME_COMPLETE: the oldest complete frame is taken in, by the intake and the responses as they stand at this row
(R174, R175). After a RESTART the frames that wait are never taken in nor answered BUSY (R186; log entry 42). -/
def State.frameComplete (s : State) : State :=
  if s.cli.restarting then s
  else
    match s.cli.completed with
    | frame :: rest => (s.setCli { s.cli with completed := rest }).takeIn (frameRequest frame)
    | [] => s

/-- FRAME_GAP_TIMEOUT: the frame in progress is discarded (R172). -/
def State.gapTimeout (s : State) : State := s.setCli { s.cli with receiver := .hunt }

/-- The oldest unserved request. -/
def unserved (intake : List Intake) : Option Request := (intake.find? fun x => !x.served).map Intake.req

/-- SERVE_REQUEST: with nothing being served, the common checks on the oldest unserved request; a failure is its
response, else it is handed to its owning block (R174, R179). The owner takes it at the request's own row, and other
commands may be taken before that (log entry 32). -/
def State.serveRequest (s : State) : State :=
  if s.cli.restarting || s.cli.serving.isSome then s
  else
    match unserved s.cli.intake with
    | none => s
    | some r =>
      match s.commonCheck r with
      | some st => s.respond r (.bare st)
      | none => s.setCli { s.cli with serving := some r }

/-- Free the place of the oldest served request (R176). -/
def freePlace : List Intake → List Intake
  | [] => []
  | x :: xs => if x.served then xs else x :: freePlace xs

/-- RESPONSE_SENT: the response at the head has gone out, its request's place is freed (R176); after a RESTART the last
one raises the reset (R186). -/
def State.responseSent (s : State) : State :=
  match s.cli.responses with
  | [] => s
  | r :: rest =>
    (s.setCli { s.cli with
      responses := rest
      sent := responseFrame r
      intake := if r.placed then freePlace s.cli.intake else s.cli.intake }).restartWhenSent

/-- Meaning of CHARACTER_RECEIVED. -/
def execCharacterReceived (ch : Byte) (framingError : Bool) (s : State) : Host.Outcome State Fault Refusal :=
  .next (s.running fun t => t.characterReceived ch framingError)

/-- Meaning of REQUEST_FRAME_COMPLETE. -/
def execRequestFrameComplete (s : State) : Host.Outcome State Fault Refusal := .next (s.running State.frameComplete)

/-- Meaning of FRAME_GAP_TIMEOUT. -/
def execFrameGapTimeout (s : State) : Host.Outcome State Fault Refusal := .next (s.running State.gapTimeout)

/-- Meaning of SERVE_REQUEST. -/
def execServeRequest (s : State) : Host.Outcome State Fault Refusal := .next (s.running State.serveRequest)

/-- Meaning of RESPONSE_SENT. -/
def execResponseSent (s : State) : Host.Outcome State Fault Refusal := .next (s.running State.responseSent)

end Sys2Proof.Machine
end

