-- ==== Sys2Proof/Machine/SensingEvents.lean ====
section
/-! DEFINITION. Engine Sensing (chapter 7): pulses, the speed update with failover and the report the sequencer acts on,
the coolant sample and the conditions it forms. -/

namespace Sys2Proof.Machine

/-! ## Speed -/

/-- The pulses of the window (R135). -/
def PickupState.window (p : PickupState) : Nat := p.w1 + p.w2 + p.w3 + p.w4

/-- The speed, health and saturated mark of some pulses in 200 ms (R135). -/
def readingOf (pulses teeth : Nat) : Reading :=
  if pulses = 0 then .silent
  else if 3000 ≤ pulses * 60000 / (teeth * 200) then .good Config.speedMax true
  else .good (pulses * 60000 / (teeth * 200)) false

/-- Close the current interval and drop the oldest of the four (R135). -/
def PickupState.close (p : PickupState) : PickupState := ⟨0, p.w2, p.w3, p.w4, p.current, p.reading⟩

/-- The window of a first speed update: every pulse counted since the sensing set began, over four intervals whose split
is free (R135; log entry 5). -/
def PickupState.first (p : PickupState) (draw : Nat) : PickupState :=
  if p.current = 0 then ⟨0, 0, 0, 0, 0, p.reading⟩
  else
    let w1 := min (Config.earlyPulses draw) p.current
    let w2 := min (Config.earlyPulses (draw + 1)) (p.current - w1)
    let w3 := min (Config.earlyPulses (draw + 2)) (p.current - w1 - w2)
    ⟨0, w1, w2, w3, p.current - w1 - w2 - w3, p.reading⟩

/-- Form the reading of a pickup from its window (R135). -/
def PickupState.read (p : PickupState) (teeth : Nat) : PickupState := { p with reading := readingOf p.window teeth }

/-- No speed update has been made yet (R135). -/
def Sensing.unmeasured (x : Sensing) : Bool := decide (x.a.reading = .notMeasured)

/-- The pickups after a speed update (R135). -/
def Sensing.measure (x : Sensing) (teeth draw : Nat) : Sensing :=
  if x.unmeasured then { x with a := (x.a.first draw).read teeth, b := (x.b.first (draw + 3)).read teeth }
  else { x with a := x.a.close.read teeth, b := x.b.close.read teeth }

/-- A reading GOOD at a speed or more. -/
def Reading.atLeast (r : Reading) (floor : Nat) : Bool :=
  match r with
  | .good v _ => decide (floor ≤ v)
  | _ => false

/-- The selected pickup is SILENT and the other turns at 100 rpm or more (R138). -/
def Sensing.failsOver (x : Sensing) : Bool :=
  decide ((x.pickup x.selection).reading = .silent) && (x.pickup x.selection.other).reading.atLeast Config.pickupFloor

/-- The failover (R138). -/
def Sensing.failover (x : Sensing) : Sensing :=
  { x with selection := x.selection.other, failed := some x.selection, degraded := true, restored := false }

/-- The failed pickup of a degraded engine is GOOD: it sees the wheel again (R139). -/
def Sensing.noteRestored (x : Sensing) : Sensing :=
  match x.failed with
  | some p => if x.degraded && (x.pickup p).reading.atLeast 0 then { x with restored := true } else x
  | none => x

/-- A reading above the overspeed trip, or saturated (R137). -/
def Reading.over (r : Reading) (trip : Nat) : Bool :=
  match r with
  | .good v saturated => decide (trip < v) || saturated
  | _ => false

/-- The overspeed item of the report: either pickup, whichever is selected (R137). -/
def Sensing.overspeed (x : Sensing) (trip : Nat) : Bool := x.a.reading.over trip || x.b.reading.over trip

/-- The selected speed of a report: 0 when the selected pickup is SILENT (R136). -/
def Sensing.reportSpeed (x : Sensing) : Nat := x.selected.getD 0

/-- The states in which OVERSPEED trips (R109). -/
def EState.overspeedTrips : EState → Bool
  | .cranking | .runup | .online | .cooldown | .stopping => true
  | _ => false

/-- The states in which NO_SPEED_SIGNAL trips (R109). -/
def EState.silenceTrips : EState → Bool
  | .runup | .online | .cooldown => true
  | _ => false

/-- The sequencer acts on the speed report (R136): the protective trips, fire in CRANKING, the false start and the
online test in RUNUP, the rest test in STOPPING (R79, R83, R85, R107, R109). The trip is taken before the rest of the
same report (log entry 8). -/
def State.speedReport (s : State) (k : Engine) : State :=
  let x := s.sense k
  let st := (s.eng k).state
  if st.overspeedTrips && x.overspeed s.cfg.thresholds.overspeed then s.trip k .overspeed []
  else if st.silenceTrips && x.bothSilent then s.trip k .noSpeedSignal []
  else
    match st with
    | .cranking => if s.cfg.thresholds.fireSpeed ≤ x.reportSpeed then s.fire k else s
    | .runup => if x.reportSpeed < s.cfg.thresholds.fireSpeed then s.failAttempt k .falseStart else s.tryOnline k
    | .stopping => if s.atRest k then s.enterRest k [] else s
    | _ => s

/-- SPEED_UPDATE: close the interval, form the speeds, fail over, note a restored pickup, then the report (R135 to
R139). The first update of an engine that is STOPPED is an event of R72 (R193). -/
def State.speedUpdate (s : State) (k : Engine) : State :=
  let x := s.sense k
  let y := x.measure s.cfg.roster.teeth s.freeCount
  let t := if x.unmeasured then s.setFreeCount (s.freeCount + 6) else s
  let u :=
    if y.failsOver then (t.setSense k y.failover.noteRestored).postInternal .pickup k else t.setSense k y.noteRestored
  let v := u.speedReport k
  if x.unmeasured ∧ (s.eng k).state = .stopped then v.runDemandStart k else v

/-- PICKUP_PULSE: one pulse into the interval being counted (R135). -/
def State.pickupPulse (s : State) (k : Engine) (p : Pickup) : State :=
  let q := (s.sense k).pickup p
  s.setSense k ((s.sense k).setPickup p { q with current := q.current + 1 })

/-! ## Coolant -/

/-- A count that advances up to 3 while a condition holds and is 0 when it does not. -/
def agree (holds : Bool) (count : Nat) : Nat := if holds then min (count + 1) Config.coolantCount else 0

/-- A coolant sample in range (R142). -/
def coolantInRange (t : Int) : Bool := decide (-40 ≤ t) && decide (t ≤ 150)

/-- The counts of an in-range sample (R142 to R144, R146). -/
def Sensing.coolantGood (x : Sensing) (th : Thresholds) (warmupLive : Bool) (t : Int) : Sensing :=
  { x with
    coolant := some t
    sensorGood := true
    hotCount := agree (decide ((th.hot : Int) < t)) x.hotCount
    coolCount := agree (decide (t ≤ (th.hot : Int) - 5)) x.coolCount
    overCount := agree (decide ((th.overheat : Int) < t)) x.overCount
    warmCount := if warmupLive then agree (decide (th.warm ≤ t)) x.warmCount else x.warmCount }

/-- A faulted sample: no reading, sensor FAULT, every count 0 (R142); a LIVE WARMUP is retired with warmed yes (R146). -/
def Sensing.coolantFault (x : Sensing) (warmupLive : Bool) : Sensing :=
  { x with
    coolant := none
    sensorGood := false
    hotCount := 0
    coolCount := 0
    overCount := 0
    warmCount := 0
    warmed := x.warmed || warmupLive }

/-- COOLANT_SAMPLE (R142 to R146): a faulted sample posts HOT and retires WARMUP at once; an in-range sample counts, and
reports a standing overheat. HOT and WARMUP then follow their counts by HOT_POSTED, HOT_RETIRED and WARMUP_RETIRED. -/
def State.coolantSample (s : State) (k : Engine) (celsius : Int) : State :=
  let x := s.sense k
  let live := s.stands .warmup k
  if coolantInRange celsius then
    let y := x.coolantGood s.cfg.thresholds live celsius
    let t := s.setSense k y
    if y.overCount = Config.coolantCount then t.emit (.overheat k) else t
  else ((s.setSense k (x.coolantFault live)).postInternal .hot k).retireInternal .warmup k

/-- HOT_POSTED (R143). -/
def State.hotPosted (s : State) (k : Engine) : State :=
  if (s.sense k).hotCount = Config.coolantCount then s.postInternal .hot k else s

/-- HOT_RETIRED (R143). -/
def State.hotRetired (s : State) (k : Engine) : State :=
  if (s.sense k).coolCount = Config.coolantCount then s.retireInternal .hot k else s

/-- WARMUP_RETIRED: the warm count has reached 3 on a LIVE entry (R146). -/
def State.warmupRetired (s : State) (k : Engine) : State :=
  if (s.sense k).warmCount = Config.coolantCount ∧ s.stands .warmup k = true then
    (s.setSense k { s.sense k with warmed := true }).retireInternal .warmup k
  else s

/-- OVERHEAT at the sequencer: a trip in ONLINE and COOLDOWN, discarded elsewhere (R109, R144). -/
def State.overheatSeen (s : State) (k : Engine) : State :=
  if (s.eng k).state = .online ∨ (s.eng k).state = .cooldown then s.trip k .overheat [] else s

/-- Meaning of SPEED_UPDATE. -/
def execSpeedUpdate (k : Engine) (s : State) : Host.Outcome State Fault Refusal :=
  .next (s.running fun t => if t.fitted k then t.speedUpdate k else t)

/-- Meaning of PICKUP_PULSE. -/
def execPickupPulse (k : Engine) (p : Pickup) (s : State) : Host.Outcome State Fault Refusal :=
  .next (s.running fun t => if t.fitted k then t.pickupPulse k p else t)

/-- Meaning of COOLANT_SAMPLE. -/
def execCoolantSample (k : Engine) (celsius : Int) (s : State) : Host.Outcome State Fault Refusal :=
  .next (s.running fun t => if t.fitted k then t.coolantSample k celsius else t)

/-- Meaning of HOT_POSTED. -/
def execHotPosted (k : Engine) (s : State) : Host.Outcome State Fault Refusal :=
  .next (s.running fun t => if t.fitted k then t.hotPosted k else t)

/-- Meaning of HOT_RETIRED. -/
def execHotRetired (k : Engine) (s : State) : Host.Outcome State Fault Refusal :=
  .next (s.running fun t => if t.fitted k then t.hotRetired k else t)

/-- Meaning of WARMUP_RETIRED. -/
def execWarmupRetired (k : Engine) (s : State) : Host.Outcome State Fault Refusal :=
  .next (s.running fun t => if t.fitted k then t.warmupRetired k else t)

/-- Meaning of OVERHEAT: the sequencer takes the report of a sample at which the overheat stands. -/
def execOverheat (k : Engine) (s : State) : Host.Outcome State Fault Refusal :=
  .next (s.running fun t =>
    t.take (fun e => match e with | .overheat j => if j = k then some () else none | _ => none)
      fun _ u => if u.fitted k then u.overheatSeen k else u)

end Sys2Proof.Machine
end

