-- ==== Sys2Proof/Machine/Sequence.lean ====
section
/-! DEFINITION. The commands of the Engine Sequencers and of the arbiter's grant: orders taken, the pairs, the ramp and
the notch step, the timers' ends, the crank grant. -/

namespace Sys2Proof.Machine

/-! ## Orders and pairs -/

/-- The sequencer takes the planner's pair: it is kept in every state and used only in the online set (R62, R97). -/
def State.takePairs (s : State) (handed : PerEngine (Option Pair)) : State :=
  s.setEngines (.of fun k =>
    match handed.get k with
    | some p => if s.fitted k then { s.eng k with pair := p } else s.eng k
    | none => s.eng k)

/-! ## Ramp and notch (R95, R96) -/

/-- A rate in rpm/s as a step of one setpoint update: ceil(rate × 50 / 1000) (R95). -/
def rampStep (rate : Nat) : Nat := (rate * 50 + 999) / 1000

/-- The setpoint moved toward its target, never past it (R95). -/
def rampToward (setpoint goal up down : Nat) : Nat :=
  if setpoint < goal then min (setpoint + up) goal else max (setpoint - down) goal

/-- The ramp of one setpoint update: an unsettled setpoint moves, and settles on reaching EN[n].rpm; a settled one adds
0.05 s to its settled time, up to 30 s (R95). -/
def State.ramped (s : State) (r : EngineRec) : EngineRec :=
  if r.settled then { r with settledTime := some (min (r.settledTime.getD 0 + 1) 600) }
  else
    let now := rampToward r.setpoint (s.enRpm r.notch) (rampStep s.cfg.timing.rateUp) (rampStep s.cfg.timing.rateDown)
    if now = s.enRpm r.notch then { r with setpoint := now, settled := true, settledTime := some 0 }
    else { r with setpoint := now }

/-- The notch a settled engine steps to, if its settled time allows a step toward its target (R96). Settled time is in
0.05 s, T_up and T_down in 0.1 s. -/
def State.stepDue (s : State) (r : EngineRec) : Option Nat :=
  let target := r.pairInUse.target
  let time := r.settledTime.getD 0
  if r.state = .online ∧ r.settled = true then
    if r.notch < target then (if 2 * s.cfg.timing.tUp ≤ time then some (r.notch + 1) else none)
    else if target < r.notch then (if 2 * s.cfg.timing.tDown ≤ time then some (r.notch - 1) else none)
    else none
  else none

/-- A change of notch: the engine is no longer settled, and reaching the cooldown notch sets the high-load mark (R96,
R99). -/
def EngineRec.stepTo (r : EngineRec) (n cooldownNotch : Nat) : EngineRec :=
  { r with
    notch := n, settled := false, settledTime := none, highLoad := r.highLoad || decide (cooldownNotch ≤ n) }

/-- The comparison of R96 on a record the ramp has left: the step it takes, if any. -/
def State.compared (s : State) (r : EngineRec) : EngineRec :=
  match s.stepDue r with
  | some n => r.stepTo n s.cfg.thresholds.cooldownNotch
  | none => r

/-- One setpoint update of an ONLINE engine, one event: the ramp (R95); then a stop-pending engine settled at notch 0 has
completed its step-down (R103), and any other settled engine is compared with its target (R96). -/
def State.setpointUpdate (s : State) (k : Engine) : State :=
  let r := s.ramped (s.eng k)
  if (s.eng k).state = .online then
    if r.stopPending ∧ r.settled ∧ r.notch = 0 then (s.setEng k r).stepDownComplete k else s.setEng k (s.compared r)
  else s

/-- NOTCH_STEP: the setpoint update named by what it brings about. It is the same update as SETPOINT_UPDATE, taken when the
comparison steps the notch at it, and nothing when no step is due (R96; log entry 26). -/
def State.notchStep (s : State) (k : Engine) : State :=
  if (s.stepDue (s.ramped (s.eng k))).isSome then s.setpointUpdate k else s

/-! ## Ends of timers -/

/-- A timer that has counted its time. -/
def timerDone (timer : Option Nat) (time : Nat) : Bool :=
  match timer with
  | none => false
  | some n => decide (time ≤ n)

/-- PRELUBE_TIMEOUT (R76, R88). -/
def State.prelubeTimeout (s : State) (k : Engine) : State :=
  if (s.eng k).state = .prelube ∧ timerDone (s.eng k).prelubeTimer s.cfg.timing.prelube = true then s.trip k .noPrelube []
  else s

/-- CRANK_TIMEOUT: a failed attempt (R80). -/
def State.crankTimeout (s : State) (k : Engine) : State :=
  if (s.eng k).state = .cranking ∧ timerDone (s.eng k).crankTimer s.cfg.timing.crank = true then
    s.failAttempt k .crankTimeout
  else s

/-- REST_END: back into CRANK_WAIT (R81). -/
def State.restEnd (s : State) (k : Engine) : State :=
  if (s.eng k).state = .crankRest ∧ timerDone (s.eng k).restTimer s.cfg.timing.rest = true then s.enterCrankWait k else s

/-- RUNUP_TIMEOUT (R84). -/
def State.runupTimeout (s : State) (k : Engine) : State :=
  if (s.eng k).state = .runup ∧ timerDone (s.eng k).runupTimer s.cfg.timing.runup = true then s.trip k .runupFail []
  else s

/-- COOLDOWN_END (R106). -/
def State.cooldownEnd (s : State) (k : Engine) : State :=
  if (s.eng k).state = .cooldown ∧ timerDone (s.eng k).cooldownTimer s.cfg.timing.cooldown = true then s.enterStopping k []
  else s

/-- STOP_FAIL (R108). -/
def State.stopFail (s : State) (k : Engine) : State :=
  if (s.eng k).state = .stopping ∧ timerDone (s.eng k).stopTimer s.cfg.timing.stopLimit = true then s.trip k .stopFail []
  else s

/-! ## The crank grant -/

/-- The sequencer takes a grant: into CRANKING from CRANK_WAIT, else an unused release (R78). A grant whose engine is no
longer the holder, or cranks on it already, is void: the arbiter hands each grant once. An engine that left CRANK_WAIT
on the grant and is back there before it takes it is still the holder, and cranks on that grant (log entry 10). -/
def State.takeGrant (s : State) (k : Engine) : State :=
  if s.car.holder = some k ∧ (s.eng k).state ≠ .cranking then
    if s.fitted k ∧ (s.eng k).state = .crankWait then
      s.enter k .cranking [] fun r => { r.noTimers with crankTimer := some 0 }
    else s.releaseUnused k
  else s

/-! ## Meanings -/

/-- Do something for a fitted engine. -/
def State.ifFitted (s : State) (k : Engine) (act : State → State) : State := if s.fitted k then act s else s

/-- Meaning of START_ORDER_TAKEN: the engine's oldest handed start order goes through admission (R53, R71). -/
def execStartOrderTaken (k : Engine) (s : State) : Host.Outcome State Fault Refusal :=
  .next (s.running fun t =>
    t.take (fun e => match e with | .startOrder j reason => if j = k then some reason else none | _ => none)
      fun reason u => u.ifFitted k fun v => v.takeStart k reason)

/-- Meaning of RECALL: the engine's oldest handed recall (R54, R105). -/
def execRecall (k : Engine) (s : State) : Host.Outcome State Fault Refusal :=
  .next (s.running fun t =>
    t.take (fun e => match e with | .recall j => if j = k then some () else none | _ => none)
      fun _ u => u.ifFitted k fun v => v.takeRecall k)

/-- Meaning of STOP_ORDER_TAKEN: the engine's oldest handed stop order, with its reason (R100). -/
def execStopOrderTaken (k : Engine) (s : State) : Host.Outcome State Fault Refusal :=
  .next (s.running fun t =>
    t.take (fun e => match e with | .stopOrder j reason => if j = k then some reason else none | _ => none)
      fun reason u => u.ifFitted k fun v => v.takeStop k reason)

/-- Meaning of PAIR_HANDED: the pairs of one re-plan, taken together (R62, R97). -/
def execPairHanded (s : State) : Host.Outcome State Fault Refusal :=
  .next (s.running fun t =>
    t.take (fun e => match e with | .pairs handed => some handed | _ => none) fun handed u => u.takePairs handed)

/-- Meaning of SETPOINT_UPDATE. -/
def execSetpointUpdate (k : Engine) (s : State) : Host.Outcome State Fault Refusal :=
  .next (s.running fun t => t.ifFitted k fun u => u.setpointUpdate k)

/-- Meaning of NOTCH_STEP. -/
def execNotchStep (k : Engine) (s : State) : Host.Outcome State Fault Refusal :=
  .next (s.running fun t => t.ifFitted k fun u => u.notchStep k)

/-- Meaning of PRELUBE_TIMEOUT. -/
def execPrelubeTimeout (k : Engine) (s : State) : Host.Outcome State Fault Refusal :=
  .next (s.running fun t => t.ifFitted k fun u => u.prelubeTimeout k)

/-- Meaning of CRANK_TIMEOUT. -/
def execCrankTimeout (k : Engine) (s : State) : Host.Outcome State Fault Refusal :=
  .next (s.running fun t => t.ifFitted k fun u => u.crankTimeout k)

/-- Meaning of REST_END. -/
def execRestEnd (k : Engine) (s : State) : Host.Outcome State Fault Refusal :=
  .next (s.running fun t => t.ifFitted k fun u => u.restEnd k)

/-- Meaning of RUNUP_TIMEOUT. -/
def execRunupTimeout (k : Engine) (s : State) : Host.Outcome State Fault Refusal :=
  .next (s.running fun t => t.ifFitted k fun u => u.runupTimeout k)

/-- Meaning of COOLDOWN_END. -/
def execCooldownEnd (k : Engine) (s : State) : Host.Outcome State Fault Refusal :=
  .next (s.running fun t => t.ifFitted k fun u => u.cooldownEnd k)

/-- Meaning of STOP_FAIL. -/
def execStopFail (k : Engine) (s : State) : Host.Outcome State Fault Refusal :=
  .next (s.running fun t => t.ifFitted k fun u => u.stopFail k)

/-- Meaning of CRANK_GRANT_TAKEN: the engine's oldest handed grant (R78). -/
def execCrankGrantTaken (k : Engine) (s : State) : Host.Outcome State Fault Refusal :=
  .next (s.running fun t =>
    t.take (fun e => match e with | .grant j => if j = k then some () else none | _ => none)
      fun _ u => u.takeGrant k)

end Sys2Proof.Machine
end

