-- ==== Sys2Proof/Machine/Supply.lean ====
section
/-! DEFINITION. The logic supply (8.4) and the end of a reset (11.6): SUPPLY_DIP, RETENTION_LOSS, POWER_ON,
RELEASE_LEVEL_CROSSED and RESET_END, with the load of the image and of the counters. These are the commands taken while
the part is held in reset. -/

namespace Sys2Proof.Machine

/-- An image with the defaults in place of every section not VALID (R194). -/
def Image.keepValid (im : Image) (m : Marks) : Image where
  roster := if m.roster then im.roster else {}
  engineTable := if m.engineTable then im.engineTable else {}
  locoTable := if m.locoTable then im.locoTable else {}
  timing := if m.timing then im.timing else {}
  thresholds := if m.thresholds then im.thresholds else {}
  staging := if m.staging then im.staging else {}
  arbiter := if m.arbiter then im.arbiter else {}
  inputs := if m.inputs then im.inputs else {}
  origins := if m.origins then im.origins else {}

/-- The Configuration Store after the load of a reset of a kind: the stored sections by their marks, or every section at
its defaults and INVALID when the checksum disagrees (R194); the record takes the kind (R195). -/
def Cfs.load (c : Cfs) (kind : ResetKind) : Cfs where
  working := if c.nv.good then c.nv.image.keepValid c.nv.marks else .defaults
  marks := if c.nv.good then c.nv.marks else .same false
  write := none
  nv := c.nv
  cause := some kind

/-- The configuration in use under a store: the working image when every section is VALID, else the defaults (R188). -/
def Cfs.inUse (c : Cfs) : Image := if c.marks = Marks.same true then c.working else .defaults

/-- The counters of an engine after a reset (R168, R170): loaded from the store at POWER_ON, and for an engine that this
reset newly fits; else kept. An engine not fitted has none. -/
def Dct.dutyAfter (d : Dct) (kind : ResetKind) (was now : Engine → Bool) (k : Engine) : Duty :=
  if !now k then .begin .zero false
  else if kind = .powerOn ∨ was k = false then (d.store.get k).load k
  else .begin (d.duty.get k).stored (d.duty.get k).restored

/-- The Duty Counters after a reset, with a save of every fitted engine requested, E1 first (R170). -/
def Dct.afterReset (d : Dct) (kind : ResetKind) (was now : Engine → Bool) : Dct where
  duty := .of (d.dutyAfter kind was now)
  queue := Engine.all.filter now
  writing := none
  store := d.store

/-- The start-up that follows a reset: the image is loaded first, then every block takes its after-reset values, the
counters are loaded or kept, and the lockout test is made for every fitted engine (R170, R194, R197). The queue of waiting
commands is not the part's. -/
def State.startUp (s : State) (kind : ResetKind) : State :=
  let cfs := s.cfs.load kind
  let dct := s.dct.afterReset kind s.fitted (fittedBy cfs.inUse.roster.fitted)
  (((State.started cfs cfs.inUse dct).setPending s.pending).setFreeCount s.freeCount).forFitted fun k t => t.lockoutTest k

/-- The reset may end: a RESTART at once, the others when the supply has held its release level for the release hold
(R156, R195). -/
def State.released (s : State) (kind : ResetKind) : Bool :=
  match kind with
  | .restart => true
  | .powerOn | .supplyDip =>
    match s.bsm.releaseHold with
    | some n => decide (Config.releaseHoldMs ≤ n)
    | none => false

/-- RESET_END. -/
def State.resetEnd (s : State) : State :=
  match s.resetting with
  | some kind => if s.released kind then s.startUp kind else s
  | none => s

/-- SUPPLY_DIP: in NORMAL the state becomes DIPPED and the reset is raised (R156). -/
def State.supplyDip (s : State) : State :=
  if s.bsm.supply = .normal then (s.setBsm { s.bsm with supply := .dipped, releaseHold := none }).raiseReset .supplyDip
  else s

/-- RETENTION_LOSS: in DIPPED the retained state is lost, and the return is a POWER_ON (R157). -/
def State.retentionLoss (s : State) : State :=
  if s.bsm.supply = .dipped then s.loseRetained.setResetting (some .powerOn) else s

/-- POWER_ON: the supply rises from below the retention level; the reset lasts until its release hold is over (R195).
The supply state is DIPPED while it lasts (log entry 33). -/
def State.powerOn (s : State) : State :=
  ((s.setBsm { s.bsm with supply := .dipped, releaseHold := none }).raiseReset .powerOn).loseRetained

/-- RELEASE_LEVEL_CROSSED: in DIPPED, rising starts the release hold at 0 and falling abandons it (R156). -/
def State.releaseCrossed (s : State) (rising : Bool) : State :=
  if s.bsm.supply = .dipped then s.setBsm { s.bsm with releaseHold := if rising then some 0 else none } else s

/-- Meaning of SUPPLY_DIP. -/
def execSupplyDip (s : State) : Host.Outcome State Fault Refusal := .next s.supplyDip

/-- Meaning of RETENTION_LOSS. -/
def execRetentionLoss (s : State) : Host.Outcome State Fault Refusal := .next s.retentionLoss

/-- Meaning of POWER_ON. -/
def execPowerOn (s : State) : Host.Outcome State Fault Refusal := .next s.powerOn

/-- Meaning of RELEASE_LEVEL_CROSSED. -/
def execReleaseLevelCrossed (rising : Bool) (s : State) : Host.Outcome State Fault Refusal :=
  .next (s.releaseCrossed rising)

/-- Meaning of RESET_END. -/
def execResetEnd (s : State) : Host.Outcome State Fault Refusal := .next s.resetEnd

end Sys2Proof.Machine
end

