-- ==== Sys2Proof/Machine/Dispatch.lean ====
section
/-! DEFINITION. Which meaning each command has: one arm per row of the opcode table, in the table's order. -/

namespace Sys2Proof.Machine

/-- The effect of a command on everything but the queue of waiting commands. -/
def exec (i : Instr) (s : State) : Host.Outcome State Fault Refusal :=
  match i with
  | .post c kind scope valuePresent value expiry => Sys2Proof.Machine.execPost c kind scope valuePresent value expiry s
  | .amend c slot generation valuePresent value expiry => Sys2Proof.Machine.execAmend c slot generation valuePresent value expiry s
  | .retire c slot generation => Sys2Proof.Machine.execRetire c slot generation s
  | .readEntry c slot generation => Sys2Proof.Machine.execReadEntry c slot generation s
  | .listEntries c kind engine origin start => Sys2Proof.Machine.execListEntries c kind engine origin start s
  | .readEngine c engine => Sys2Proof.Machine.execReadEngine c engine s
  | .start c engine => Sys2Proof.Machine.execStart c engine s
  | .stop c engine => Sys2Proof.Machine.execStop c engine s
  | .isolate c engine => Sys2Proof.Machine.execIsolate c engine s
  | .restore c engine => Sys2Proof.Machine.execRestore c engine s
  | .setHold c engine hold => Sys2Proof.Machine.execSetHold c engine hold s
  | .step c engine => Sys2Proof.Machine.execStep c engine s
  | .ackTrip c engine => Sys2Proof.Machine.execAckTrip c engine s
  | .clearLockout c engine => Sys2Proof.Machine.execClearLockout c engine s
  | .clearPickupFault c engine => Sys2Proof.Machine.execClearPickupFault c engine s
  | .readCounters c engine clear => Sys2Proof.Machine.execReadCounters c engine clear s
  | .setDemand c notch => Sys2Proof.Machine.execSetDemand c notch s
  | .selectSource c source => Sys2Proof.Machine.execSelectSource c source s
  | .readStatus c => Sys2Proof.Machine.execReadStatus c s
  | .readPlan c => Sys2Proof.Machine.execReadPlan c s
  | .readConfig c sec => Sys2Proof.Machine.execReadConfig c sec s
  | .writeConfig c sec contents => Sys2Proof.Machine.execWriteConfig c sec contents s
  | .restart c => Sys2Proof.Machine.execRestart c s
  | .requestFrameComplete => Sys2Proof.Machine.execRequestFrameComplete s
  | .frameGapTimeout => Sys2Proof.Machine.execFrameGapTimeout s
  | .serveRequest => Sys2Proof.Machine.execServeRequest s
  | .responseSent => Sys2Proof.Machine.execResponseSent s
  | .inputSample raw => Sys2Proof.Machine.execInputSample raw s
  | .levelChange input reader => Sys2Proof.Machine.execLevelChange input reader s
  | .codeAccepted => Sys2Proof.Machine.execCodeAccepted s
  | .invalidTimeout => Sys2Proof.Machine.execInvalidTimeout s
  | .demandLapse => Sys2Proof.Machine.execDemandLapse s
  | .expiryCount => Sys2Proof.Machine.execExpiryCount s
  | .entryExpired => Sys2Proof.Machine.execEntryExpired s
  | .limitsChanged recipient => Sys2Proof.Machine.execLimitsChanged recipient s
  | .replan => Sys2Proof.Machine.execReplan s
  | .plannerCount => Sys2Proof.Machine.execPlannerCount s
  | .startDwellComplete => Sys2Proof.Machine.execStartDwellComplete s
  | .shedDwellComplete => Sys2Proof.Machine.execShedDwellComplete s
  | .startOrderTaken k => Sys2Proof.Machine.execStartOrderTaken k s
  | .recall k => Sys2Proof.Machine.execRecall k s
  | .stopOrderTaken k => Sys2Proof.Machine.execStopOrderTaken k s
  | .pairHanded => Sys2Proof.Machine.execPairHanded s
  | .setpointUpdate k => Sys2Proof.Machine.execSetpointUpdate k s
  | .notchStep k => Sys2Proof.Machine.execNotchStep k s
  | .speedUpdate k => Sys2Proof.Machine.execSpeedUpdate k s
  | .prelubeTimeout k => Sys2Proof.Machine.execPrelubeTimeout k s
  | .crankTimeout k => Sys2Proof.Machine.execCrankTimeout k s
  | .restEnd k => Sys2Proof.Machine.execRestEnd k s
  | .runupTimeout k => Sys2Proof.Machine.execRunupTimeout k s
  | .cooldownEnd k => Sys2Proof.Machine.execCooldownEnd k s
  | .stopFail k => Sys2Proof.Machine.execStopFail k s
  | .crankGrantTaken k => Sys2Proof.Machine.execCrankGrantTaken k s
  | .gapEnd => Sys2Proof.Machine.execGapEnd s
  | .rerequestTimerEnd => Sys2Proof.Machine.execRerequestTimerEnd s
  | .phaseChange => Sys2Proof.Machine.execPhaseChange s
  | .batterySample tenths => Sys2Proof.Machine.execBatterySample tenths s
  | .batteryLowPosted => Sys2Proof.Machine.execBatteryLowPosted s
  | .batteryLowRetired => Sys2Proof.Machine.execBatteryLowRetired s
  | .sagReport k => Sys2Proof.Machine.execSagReport k s
  | .supplyDip => Sys2Proof.Machine.execSupplyDip s
  | .retentionLoss => Sys2Proof.Machine.execRetentionLoss s
  | .powerOn => Sys2Proof.Machine.execPowerOn s
  | .resetEnd => Sys2Proof.Machine.execResetEnd s
  | .coolantSample k celsius => Sys2Proof.Machine.execCoolantSample k celsius s
  | .hotPosted k => Sys2Proof.Machine.execHotPosted k s
  | .hotRetired k => Sys2Proof.Machine.execHotRetired k s
  | .overheat k => Sys2Proof.Machine.execOverheat k s
  | .warmupRetired k => Sys2Proof.Machine.execWarmupRetired k s
  | .dctCount => Sys2Proof.Machine.execDctCount s
  | .runSinceSaveFull k => Sys2Proof.Machine.execRunSinceSaveFull k s
  | .countedEvent k => Sys2Proof.Machine.execCountedEvent k s
  | .saveWriteBegin => Sys2Proof.Machine.execSaveWriteBegin s
  | .saveWriteEnd => Sys2Proof.Machine.execSaveWriteEnd s
  | .writeComplete => Sys2Proof.Machine.execWriteComplete s
  | .characterReceived ch framingError => Sys2Proof.Machine.execCharacterReceived ch framingError s
  | .pickupPulse k p => Sys2Proof.Machine.execPickupPulse k p s
  | .releaseLevelCrossed rising => Sys2Proof.Machine.execReleaseLevelCrossed rising s

end Sys2Proof.Machine
end

