-- ==== Sys2Proof/Machine/Tick.lean ====
section
/-! DEFINITION. What passes with 0.1 s when no command waits: the timers that have no row of their own in the opcode
table count (log entry 4). -/

namespace Sys2Proof.Machine

/-- 0.1 s on the timers of an engine record (R75, R78, R81, R84, R106, R107); a timer that has reached its time stays
there until its row is taken. -/
def EngineRec.tick (r : EngineRec) (t : Timing) : EngineRec :=
  { r with
    prelubeTimer := tickDwell r.prelubeTimer t.prelube
    crankTimer := tickDwell r.crankTimer t.crank
    restTimer := tickDwell r.restTimer t.rest
    runupTimer := tickDwell r.runupTimer t.runup
    cooldownTimer := tickDwell r.cooldownTimer t.cooldown
    stopTimer := tickDwell r.stopTimer t.stopLimit }

/-- 0.1 s on the arbiter's timers (R124, R128). -/
def Car.tick (c : Car) (a : ArbiterSettings) : Car :=
  { c with gapTimer := tickDwell c.gapTimer a.crankGap, rerequest := tickDwell c.rerequest a.rerequest }

/-- 0.1 s on the hold timer (R14). -/
def Dsl.tick (d : Dsl) : Dsl :=
  { d with hold := d.hold.map fun h => if h.1 < h.2 then (h.1 + 1, h.2) else h }

/-- 0.1 s on the release hold, in ms (R156). -/
def Bsm.tick (b : Bsm) : Bsm := { b with releaseHold := b.releaseHold.map fun n => min (n + 100) Config.releaseHoldMs }

/-- The block with no command waiting: 0.1 s passes. In reset only the release hold counts. -/
def State.idle (s : State) : State :=
  if s.resetting.isSome then s.setBsm s.bsm.tick
  else
    ((s.setEngines (.of fun k => if s.fitted k then (s.eng k).tick s.cfg.timing else s.eng k)).setCar
      (s.car.tick s.cfg.arbiter)).setDsl s.dsl.tick

end Sys2Proof.Machine
end

