-- ==== Sys2Proof/Safety.lean ====
section
/-! DEFINITION. What the statements speak of: the parts of the state a command may change, when a request is taken and
how it is answered, what a change of the limits hands on, how the crank supply follows a change of state, the records a
trip, a stop, a start and its end leave, what a speed update forms and reports, the codes of the reports, the choice of
engine, the validation of a section as 11.2 and R189 tabulate it, and the invariants of the crank supply, the table and the
link. -/

namespace Sys2Proof.Machine

/-! ## Frames -/

/-- The parts of the state, as the frames of the statements name them. -/
inductive Part where
  | lic | dsl | table | limits | plan
  | engine (k : Engine)
  | car
  | sense (k : Engine)
  | bsm
  | duty (k : Engine)
  | saves | link | answer | notices | cfs | resetting | handed | freeCount | pending
deriving DecidableEq, Repr

/-- A part is the same in two states. The link part is the receiver, the queues, the frame sent and whether a RESTART
stands. -/
def Part.same (p : Part) (s t : State) : Prop :=
  match p with
  | .lic => t.lic = s.lic
  | .dsl => t.dsl = s.dsl
  | .table => t.table = s.table
  | .limits => t.limits = s.limits
  | .plan => t.plan = s.plan
  | .engine k => t.eng k = s.eng k
  | .car => t.car = s.car
  | .sense k => t.sense k = s.sense k
  | .bsm => t.bsm = s.bsm
  | .duty k => t.dutyOf k = s.dutyOf k
  | .saves => t.dct.queue = s.dct.queue ∧ t.dct.writing = s.dct.writing ∧ t.dct.store = s.dct.store
  | .link =>
    t.cli.receiver = s.cli.receiver ∧ t.cli.completed = s.cli.completed ∧ t.cli.intake = s.cli.intake ∧
      t.cli.serving = s.cli.serving ∧ t.cli.responses = s.cli.responses ∧ t.cli.restarting = s.cli.restarting ∧
      t.cli.sent = s.cli.sent
  | .answer => t.cli.answer = s.cli.answer
  | .notices => t.cli.notices = s.cli.notices
  | .cfs => t.cfs = s.cfs
  | .resetting => t.resetting = s.resetting
  | .handed => t.handed = s.handed
  | .freeCount => t.freeCount = s.freeCount
  | .pending => t.pending = s.pending

/-- Every part but the ones named is unchanged from s to t. -/
def State.onlyChanges (s t : State) (parts : List Part) : Prop := ∀ p, p ∉ parts → p.same s t

/-- The parts a change of an engine's state may touch: its record, the arbiter, its WARMUP entry with the limits, the
changed flags and the events handed on. -/
def engineParts (k : Engine) : List Part := [.engine k, .car, .table, .limits, .notices, .handed]

/-- The parts of the answer to a request. -/
def answerParts : List Part := [.link, .answer]

/-! ## Requests -/

/-- The part is out of reset. -/
def State.awake (s : State) : Bool := s.resetting.isNone

/-- A request command is taken now: out of reset, no RESTART taken, and either it is the request the CLI has handed to its
owning block, or nothing is being served and it passes the common checks (R174, R179). -/
def State.takes (s : State) (c : Instr) : Bool :=
  s.awake && !s.cli.restarting &&
    match requestOf c with
    | some r => decide (s.cli.serving = some r) || (s.cli.serving.isNone && (s.commonCheck r).isNone)
    | none => false

/-- A request on an engine is taken for engine k, which is fitted. -/
def State.takesFor (s : State) (c : Instr) (engine : Byte) (k : Engine) : Bool :=
  s.takes c && decide (engineField engine = some k) && s.fitted k

/-- The state tells the requester a status and a reply for a command's request, under its code and tag; over the link
the same response stands at the tail of the response queue. -/
def State.answers (s t : State) (c : Instr) (status : Status) (payload : List Byte) : Prop :=
  ∃ r a, requestOf c = some r ∧ t.cli.answer = some a ∧ a.code = r.code ∧ a.tag = r.tag ∧ a.status = status ∧
    a.payload = payload ∧ (s.cli.serving = some r → t.cli.responses = s.cli.responses ++ [a])

/-- Some commands taken one after the other, each answering a next state. -/
def State.execAll (s : State) : List Instr → Option State
  | [] => some s
  | c :: cs =>
    match exec c s with
    | .next t => t.execAll cs
    | _ => none

/-! ## Timers -/

/-- A timer before and after one count of its time: stopped it stays stopped, below its length it advances by 1, at its
length it stays. -/
def timerCounts (before after : Option Nat) (length : Nat) : Prop :=
  (before = none → after = none) ∧
    ∀ n, before = some n → (n < length → after = some (n + 1)) ∧ (length ≤ n → after = some n)

/-! ## Limits handed on -/

/-- What a change of the limits from old to new hands on: nothing when none differs, else one limits-changed event to the
planner, one to the sequencer of every fitted engine, with whether its stop demand and its run demand newly hold, and one to
the arbiter (R39, R72, R100). -/
def State.limitsHanded (s : State) (old new : Limits) : List Event :=
  if new = old then []
  else
    .limits .ppl false false ::
      ((Engine.all.filter s.fitted).map fun k =>
        .limits (.esq k) (new.stop.get k && !old.stop.get k) (new.run.get k && !old.run.get k)) ++
    [.limits .car false false]

/-! ## The crank supply -/

/-- The arbiter wants the supply (R127). -/
def State.wantsSupply (s : State) : Prop :=
  s.car.queue ≠ [] ∨ s.car.holder.isSome = true ∨
    (s.cfg.arbiter.park = true ∧
      ∃ k, s.fitted k = true ∧ ((s.eng k).state = .prelube ∨ (s.eng k).state = .crankRest))

/-- From s to t the line has followed the wish, and the release of a holder where there was one (R126 to R128, R130). -/
def State.lineFollows (s t : State) (released : Bool) : Prop :=
  (s.cfg.arbiter.sharing = .exclusive → s.car.line ≠ .withdrawn →
    t.car.line = s.car.line ∧ t.car.rerequest = s.car.rerequest) ∧
    (s.cfg.arbiter.sharing = .shared →
      (s.car.line = .quiet → t.wantsSupply → t.car.line = .asking ∧ t.car.rerequest = s.car.rerequest) ∧
      (s.car.line = .asking ∨ s.car.line = .held → ¬ t.wantsSupply →
        t.car.line = .backoff ∧ t.car.rerequest = some 0) ∧
      (s.car.line = .withdrawn → released = true → t.car.line = .backoff ∧ t.car.rerequest = some 0) ∧
      ((s.car.line = .quiet ∧ ¬ t.wantsSupply) ∨ ((s.car.line = .asking ∨ s.car.line = .held) ∧ t.wantsSupply) ∨
          s.car.line = .backoff ∨ (s.car.line = .withdrawn ∧ released = false) →
        t.car.line = s.car.line ∧ t.car.rerequest = s.car.rerequest))

/-- From s to t neither queue, holder, phase nor crank gap has moved; the line follows the wish. -/
def State.supplyKept (s t : State) : Prop :=
  t.car.queue = s.car.queue ∧ t.car.holder = s.car.holder ∧ t.car.phase = s.car.phase ∧
    t.car.gapTimer = s.car.gapTimer ∧ s.lineFollows t false

/-- From s to t the holder's release has brought the phase to IDLE, with its grant decision (R121, R123, R124). -/
def State.supplyFreed (s t : State) : Prop :=
  .phase .idle none ∈ t.handed ∧ t.car.gapTimer = none ∧ s.lineFollows t true ∧
    ((∀ j ∈ s.car.queue, t.limits.inhibit.get j = true) ∨
        (s.cfg.arbiter.sharing = .shared ∧ t.car.line ≠ .held) →
      t.car.queue = s.car.queue ∧ t.car.holder = none ∧ t.car.phase = .idle) ∧
    (∀ j, s.car.queue.find? (fun x => !t.limits.inhibit.get x) = some j →
      s.cfg.arbiter.sharing = .exclusive ∨ t.car.line = .held →
      t.car.queue = s.car.queue.erase j ∧ t.car.holder = some j ∧ t.car.phase = .granted ∧
        .phase .granted (some j) ∈ t.handed ∧ .grant j ∈ t.handed)

/-- From s to t the arbiter has taken the exit of engine k from its state, other than by a grant: out of CRANK_WAIT it leaves
the queue, and the grant of a holder stays until it takes it; out of CRANKING the holder releases, with the crank gap, or
with none passes on to IDLE; out of any other state only the line may move (R77, R120, R123, R124). -/
def State.supplyLeft (s t : State) (k : Engine) : Prop :=
  ((s.eng k).state = .crankWait →
    t.car.queue = s.car.queue.erase k ∧ (s.car.queue.Nodup → k ∉ t.car.queue) ∧ t.car.holder = s.car.holder ∧
      t.car.phase = s.car.phase ∧ t.car.gapTimer = s.car.gapTimer ∧ s.lineFollows t false) ∧
    ((s.eng k).state = .cranking → s.car.holder = some k → .phase .recovery none ∈ t.handed ∧
      (0 < s.cfg.arbiter.crankGap →
        t.car.queue = s.car.queue ∧ t.car.holder = none ∧ t.car.phase = .recovery ∧ t.car.gapTimer = some 0 ∧
          s.lineFollows t true) ∧
      (s.cfg.arbiter.crankGap = 0 → s.supplyFreed t)) ∧
    ((s.eng k).state ≠ .crankWait → (s.eng k).state ≠ .cranking → s.supplyKept t)

/-- From s to t engine k has come into CRANK_WAIT: it stands at the tail of the queue, and the grant decision of its join
gives the grant to the oldest uninhibited engine when the phase is IDLE and the supply counts as held; the join of an engine
already queued or holder is discarded (R120, R121). -/
def State.supplyJoined (s t : State) (k : Engine) : Prop :=
  (k ∉ s.car.queue → s.car.holder ≠ some k → t.car.gapTimer = s.car.gapTimer ∧ s.lineFollows t false ∧
    (s.car.phase ≠ .idle ∨ (s.cfg.arbiter.sharing = .shared ∧ s.car.line ≠ .held) ∨
        (∀ j ∈ s.car.queue ++ [k], s.limits.inhibit.get j = true) →
      t.car.queue = s.car.queue ++ [k] ∧ t.car.holder = s.car.holder ∧ t.car.phase = s.car.phase) ∧
    (∀ j, s.car.phase = .idle → s.cfg.arbiter.sharing = .exclusive ∨ s.car.line = .held →
      (s.car.queue ++ [k]).find? (fun x => !s.limits.inhibit.get x) = some j →
      t.car.queue = (s.car.queue ++ [k]).erase j ∧ t.car.holder = some j ∧ t.car.phase = .granted ∧
        .phase .granted (some j) ∈ t.handed ∧ .grant j ∈ t.handed)) ∧
    (k ∈ s.car.queue ∨ s.car.holder = some k → s.car.phase ≠ .idle → s.supplyKept t)

/-- The line of the arbiter agrees with the wish: QUIET with the timer stopped in EXCLUSIVE; in SHARED it is QUIET only with
nothing wanted, ASKING or HELD only with the supply wanted, WITHDRAWN only with a holder, and the re-request timer runs
exactly in BACKOFF (R126 to R130). -/
def State.lineGood (s : State) : Prop :=
  (s.cfg.arbiter.sharing = .exclusive → s.car.line = .quiet ∧ s.car.rerequest = none) ∧
    (s.cfg.arbiter.sharing = .shared →
      (s.car.line = .quiet → ¬ s.wantsSupply) ∧ (s.car.line = .asking ∨ s.car.line = .held → s.wantsSupply) ∧
        (s.car.line = .withdrawn → s.car.holder.isSome = true) ∧
        (s.car.line = .backoff ↔ s.car.rerequest.isSome = true))

/-! ## Records -/

/-- v is where one setpoint update moves the setpoint of engine k: by ceil(rate × 50 / 1000) toward EN[n].rpm, never past
it (R95). -/
def State.rampsTo (s : State) (k : Engine) (v : Nat) : Prop :=
  ((s.eng k).setpoint < s.enRpm (s.eng k).notch →
    v = min ((s.eng k).setpoint + (s.cfg.timing.rateUp * 50 + 999) / 1000) (s.enRpm (s.eng k).notch)) ∧
    (s.enRpm (s.eng k).notch ≤ (s.eng k).setpoint →
      v = max ((s.eng k).setpoint - (s.cfg.timing.rateDown * 50 + 999) / 1000) (s.enRpm (s.eng k).notch))

/-- The record of engine k after a change of its notch to n, with a setpoint: not settled, and the high-load mark set at the
cooldown notch (R96, R99). -/
def State.notchMoved (s : State) (k : Engine) (n setpoint : Nat) : EngineRec :=
  { s.eng k with
    notch := n, setpoint := setpoint, settled := false, settledTime := none
    highLoad := (s.eng k).highLoad || decide (s.cfg.thresholds.cooldownNotch ≤ n) }

/-- The record of an engine after a trip (R111): attempts remaining, last attempt cause, hold point and the isolation
request flag are kept. -/
def EngineRec.afterTrip (r : EngineRec) (cause : TripCause) : EngineRec :=
  { r with
    state := .tripped, startReason := none, stopPending := false, stopReason := none, tripCause := some cause
    notch := 0, held := false, highLoad := false, settled := true, settledTime := none
    prelubeTimer := none, crankTimer := none, restTimer := none, runupTimer := none, cooldownTimer := none
    stopTimer := none }

/-- The record of an engine on entry into STOPPING (R107). -/
def EngineRec.afterStopping (r : EngineRec) : EngineRec :=
  { r with
    state := .stopping, startReason := none, stopPending := false, stopReason := none
    notch := 0, held := false, highLoad := false, settled := true, settledTime := none
    prelubeTimer := none, crankTimer := none, restTimer := none, runupTimer := none, cooldownTimer := none
    stopTimer := some 0 }

/-- The record of an engine on entry into ONLINE from RUNUP (R83, R94): attempts remaining and last attempt cause are
kept. -/
def EngineRec.afterOnline (r : EngineRec) (idle : Nat) : EngineRec :=
  { r with
    state := .online, startReason := none, stopPending := false, stopReason := none
    notch := 0, setpoint := idle, held := false, highLoad := false, settled := true, settledTime := some 0
    prelubeTimer := none, crankTimer := none, restTimer := none, runupTimer := none, cooldownTimer := none
    stopTimer := none }

/-- The record of an engine whose held has become yes: the timer of its step is stopped (R75, R88). -/
def EngineRec.afterHold (r : EngineRec) : EngineRec :=
  { r with
    held := true, prelubeTimer := none, crankTimer := none, restTimer := none, runupTimer := none
    cooldownTimer := none, stopTimer := none }

/-- From s to t an online test that holds takes engine k out of RUNUP into ONLINE, or holds it at BEFORE_ONLINE (R83,
R88). -/
def State.passesOnlineTest (s t : State) (k : Engine) : Prop :=
  ((s.eng k).holdPoint ≠ .beforeOnline →
    t.eng k = (s.eng k).afterOnline (s.enRpm 0) ∧ .counted k [.start] ∈ t.handed ∧ s.supplyKept t) ∧
    ((s.eng k).holdPoint = .beforeOnline → t.eng k = (s.eng k).afterHold ∧ t.car = s.car) ∧
    t.cli.notices.changed.get k = true

/-- From s to t a start order of a reason is admitted for engine k: PRELUBE with full attempts, and, with the lube switch
already made, the prelube step (R71, R75, R145). The crank supply is told where the line agrees with the wish before. -/
def State.startsTo (s t : State) (k : Engine) (reason : StartReason) : Prop :=
  (t.eng k).startReason = some reason ∧ (t.eng k).attempts = s.cfg.timing.attempts ∧ (t.eng k).lastAttempt = none ∧
    (t.sense k).warmed = false ∧ t.cli.notices.changed.get k = true ∧
    (s.lubeMade k = false → (t.eng k).state = .prelube ∧ (t.eng k).prelubeTimer = some 0 ∧ (t.eng k).held = false) ∧
    (s.lubeMade k = true → (s.eng k).holdPoint = .beforeCrank →
      (t.eng k).state = .prelube ∧ (t.eng k).held = true ∧ (t.eng k).prelubeTimer = none) ∧
    (s.lubeMade k = true → (s.eng k).holdPoint ≠ .beforeCrank →
      (t.eng k).state = .crankWait ∧ (s.lineGood → s.supplyJoined t k)) ∧
    (s.lubeMade k = false ∨ (s.eng k).holdPoint = .beforeCrank → s.lineGood → s.supplyKept t)

/-- From s to t engine k has come to rest: ISOLATED with the isolation condition holding, else STOPPED, from where a run
demand in force starts it at once when the start is admitted (R72, R107, R113, R117). -/
def State.restsTo (s t : State) (k : Engine) (admitted : Prop) : Prop :=
  .counted k [.rest] ∈ t.handed ∧ t.cli.notices.changed.get k = true ∧ (t.eng k).tripCause = none ∧
    t.stands .warmup k = false ∧
    (s.isoCond k = true → (t.eng k).state = .isolated ∧ s.supplyKept t) ∧
    (s.isoCond k = false → s.limits.run.get k = false ∨ ¬ admitted → (t.eng k).state = .stopped ∧ s.supplyKept t) ∧
    (s.isoCond k = false → s.limits.run.get k = true → admitted → s.startsTo t k .runDemand)

/-- From s to t a stop order ends the start of engine k: from CRANKING and RUNUP into STOPPING, from the other states of the
start path into STOPPED or, with the isolation condition holding, ISOLATED, and counted aborted (R91); the crank supply and
the limits follow. -/
def State.abortsTo (s t : State) (k : Engine) : Prop :=
  s.supplyLeft t k ∧ (∀ e ∈ s.limitsHanded s.limits t.limits, e ∈ t.handed) ∧
  ((s.eng k).state = .cranking ∨ (s.eng k).state = .runup →
    t.eng k = (s.eng k).afterStopping ∧ .counted k [.aborted] ∈ t.handed ∧ t.cli.notices.changed.get k = true ∧
      t.stands .warmup k = false) ∧
    ((s.eng k).state = .prelube ∨ (s.eng k).state = .crankWait ∨ (s.eng k).state = .crankRest →
      (t.eng k).state = (if s.isoCond k then .isolated else .stopped) ∧ (t.eng k).startReason = none ∧
        (t.eng k).held = false ∧ (t.eng k).stopPending = false ∧ (t.eng k).attempts = (s.eng k).attempts ∧
        (t.eng k).lastAttempt = (s.eng k).lastAttempt ∧ (t.eng k).prelubeTimer = none ∧ (t.eng k).restTimer = none ∧
        t.cli.notices.changed.get k = true ∧ t.stands .warmup k = false ∧ .counted k [.aborted, .rest] ∈ t.handed)

/-- From s to t a stop order ends the start of engine k out of PRELUBE, CRANK_WAIT or CRANK_REST, and the run demand in force
starts it again at its entry into STOPPED: m is the state in which it has come to rest there (R72, R91, R92). Other parts may
change with the start. -/
def State.abortsAndStarts (s t : State) (k : Engine) (more : List Part) : Prop :=
  .counted k [.aborted, .rest] ∈ t.handed ∧ (∀ e ∈ s.limitsHanded s.limits t.limits, e ∈ t.handed) ∧
    ∃ m : State, s.abortsTo m k ∧ s.onlyChanges m (engineParts k) ∧ (s.lineGood → m.lineGood) ∧
      m.startsTo t k .runDemand ∧ m.onlyChanges t (.sense k :: engineParts k ++ more)

/-- From u to t a run demand in force is offered to engine k: it starts a fitted engine in STOPPED that admission lets start,
and else changes nothing (R72). -/
def State.offersRunDemand (u t : State) (k : Engine) : Prop :=
  (u.fitted k = true → (u.eng k).state = .stopped → u.limits.run.get k = true → u.admits k = true →
    u.startsTo t k .runDemand ∧ u.onlyChanges t (.sense k :: engineParts k)) ∧
    (u.fitted k = false ∨ (u.eng k).state ≠ .stopped ∨ u.limits.run.get k = false ∨ u.admits k = false → t = u)

/-- From s to t engine k trips for a cause, with the counted events handed as one: record, flag, hand-offs, the WARMUP
entry retired, the crank queue or the grant left, and no other engine's record touched; other parts may change too. -/
def State.tripsWith (s t : State) (k : Engine) (before : EngineRec) (cause : TripCause) (counted : List CountedEvent)
    (more : List Part) : Prop :=
  t.eng k = before.afterTrip cause ∧ t.cli.notices.changed.get k = true ∧ .counted k counted ∈ t.handed ∧
    t.stands .warmup k = false ∧ s.supplyLeft t k ∧ (∀ e ∈ s.limitsHanded s.limits t.limits, e ∈ t.handed) ∧
    s.onlyChanges t (more ++ engineParts k)

/-- From s to t engine k trips for a cause, and nothing else happens. -/
def State.tripsTo (s t : State) (k : Engine) (before : EngineRec) (cause : TripCause) (counted : List CountedEvent) :
    Prop := s.tripsWith t k before cause counted []

/-- From s to t engine k enters STOPPING. -/
def State.stopsTo (s t : State) (k : Engine) : Prop :=
  t.eng k = (s.eng k).afterStopping ∧ t.cli.notices.changed.get k = true ∧ t.stands .warmup k = false ∧
    s.supplyLeft t k ∧ (∀ e ∈ s.limitsHanded s.limits t.limits, e ∈ t.handed) ∧ s.onlyChanges t (engineParts k)

/-- From u to t the isolation condition, just come to hold on engine k and noted in u, is acted upon by the engine's state
(R116); parts beside those of the engine may change too. -/
def State.isolatesTo (u t : State) (k : Engine) (more : List Part) : Prop :=
  ((u.eng k).state = .stopped →
    t.eng k = { u.eng k with state := .isolated } ∧ t.cli.notices.changed.get k = true ∧
      .counted k [.rest] ∈ t.handed ∧ t.stands .warmup k = false ∧ u.supplyKept t ∧
      u.onlyChanges t (engineParts k ++ more)) ∧
    ((u.eng k).state.startPath = true → u.abortsTo t k ∧ u.onlyChanges t (engineParts k ++ more)) ∧
    ((u.eng k).state = .online → (u.eng k).stopPending = false →
      t.eng k = { u.eng k with stopPending := true, stopReason := some .isolation } ∧ t.loadLimit k = 0 ∧
        .replan (.engine true) ∈ t.handed ∧ u.onlyChanges t (.engine k :: .handed :: more)) ∧
    (((u.eng k).state = .online ∧ (u.eng k).stopPending = true) ∨ (u.eng k).state = .cooldown →
      ((u.eng k).stopReason = some .shed →
        t.eng k = { u.eng k with stopReason := some .isolation } ∧ u.onlyChanges t (.engine k :: more)) ∧
      ((u.eng k).stopReason ≠ some .shed → u.onlyChanges t more)) ∧
    ((u.eng k).state = .stopping ∨ (u.eng k).state = .tripped ∨ (u.eng k).state = .isolated → u.onlyChanges t more)

/-- From u to t the isolation condition, just cleared on engine k and noted in u, is acted upon: an ISOLATED engine comes to
rest in STOPPED, and a STOPPED one is offered a run demand in force (R72, R117). -/
def State.returnsTo (u t : State) (k : Engine) (more : List Part) : Prop :=
  ((u.eng k).state = .isolated →
    u.restsTo t k (u.admits k = true) ∧ u.onlyChanges t (.sense k :: engineParts k ++ more)) ∧
    ((u.eng k).state = .stopped → u.limits.run.get k = true → u.admits k = true →
      u.startsTo t k .runDemand ∧ u.onlyChanges t (.sense k :: engineParts k ++ more)) ∧
    ((u.eng k).state ≠ .isolated →
      (u.eng k).state ≠ .stopped ∨ u.limits.run.get k = false ∨ u.admits k = false → u.onlyChanges t more)

/-! ## Speed updates -/

/-- The other pickup. -/
def otherPickup : Pickup → Pickup
  | .a => .b
  | .b => .a

/-- The reading that the next speed update of engine k forms of a pickup: from the pulses of the interval it closes and the
three before it, or at the first update from every pulse counted (R135). -/
def State.formed (s : State) (k : Engine) (p : Pickup) : Reading :=
  let x := if p = .a then (s.sense k).a else (s.sense k).b
  readingOf (if (s.sense k).a.reading = .notMeasured then x.current else x.w2 + x.w3 + x.w4 + x.current)
    s.cfg.roster.teeth

/-- The next speed update of engine k fails over: the selected pickup SILENT, the other GOOD at 100 rpm or more (R138). -/
def State.failoverDue (s : State) (k : Engine) : Bool :=
  decide (s.formed k (s.sense k).selection = .silent) &&
    match s.formed k (otherPickup (s.sense k).selection) with
    | .good v _ => decide (100 ≤ v)
    | _ => false

/-- The reading whose speed the next speed update of engine k reports: of the pickup selected after any failover (R136). -/
def State.reported (s : State) (k : Engine) : Reading :=
  if s.failoverDue k then s.formed k (otherPickup (s.sense k).selection) else s.formed k (s.sense k).selection

/-- Both readings that the next speed update of engine k forms are SILENT (R136). -/
def State.bothFormedSilent (s : State) (k : Engine) : Prop := s.formed k .a = .silent ∧ s.formed k .b = .silent

/-- The selected speed that the next speed update of engine k reports, 0 for a SILENT pickup (R136). -/
def State.reportedSpeed (s : State) (k : Engine) : Nat :=
  match s.reported k with
  | .good v _ => v
  | _ => 0

/-- The next speed update of engine k finds it at rest: below the stopped threshold, or both pickups SILENT (R71, R107). -/
def State.foundAtRest (s : State) (k : Engine) : Prop :=
  s.reportedSpeed k < s.cfg.thresholds.stopped ∨ s.bothFormedSilent k

/-- The conditions of admission but for the speed (R71). -/
def State.startAllowed (s : State) (k : Engine) : Prop :=
  s.valid = true ∧ s.writing = false ∧ s.runLine = true ∧ s.emergency = false ∧ s.limits.inhibit.get k = false ∧
    s.limits.stop.get k = false ∧ s.level (.iso k) = false ∧ (s.eng k).isoRequest = false

/-- The parts that the next speed update of engine k may change whatever the sequencer makes of its report: at a failover the
table, and at the first update the free values drawn (log entry 5). -/
def State.updateParts (s : State) (k : Engine) : List Part :=
  .sense k :: (if (s.sense k).a.reading = .notMeasured then [.freeCount] else []) ++
    (if s.failoverDue k then [.table, .limits, .handed] else [])

/-! ## Codes -/

/-- The code of an item of named values, from a first code in the order they are listed (R183). -/
def codeIn {α : Type} [DecidableEq α] (first : Nat) (values : List α) (x : α) : Byte :=
  byte (first + values.findIdx (fun y => decide (y = x)))

/-- The six counters of a duty record advanced by one state change's events: the cases of R161. -/
def DutyRecord.expects (d d' : DutyRecord) (events : List CountedEvent) : Prop :=
  (events = [.start] → d' = { d with starts := min (d.starts + 1) 4294967295, consecutive := 0 }) ∧
    (events = [.failed] → d' = { d with failed := min (d.failed + 1) 4294967295 }) ∧
    (events = [.aborted] ∨ events = [.aborted, .rest] → d' = { d with aborted := min (d.aborted + 1) 4294967295 }) ∧
    (events = [.rest] → d' = d) ∧
    (events = [.failed, .trip .noStart] → d' = { d with
      failed := min (d.failed + 1) 4294967295, trips := min (d.trips + 1) 4294967295
      consecutive := min (d.consecutive + 1) 4294967295 }) ∧
    (∀ c, events = [.trip c] → d' = { d with
      trips := min (d.trips + 1) 4294967295
      consecutive := if c = .noPrelube ∨ c = .noStart ∨ c = .runupFail then min (d.consecutive + 1) 4294967295
        else d.consecutive })

/-! ## Choice of engine -/

/-- k has the lowest run seconds of some engines, ties to the lowest number (R52, R53). -/
def State.lowestRunOf (s : State) (ks : List Engine) (k : Engine) : Prop :=
  k ∈ ks ∧ ∀ j ∈ ks,
    s.runSeconds k < s.runSeconds j ∨ (s.runSeconds k = s.runSeconds j ∧ k.number ≤ j.number)

/-- k is the shed candidate chosen afresh: the highest run seconds among the engines of O without run_k, ties to the highest
number (R56). -/
def State.shedsFirst (s : State) (k : Engine) : Prop :=
  (s.plan.online.get k = true ∧ s.limits.run.get k = false) ∧
    ∀ j, s.plan.online.get j = true → s.limits.run.get j = false →
      s.runSeconds j < s.runSeconds k ∨ (s.runSeconds j = s.runSeconds k ∧ j.number ≤ k.number)

/-- The number of engines in O, as the plan holds it (R46). -/
def State.onlineCount (s : State) : Nat := (Engine.all.filter s.plan.online.get).length

/-- Engine k is a staging start in progress (R47). -/
def State.stagingStart (s : State) (k : Engine) : Bool :=
  s.fitted k && (s.eng k).state.startPath && decide ((s.eng k).startReason = some .staging)

/-! ## Validation of a section (11.2, R189) -/

/-- The items of a section in index order: bytes sent, lowest and highest value (11.2; min_online up to F is cross-check
5). -/
def itemTable : SectionId → List (Nat × Int × Int)
  | .roster => [(1, 2, 4), (1, 60, 200)]
  | .engineTable => List.replicate 9 (2, 500, 2200) ++ List.replicate 9 (2, 0, 2000)
  | .locoTable => List.replicate 9 (2, 0, 8000)
  | .timing => [(1, 1, 5), (2, 50, 1200), (2, 50, 300), (2, 100, 1200), (2, 50, 600), (2, 10, 500), (2, 10, 500),
      (2, 10, 300), (2, 0, 300), (2, 0, 6000), (2, 100, 1200)]
  | .thresholds => [(2, 100, 400), (1, 20, 200), (1, 20, 100), (2, 500, 3000), (1, 1, 8), (1, -20, 90), (1, 60, 120),
      (1, 70, 130), (1, 0, 8), (1, 0, 8), (1, 0, 8), (1, 1, 9), (2, 400, 800), (1, 5, 50), (2, 200, 600), (1, 1, 7)]
  | .staging => [(1, 50, 100), (1, 20, 90), (2, 0, 600), (2, 100, 6000), (1, 0, 4)]
  | .arbiter => [(1, 0, 1), (1, 0, 1), (2, 0, 600), (2, 10, 100)]
  | .inputs => [(1, 2, 8), (1, 2, 8), (2, 50, 500), (2, 5, 100), (1, 1, 30), (1, 0, 1)]
  | .origins => List.replicate 16 (1, 0, 3)

/-- The value some items carry at place n from 0: the warm threshold is signed (11.2). -/
def itemValue (id : SectionId) (items : List Nat) (n : Nat) : Int :=
  if id = .thresholds ∧ n = 5 ∧ 128 ≤ items.getD n 0 then (items.getD n 0 : Int) - 256 else items.getD n 0

/-- The range checks on some items, in index order, each with the index it reports (R189). -/
def rangeTable (id : SectionId) (items : List Nat) : List (Bool × Nat) :=
  (List.range (itemTable id).length).map fun n =>
    (decide (((itemTable id).getD n (0, 0, 0)).2.1 ≤ itemValue id items n) &&
      decide (itemValue id items n ≤ ((itemTable id).getD n (0, 0, 0)).2.2) &&
      decide (id = .inputs → n = 2 → items.getD n 0 % 10 = 0), n + 1)

/-- The cross-checks on an image that holds the section offered, in the order of R189's table, each with the index it
reports when that section is written. -/
def crossTable (id : SectionId) (im : Image) : List (Bool × Nat) :=
  let rpm (n : Nat) : Nat := row im.engineTable.rpm n
  let kw (n : Nat) : Nat := row im.engineTable.kw n
  let lp (n : Nat) : Nat := row im.locoTable.lp n
  let th := im.thresholds
  match id with
  | .roster => [(decide (im.staging.minOnline ≤ im.roster.fitted), 1)]
  | .engineTable =>
    (List.range' 1 8).map (fun n => (decide (rpm (n - 1) < rpm n), n + 1)) ++ (decide (kw 0 = 0), 10) ::
      (List.range' 1 8).map (fun n => (decide (kw (n - 1) ≤ kw n), 10 + n)) ++
      [(decide (1 ≤ kw 8), 18), (decide (th.fireSpeed + th.idleBand < rpm 0), 1), (decide (rpm 8 < th.overspeed), 9)]
  | .locoTable => (decide (lp 0 = 0), 1) :: (List.range' 1 8).map fun n => (decide (lp (n - 1) ≤ lp n), n + 1)
  | .thresholds =>
    [(decide (th.fireSpeed + th.idleBand < rpm 0), 1), (decide (th.stopped < th.fireSpeed), 3),
      (decide (rpm 8 < th.overspeed), 4), (decide (th.hot < th.overheat), 8)]
  | .staging =>
    [(decide (im.staging.shedPct < im.staging.startPct), 2), (decide (im.staging.minOnline ≤ im.roster.fitted), 5)]
  | .origins => [(decide (.supervisor ∈ im.origins.roles), 0)]
  | .timing | .arbiter | .inputs => []

/-! ## Invariants -/

/-- The phase, the holder and the engines in CRANKING agree (R119). -/
def State.crankSafe (s : State) : Prop :=
  (∀ k, (s.eng k).state = .cranking → s.car.holder = some k) ∧ (s.car.holder.isSome ↔ s.car.phase = .granted)

/-- The crank queue holds each of its engines once: exactly the fitted engines in CRANK_WAIT other than the holder
(R120). -/
def State.queueGood (s : State) : Prop :=
  s.car.queue.Nodup ∧
    ∀ k, k ∈ s.car.queue ↔ s.fitted k = true ∧ (s.eng k).state = .crankWait ∧ s.car.holder ≠ some k

/-- While a configuration write is in flight every fitted engine is STOPPED, ISOLATED or TRIPPED (R132, R191). -/
def State.writeResting (s : State) : Prop :=
  s.writing = true → ∀ k, s.fitted k = true → (s.eng k).state.resting = true

/-- The kind of an internal condition's entry (R19). -/
def Condition.kind : Condition → Kind
  | .warmup | .hot | .pickup => .notchCeiling
  | .lockout | .batteryLow => .startInhibit

/-- A slot of the table: LIVE slots have a generation from 1 up; slots 0 to 16 hold the entries of the conditions they are
bound to and slots 17 to 48 external ones (R16, R17, R19, 2.1). -/
def slotGood (n : Nat) (x : Slot) : Prop :=
  match x.entry with
  | none => True
  | some e =>
    x.gen ≠ 0 ∧
      match e.owner with
      | .internal c => (∃ k, n = internalSlot c k) ∧ e.kind = c.kind
      | .external _ => Config.externalFirst ≤ n

/-- The table has its 49 slots, each good, and the resolved limits are those of its LIVE entries (R16, R39). -/
def State.tableGood (s : State) : Prop :=
  s.table.length = Config.slots ∧ (∀ n, slotGood n (slotAt s.table n)) ∧ s.limits = resolve s.table

/-- Every expiry remaining in the table is 1 to 3600: an entry is never read with 0 (R28). -/
def State.expiriesGood (s : State) : Prop := ∀ e m, e ∈ liveEntries s.table → e.expiry = some m → 1 ≤ m ∧ m ≤ 3600

/-- The link's queues: intake and waiting BUSY responses within four places each, one response waiting for each served
request, and the request being served is the oldest unserved one of the intake (R174 to R176). -/
def State.linkGood (s : State) : Prop :=
  s.cli.intake.length ≤ Config.intakePlaces ∧ busyWaiting s.cli.responses ≤ Config.intakePlaces ∧
    (s.cli.responses.filter fun r => r.placed).length = (s.cli.intake.filter fun x => x.served).length ∧
    (∀ r, s.cli.serving = some r → unserved s.cli.intake = some r)

end Sys2Proof.Machine
end

