-- ==== Sys2Proof/WellFormed.lean ====
section
/-! DEFINITION. When a command is well formed: a request whose frame would pass check 1 of R179, an event whose
operands the manual's tables allow. The meanings answer the other commands too, as the rules say (BAD_REQUEST, or
nothing to take). -/

namespace Sys2Proof

open Machine

/-- The blocks that take the changes of an input as events (R5). The DSL forms its code at the sample itself (R8), so
the throttle lines have no reader here. -/
def reads : Input → Block → Bool
  | .run, .ppl => true
  | .run, .esq _ => true
  | .emergency, .ppl => true
  | .emergency, .esq _ => true
  | .iso k, .esq j => k = j
  | .lube k, .esq j => k = j
  | .gnt, .car => true
  | _, _ => false

/-- Check 1 of R179 on a request: a code of the catalogue, the length it requires, an origin of 0 to 15. -/
def requestWellFormed (r : Request) : Bool :=
  match catalogueRow r.code with
  | none => false
  | some row => lengthFits row r.payload && decide (r.origin.toNat ≤ 15)

/-- Well-formed commands. -/
def wellFormed (c : Instr) : Bool :=
  match requestOf c with
  | some r => requestWellFormed r
  | none =>
    match c with
    | .levelChange input reader => reads input reader
    | _ => true

end Sys2Proof
end

