-- ==== Sys2Proof/Certificates/Slice0/Obligations.lean ====
section
/-! DEFINITION. The statements for the provers. Every statement about a next state names the commands it is about, says
that exec answers that next state, and gives the frame: the parts of the state that may change (Part, onlyChanges). A
request command is taken (State.takes) in either of the two ways that are the model's choice: log entry 2. -/

open Sys2Proof Sys2Proof.Machine

/-! ## The machine -/

/-- The command at the front of the queue is taken, with the rest left waiting. -/
def Obligations.StepTakesFrontCommand : Prop :=
  ∀ (c : Instr) (rest : List Instr) (s : State), s.pending = c :: rest → step s = exec c (s.setPending rest)

/-- With no command waiting 0.1 s passes (the model's choice, log entry 4): out of reset the timers of the fitted engines,
of the arbiter and of the link demand each advance by 1 up to their lengths, a stopped timer and one at its length stay, and
nothing else changes. -/
def Obligations.EmptyQueueCountsTenthOfSecond : Prop :=
  ∀ s : State, s.pending = [] → s.awake = true → ∃ t, step s = .next t ∧
    (∀ k, s.fitted k = true →
      timerCounts (s.eng k).prelubeTimer (t.eng k).prelubeTimer s.cfg.timing.prelube ∧
      timerCounts (s.eng k).crankTimer (t.eng k).crankTimer s.cfg.timing.crank ∧
      timerCounts (s.eng k).restTimer (t.eng k).restTimer s.cfg.timing.rest ∧
      timerCounts (s.eng k).runupTimer (t.eng k).runupTimer s.cfg.timing.runup ∧
      timerCounts (s.eng k).cooldownTimer (t.eng k).cooldownTimer s.cfg.timing.cooldown ∧
      timerCounts (s.eng k).stopTimer (t.eng k).stopTimer s.cfg.timing.stopLimit ∧
      t.eng k = { s.eng k with
        prelubeTimer := (t.eng k).prelubeTimer, crankTimer := (t.eng k).crankTimer
        restTimer := (t.eng k).restTimer, runupTimer := (t.eng k).runupTimer
        cooldownTimer := (t.eng k).cooldownTimer, stopTimer := (t.eng k).stopTimer }) ∧
    (∀ k, s.fitted k = false → t.eng k = s.eng k) ∧
    timerCounts s.car.gapTimer t.car.gapTimer s.cfg.arbiter.crankGap ∧
    timerCounts s.car.rerequest t.car.rerequest s.cfg.arbiter.rerequest ∧
    t.car = { s.car with gapTimer := t.car.gapTimer, rerequest := t.car.rerequest } ∧
    (∀ n len, s.dsl.hold = some (n, len) → t.dsl.hold = some (if n < len then n + 1 else n, len)) ∧
    (s.dsl.hold = none → t.dsl.hold = none) ∧ t.dsl = { s.dsl with hold := t.dsl.hold } ∧
    s.onlyChanges t [.engine .e1, .engine .e2, .engine .e3, .engine .e4, .car, .dsl]

/-- Only the commands of a block change what the block keeps: the filters, the demand state, the battery monitor, the
plan.

Only the commands named change the counters and their store, or the configuration store.

No command changes the queue of waiting commands: exec acts on everything but it. -/
def Obligations.OnlyOwnCommandsChangeBlocks : Prop :=
  (∀ (c : Instr) (s t : State), exec c s = .next t →
     (match c with
       | .inputSample _ | .writeComplete | .resetEnd => True
       | _ => t.lic = s.lic) ∧
     (match c with
       | .inputSample _ | .codeAccepted | .invalidTimeout | .demandLapse | .setDemand _ _ | .selectSource _ _
       | .resetEnd => True
       | _ => t.dsl = s.dsl) ∧
     (match c with
       | .phaseChange | .batterySample _ | .writeComplete | .supplyDip | .powerOn | .releaseLevelCrossed _
       | .resetEnd => True
       | _ => t.bsm = s.bsm) ∧
     (match c with
       | .replan | .plannerCount | .startDwellComplete | .shedDwellComplete | .writeComplete | .resetEnd => True
       | _ => t.plan = s.plan)) ∧
  (∀ (c : Instr) (s t : State), exec c s = .next t →
     (match c with
       | .readCounters _ _ _ | .clearLockout _ _ | .dctCount | .runSinceSaveFull _ | .countedEvent _ | .saveWriteBegin
       | .saveWriteEnd | .writeComplete | .retentionLoss | .powerOn | .resetEnd => True
       | _ => t.dct = s.dct) ∧
     (match c with
       | .writeConfig _ _ _ | .restart _ | .responseSent | .writeComplete | .supplyDip | .retentionLoss | .powerOn
       | .resetEnd => True
       | _ => t.cfs = s.cfs)) ∧
  (∀ (c : Instr) (s t : State), exec c s = .next t → t.pending = s.pending)

/-! ## Reset and the logic supply (chapters 8 and 11) -/

/-- A factory part brought up from power-off reaches the reset state of the model. -/
def Obligations.FactoryPowerOnReachesReset : Prop :=
  ∀ s : State, s.resetting = some .powerOn → (∃ n, s.bsm.releaseHold = some n ∧ 50 ≤ n) →
    s.cfs.nv = ⟨.defaults, .same true, true⟩ → s.dct.store = .same .unwritten → s.freeCount = 0 → s.pending = [] →
    exec .resetEnd s = .next State.reset

/-- RESET_END: every block begins at its after-reset values, under the configuration loaded: of a good image each section
VALID, and the defaults of the others. The fields of the records
that the manual gives no value for (setpoint held, pair, isolation condition last acted on, frame sent, answer) stand at the
model's choices of log entry 6, and that a RESTART's reset ends with no release hold is log entry 12.

RESET_END: the counters are loaded at POWER_ON, and for an engine that the load newly fits (log entry 14), and kept at the
other resets, the histogram and run since save begin at
0, a LOCKOUT stands for exactly the fitted engines whose consecutive failures call for it, and a save of every fitted
engine is requested. -/
def Obligations.ResetEndStartsEveryBlock : Prop :=
  (∀ (s : State) (kind : ResetKind), s.resetting = some kind →
     (kind = .restart ∨ ∃ n, s.bsm.releaseHold = some n ∧ 50 ≤ n) →
     ∃ t, exec .resetEnd s = .next t ∧ t.resetting = none ∧ t.cfs.cause = some kind ∧ t.cfs.write = none ∧
       (s.cfs.nv.good = false → t.cfs.marks = .same false ∧ t.cfs.working = .defaults) ∧
       (s.cfs.nv.good = true → s.cfs.nv.marks = .same true → t.valid = true ∧ t.cfs.working = s.cfs.nv.image) ∧
       (∀ m im, s.cfs.nv.good = true → m = s.cfs.nv.marks → im = s.cfs.nv.image → t.cfs.marks = m ∧ t.cfs.working =
         ⟨if m.roster then im.roster else {}, if m.engineTable then im.engineTable else {},
           if m.locoTable then im.locoTable else {}, if m.timing then im.timing else {},
           if m.thresholds then im.thresholds else {}, if m.staging then im.staging else {},
           if m.arbiter then im.arbiter else {}, if m.inputs then im.inputs else {},
           if m.origins then im.origins else {}⟩) ∧
       t.lic = licReset ∧ t.dsl = .reset t.cfg.inputs.defaultSource ∧ t.plan = .reset ∧ t.car = .reset ∧ t.bsm = .reset ∧
       t.cli = .reset ∧
       (∀ k, t.eng k = if t.fitted k then .reset else .fresh) ∧ (∀ k, t.sense k = .reset) ∧
       (∀ n, (∀ k, n ≠ internalSlot .lockout k) → slotAt t.table n = .blank) ∧ t.pending = s.pending) ∧
  (∀ (s : State) (kind : ResetKind), s.resetting = some kind →
     (kind = .restart ∨ ∃ n, s.bsm.releaseHold = some n ∧ 50 ≤ n) →
     ∃ t, exec .resetEnd s = .next t ∧ t.dct.queue = t.fittedEngines ∧ t.dct.writing = none ∧ t.dct.store = s.dct.store ∧
       ∀ k, t.fitted k = true →
         (t.dutyOf k).histogram = List.replicate 9 0 ∧ (t.dutyOf k).runSinceSave = 0 ∧
         (kind = .powerOn ∨ s.fitted k = false → ∀ d, s.dct.store.get k = .written k d true →
           (t.dutyOf k).stored = d ∧ (t.dutyOf k).restored = true) ∧
         (kind = .powerOn ∨ s.fitted k = false → (∀ d, s.dct.store.get k ≠ .written k d true) →
           (t.dutyOf k).stored = .zero ∧ (t.dutyOf k).restored = false) ∧
         (kind ≠ .powerOn → s.fitted k = true →
           (t.dutyOf k).stored = (s.dutyOf k).stored ∧ (t.dutyOf k).restored = (s.dutyOf k).restored) ∧
         (t.stands .lockout k = true ↔ t.cfg.thresholds.lockoutCount ≤ (t.dutyOf k).stored.consecutive))

/-- The reset state has a good table with good lifetimes, a safe crank supply with a good queue and a line that agrees with
the wish, no write over an engine that is not at rest, and good link queues. -/
def Obligations.ResetStateGood : Prop :=
  State.reset.tableGood ∧ State.reset.expiriesGood ∧ State.reset.crankSafe ∧ State.reset.queueGood ∧
    State.reset.lineGood ∧ State.reset.writeResting ∧ State.reset.linkGood

/-- SUPPLY_DIP in NORMAL raises the reset; RETENTION_LOSS in DIPPED turns the return into a POWER_ON; POWER_ON raises its
own; RELEASE_LEVEL_CROSSED in DIPPED starts the release hold or abandons it. That a reset drops every event handed and that
POWER_ON is taken in any state are log entry 12, the absent reset cause is log entry 24, and the DIPPED supply state of a
POWER_ON reset is log entry 33. -/
def Obligations.LogicSupplyRaisesResets : Prop :=
  ∀ s : State,
    (s.bsm.supply = .normal → ∃ t, exec .supplyDip s = .next t ∧ t.resetting = some .supplyDip ∧
      t.bsm = { s.bsm with supply := .dipped, releaseHold := none } ∧ t.handed = [] ∧ t.cfs.write = none ∧
      (s.cfs.write.isSome → t.cfs.nv.good = false) ∧ s.onlyChanges t [.bsm, .resetting, .handed, .cfs]) ∧
    (s.bsm.supply = .dipped → ∃ t, exec .retentionLoss s = .next t ∧ t.resetting = some .powerOn ∧
      t.cfs = { s.cfs with cause := none } ∧
      s.onlyChanges t [.resetting, .cfs, .duty .e1, .duty .e2, .duty .e3, .duty .e4]) ∧
    (∃ t, exec .powerOn s = .next t ∧ t.resetting = some .powerOn ∧
      t.bsm = { s.bsm with supply := .dipped, releaseHold := none } ∧ t.handed = [] ∧ t.cfs.cause = none ∧
      s.onlyChanges t [.bsm, .resetting, .handed, .cfs, .duty .e1, .duty .e2, .duty .e3, .duty .e4]) ∧
    (∀ rising, s.bsm.supply = .dipped → ∃ t, exec (.releaseLevelCrossed rising) s = .next t ∧
      t.bsm = { s.bsm with releaseHold := if rising then some 0 else none } ∧ s.onlyChanges t [.bsm])

/-- Held in reset, every output is off and every block stops: no command but those of the supply and the reset's end has
an effect. -/
def Obligations.ResetHoldsOutputsAndBlocks : Prop :=
  ∀ s : State, s.resetting.isSome →
    (∀ k, s.crankRelay k = false ∧ s.fuel k = false ∧ s.prelubePump k = false ∧ s.setpointOut k = 0 ∧ s.loadLimit k = 0) ∧
    s.apuReq = false ∧ s.attention = false ∧
    ∀ c : Instr,
      (match c with
        | .supplyDip | .retentionLoss | .powerOn | .releaseLevelCrossed _ | .resetEnd => True
        | _ => exec c s = .next s)

/-! ## Inputs and demand (chapter 1) -/

/-- INPUT_SAMPLE: the agreement filter of every sampled input, the initial load, and the level changes handed on; a change
of a throttle line is read at the sample itself and handed to nobody (the model's choice, log entry 15).

The counts of the classes: throttle lines and run line the throttle filter count, every switch the switch filter count,
emergency line and grant 2; and every input is sampled but the switches of an engine not fitted. -/
def Obligations.InputSampleFiltersAndHandsChanges : Prop :=
  (∀ (s : State) (raw : Lines Bool), s.awake = true → ∃ t, exec (.inputSample raw) s = .next t ∧
    (∀ i, s.sampled i = true → (s.lic.get i).fresh = false → raw.get i = (s.lic.get i).level →
      t.lic.get i = ⟨(s.lic.get i).level, 0, false⟩) ∧
    (∀ i, s.sampled i = true → (s.lic.get i).fresh = false → raw.get i ≠ (s.lic.get i).level →
      (s.lic.get i).count + 1 < s.filterCount i →
      t.lic.get i = ⟨(s.lic.get i).level, (s.lic.get i).count + 1, false⟩) ∧
    (∀ i, s.sampled i = true → (s.lic.get i).fresh = false → raw.get i ≠ (s.lic.get i).level →
      s.filterCount i ≤ (s.lic.get i).count + 1 → t.lic.get i = ⟨raw.get i, 0, false⟩) ∧
    (∀ i, s.sampled i = true → (s.lic.get i).fresh = true → t.lic.get i = ⟨raw.get i, 0, false⟩) ∧
    (∀ i, s.sampled i = false → t.lic.get i = s.lic.get i) ∧
    (∃ new, t.handed = s.handed ++ new ∧ ∀ e, e ∈ new ↔ ∃ i b, e = .level i b (t.lic.get i).level ∧
      (t.lic.get i).level ≠ (s.lic.get i).level ∧ reads i b = true ∧ ∀ k, b = .esq k → s.fitted k = true) ∧
    s.onlyChanges t [.lic, .dsl, .handed]) ∧
  (∀ (s : State) (i : Input),
    (i = .tl1 ∨ i = .tl2 ∨ i = .tl3 ∨ i = .tl4 ∨ i = .run →
      s.filterCount i = s.cfg.inputs.throttleFilter ∧ s.sampled i = true) ∧
    (i = .emergency ∨ i = .gnt → s.filterCount i = 2 ∧ s.sampled i = true) ∧
    (∀ k, i = .iso k ∨ i = .lube k → s.filterCount i = s.cfg.inputs.switchFilter ∧ s.sampled i = s.fitted k))

/-- INPUT_SAMPLE at the Demand Selector: a code that differs becomes the code under test, the same valid code settles, and
the invalid timer runs over invalid codes to its timeout. The decoded notch waits for CODE_ACCEPTED or INVALID_TIMEOUT
(the two-step form is the model's, log entry 4).

The nine valid throttle codes and the notches they name, TL4 first. -/
def Obligations.InputSampleSettlesThrottleCode : Prop :=
  (∀ (s : State) (raw : Lines Bool), s.awake = true → ∃ t, exec (.inputSample raw) s = .next t ∧
     t.dsl.code = some (codeOf t.lic) ∧ t.dsl.decoded = s.dsl.decoded ∧ t.dsl.fault = s.dsl.fault ∧
     t.dsl.source = s.dsl.source ∧ t.dsl.linkDemand = s.dsl.linkDemand ∧ t.dsl.hold = s.dsl.hold ∧
     t.dsl.lapsed = s.dsl.lapsed ∧
     (s.dsl.code ≠ some (codeOf t.lic) → t.dsl.settle = some 0 ∧ t.dsl.acceptDue = s.dsl.acceptDue) ∧
     (∀ n m, s.dsl.code = some (codeOf t.lic) → notchOf (codeOf t.lic) = some n → s.dsl.settle = some m →
       (m + 1 < s.cfg.inputs.settleMs / 10 → t.dsl = { s.dsl with settle := some (m + 1) }) ∧
       (s.cfg.inputs.settleMs / 10 ≤ m + 1 → t.dsl = { s.dsl with settle := none, acceptDue := some n })) ∧
     (∀ n, s.dsl.code = some (codeOf t.lic) → notchOf (codeOf t.lic) = some n → s.dsl.settle = none → t.dsl = s.dsl) ∧
     (∀ n, s.dsl.code ≠ some (codeOf t.lic) → notchOf (codeOf t.lic) = some n → t.dsl.invalidTimer = none) ∧
     (notchOf (codeOf t.lic) = none → (∀ c, s.dsl.code = some c → (notchOf c).isSome) → t.dsl.invalidTimer = some 0) ∧
     (∀ c m, notchOf (codeOf t.lic) = none → s.dsl.code = some c → notchOf c = none → s.dsl.invalidTimer = some m →
       (m + 1 < s.cfg.inputs.invalidTimeout * 10 → t.dsl.invalidTimer = some (m + 1)) ∧
       (s.cfg.inputs.invalidTimeout * 10 ≤ m + 1 → t.dsl.invalidTimer = none ∧ t.dsl.timeoutDue = true)) ∧
     (∀ c, notchOf (codeOf t.lic) = none → s.dsl.code = some c → notchOf c = none → s.dsl.invalidTimer = none →
       t.dsl.invalidTimer = none)) ∧
  (notchOf 0b0000#4 = some 0 ∧ notchOf 0b0001#4 = some 1 ∧ notchOf 0b0011#4 = some 2 ∧ notchOf 0b0010#4 = some 3 ∧
     notchOf 0b0110#4 = some 4 ∧ notchOf 0b0111#4 = some 5 ∧ notchOf 0b0101#4 = some 6 ∧ notchOf 0b0100#4 = some 7 ∧
     notchOf 0b1100#4 = some 8 ∧
     (∀ code ∈ [0b1000#4, 0b1001#4, 0b1010#4, 0b1011#4, 0b1101#4, 0b1110#4, 0b1111#4], notchOf code = none) ∧
     ∀ l : Lines Filter, (codeOf l).getLsbD 3 = l.tl4.level ∧ (codeOf l).getLsbD 2 = l.tl3.level ∧
       (codeOf l).getLsbD 1 = l.tl2.level ∧ (codeOf l).getLsbD 0 = l.tl1.level)

/-- CODE_ACCEPTED and INVALID_TIMEOUT: the decoded notch, TRAINLINE_FAULT and its change flag; a change of D is handed to
the planner, and nothing is handed when D stays.

DEMAND_LAPSE with the hold timer at the length it was started with. -/
def Obligations.DemandEventsMoveDemand : Prop :=
  (∀ s : State, s.awake = true →
     (∀ n, s.dsl.acceptDue = some n → ∃ t, exec .codeAccepted s = .next t ∧
       t.dsl = { s.dsl with acceptDue := none, decoded := n, fault := false } ∧
       t.handed = s.handed ++ (if t.dsl.demand = s.dsl.demand then [] else [.replan .demand]) ∧
       t.cli.notices = { s.cli.notices with trainlineFault := s.cli.notices.trainlineFault || s.dsl.fault } ∧
       s.onlyChanges t [.dsl, .handed, .notices]) ∧
     (s.dsl.timeoutDue = true → ∃ t, exec .invalidTimeout s = .next t ∧
       t.dsl = { s.dsl with timeoutDue := false, decoded := 0, fault := true } ∧
       t.handed = s.handed ++ (if t.dsl.demand = s.dsl.demand then [] else [.replan .demand]) ∧
       t.cli.notices = { s.cli.notices with trainlineFault := s.cli.notices.trainlineFault || !s.dsl.fault } ∧
       s.onlyChanges t [.dsl, .handed, .notices])) ∧
  (∀ (s : State) (n len : Nat), s.awake = true → s.dsl.hold = some (n, len) → len ≤ n →
     ∃ t, exec .demandLapse s = .next t ∧
       t.dsl = { s.dsl with linkDemand := 0, lapsed := true, hold := none } ∧
       t.cli.notices = { s.cli.notices with demandLapsed := true } ∧
       t.handed = s.handed ++ (if t.dsl.demand = s.dsl.demand then [] else [.replan .demand]) ∧
       s.onlyChanges t [.dsl, .handed, .notices])

/-- SET_DEMAND: WRONG_STATE with source TRAINLINE; with source LINK the demand, clamped to 8, the hold timer from 0 with
the hold time in force, and lapsed no; D follows, and only a change of D is handed on.

SELECT_SOURCE: the four rows of its table, and BAD_VALUE for any other source value. -/
def Obligations.LinkRequestsMoveDemand : Prop :=
  (∀ (s : State) (c : Caller) (notch : Byte), s.takes (.setDemand c notch) = true →
     (s.dsl.source = .trainline → ∃ t, exec (.setDemand c notch) s = .next t ∧
       s.answers t (.setDemand c notch) .wrongState [] ∧ s.onlyChanges t answerParts) ∧
     (s.dsl.source = .link → ∃ t, exec (.setDemand c notch) s = .next t ∧
       s.answers t (.setDemand c notch) (if 8 < notch.toNat then .clamped else .ok) [] ∧
       t.dsl = { s.dsl with
         linkDemand := min notch.toNat 8, hold := some (0, s.cfg.inputs.demandHold * 10), lapsed := false } ∧
       t.dsl.demand = min notch.toNat 8 ∧
       t.handed = s.handed ++ (if t.dsl.demand = s.dsl.demand then [] else [.replan .demand]) ∧
       s.onlyChanges t (.dsl :: .handed :: answerParts))) ∧
  (∀ (s : State) (c : Caller) (source : Byte), s.takes (.selectSource c source) = true →
     (sourceField source = none → ∃ t, exec (.selectSource c source) s = .next t ∧
       s.answers t (.selectSource c source) .badValue [] ∧ s.onlyChanges t answerParts) ∧
     (sourceField source = some s.dsl.source → ∃ t, exec (.selectSource c source) s = .next t ∧
       s.answers t (.selectSource c source) .ok [] ∧ s.onlyChanges t answerParts) ∧
     (∀ x, sourceField source = some x → x ≠ s.dsl.source → ∃ t, exec (.selectSource c source) s = .next t ∧
       s.answers t (.selectSource c source) .ok [] ∧
       t.dsl = { s.dsl with source := x, linkDemand := 0, hold := none, lapsed := false } ∧
       t.dsl.demand = (if x = .trainline then s.dsl.decoded else 0) ∧
       t.handed = s.handed ++ (if t.dsl.demand = s.dsl.demand then [] else [.replan .demand]) ∧
       s.onlyChanges t (.dsl :: .handed :: answerParts)))

/-- LEVEL_CHANGE, the run and emergency lines: the planner re-plans; a dropped run line is a stop order RUN_OFF: it makes a
stop pending in ONLINE, replaces SHED, and ends a start (which a run demand in force begins again
when the line, re-asserted since, lets it); an asserted emergency line trips a running engine; and at each change
of either a run demand in force starts a STOPPED engine that admission lets start.

LEVEL_CHANGE, the isolation switch: the isolation condition come to hold isolates a STOPPED engine and is a stop order
ISOLATION to the others; cleared, it returns an ISOLATED engine to STOPPED. The switch is read as it stands at the taking,
whatever level the event carries (the model's reading, log entry 29).

The external grant: seen in ASKING it makes the line HELD with a grant decision, and the grant drops old sag reports of its
engine (log entry 11); withdrawn in HELD it makes the line WITHDRAWN with a holder and BACKOFF without; other changes are
discarded.

LEVEL_CHANGE, the lube switch: made, it takes the prelube step in PRELUBE, stops the timer of an engine held there and is an
online test in RUNUP; opened, it starts the timer of an engine held in PRELUBE and trips LOW_LUBE in ONLINE and COOLDOWN;
elsewhere it has no effect. -/
def Obligations.LevelChangesTakenByReaders : Prop :=
  (∀ (s : State) (pre post : List Event) (v : Bool) (k : Engine), s.awake = true → s.fitted k = true →
     (∀ i, i = .run ∨ i = .emergency → s.handed = pre ++ .level i .ppl v :: post → (∀ w, .level i .ppl w ∉ pre) →
       ∃ t, exec (.levelChange i .ppl) s = .next t ∧ t.handed = pre ++ post ++ [.replan .line] ∧
         s.onlyChanges t [.handed]) ∧
     (s.handed = pre ++ .level .run (.esq k) false :: post → (∀ w, .level .run (.esq k) w ∉ pre) →
       (s.eng k).state = .online → (s.eng k).stopPending = false →
       ∃ t, exec (.levelChange .run (.esq k)) s = .next t ∧
         t.eng k = { s.eng k with stopPending := true, stopReason := some .runOff } ∧
         t.handed = pre ++ post ++ [.replan (.engine true)] ∧ s.onlyChanges t [.engine k, .handed]) ∧
     (s.handed = pre ++ .level .emergency (.esq k) true :: post → (∀ w, .level .emergency (.esq k) w ∉ pre) →
       (s.eng k).state.startPath = true ∨ (s.eng k).state = .online ∨ (s.eng k).state = .cooldown →
       ∃ t, exec (.levelChange .emergency (.esq k)) s = .next t ∧
         s.tripsTo t k (s.eng k) .emergency [.trip .emergency]) ∧
     (s.handed = pre ++ .level .run (.esq k) false :: post → (∀ w, .level .run (.esq k) w ∉ pre) →
       ((s.eng k).state = .online ∧ (s.eng k).stopPending = true) ∨ (s.eng k).state = .cooldown →
       (s.eng k).stopReason = some .shed →
       ∃ t, exec (.levelChange .run (.esq k)) s = .next t ∧ t.eng k = { s.eng k with stopReason := some .runOff } ∧
         t.handed = pre ++ post ∧ s.onlyChanges t [.engine k, .handed]) ∧
     (s.handed = pre ++ .level .run (.esq k) false :: post → (∀ w, .level .run (.esq k) w ∉ pre) → s.tableGood →
       ((s.eng k).state = .cranking ∨ (s.eng k).state = .runup → ∃ t, exec (.levelChange .run (.esq k)) s = .next t ∧
         s.abortsTo t k ∧ s.onlyChanges t (engineParts k)) ∧
       ((s.eng k).state = .prelube ∨ (s.eng k).state = .crankWait ∨ (s.eng k).state = .crankRest →
         (s.limits.run.get k = false ∨ s.admits k = false → ∃ t, exec (.levelChange .run (.esq k)) s = .next t ∧
           s.abortsTo t k ∧ s.onlyChanges t (engineParts k)) ∧
         (s.limits.run.get k = true → s.admits k = true → ∃ t, exec (.levelChange .run (.esq k)) s = .next t ∧
           s.abortsAndStarts t k [] ∧ s.onlyChanges t (.sense k :: engineParts k)))) ∧
     (s.handed = pre ++ .level .emergency (.esq k) true :: post → (∀ w, .level .emergency (.esq k) w ∉ pre) →
       (s.eng k).state = .stopping ∨ (s.eng k).state = .isolated ∨ (s.eng k).state = .tripped →
       ∃ t, exec (.levelChange .emergency (.esq k)) s = .next t ∧ t.handed = pre ++ post ∧ s.onlyChanges t [.handed]) ∧
     (s.handed = pre ++ .level .run (.esq k) false :: post → (∀ w, .level .run (.esq k) w ∉ pre) →
       (s.eng k).state = .stopping ∨ (s.eng k).state = .isolated ∨ (s.eng k).state = .tripped ∨
         ((((s.eng k).state = .online ∧ (s.eng k).stopPending = true) ∨ (s.eng k).state = .cooldown) ∧
           (s.eng k).stopReason ≠ some .shed) →
       ∃ t, exec (.levelChange .run (.esq k)) s = .next t ∧ t.handed = pre ++ post ∧ s.onlyChanges t [.handed]) ∧
     (∀ i, (i = .run ∧ v = true) ∨ (i = .emergency ∧ v = false) → s.handed = pre ++ .level i (.esq k) v :: post →
       (∀ w, .level i (.esq k) w ∉ pre) → (s.eng k).state ≠ .stopped →
       ∃ t, exec (.levelChange i (.esq k)) s = .next t ∧ t.handed = pre ++ post ∧ s.onlyChanges t [.handed]) ∧
     (∀ i, i = .run ∨ i = .emergency → s.handed = pre ++ .level i (.esq k) v :: post →
       (∀ w, .level i (.esq k) w ∉ pre) → (s.eng k).state = .stopped →
       (s.limits.run.get k = true → s.admits k = true → ∃ t, exec (.levelChange i (.esq k)) s = .next t ∧
         s.startsTo t k .runDemand ∧ s.onlyChanges t (.sense k :: engineParts k)) ∧
       (s.limits.run.get k = false ∨ s.admits k = false → ∃ t, exec (.levelChange i (.esq k)) s = .next t ∧
         t.handed = pre ++ post ∧ s.onlyChanges t [.handed]))) ∧
  (∀ (s : State) (pre post : List Event) (v : Bool) (k : Engine), s.awake = true →
     (s.fitted k = true → s.handed = pre ++ .level (.iso k) (.esq k) v :: post →
       (∀ w, .level (.iso k) (.esq k) w ∉ pre) → s.tableGood →
       ((s.level (.iso k) = true ∨ (s.eng k).isoRequest = true) → (s.eng k).isoSeen = false →
         ∀ u, u = (s.setEng k { s.eng k with isoSeen := true }).setHanded (pre ++ post) →
         ∃ t, exec (.levelChange (.iso k) (.esq k)) s = .next t ∧ (t.eng k).isoSeen = true ∧ u.isolatesTo t k []) ∧
       (s.level (.iso k) = false → (s.eng k).isoRequest = false → (s.eng k).isoSeen = true →
         ∀ u, u = (s.setEng k { s.eng k with isoSeen := false }).setHanded (pre ++ post) →
         ∃ t, exec (.levelChange (.iso k) (.esq k)) s = .next t ∧ (t.eng k).isoSeen = false ∧ u.returnsTo t k []) ∧
       ((s.eng k).isoSeen = s.isoCond k → ∃ t, exec (.levelChange (.iso k) (.esq k)) s = .next t ∧
         t.handed = pre ++ post ∧ s.onlyChanges t [.handed])) ∧
     (s.handed = pre ++ .level .gnt .car true :: post → (∀ w, .level .gnt .car w ∉ pre) →
       s.cfg.arbiter.sharing = .shared → s.car.line = .asking →
       ∃ t, exec (.levelChange .gnt .car) s = .next t ∧ t.car.line = .held ∧ s.onlyChanges t [.car, .handed] ∧
         (s.car.phase ≠ .idle ∨ (∀ j ∈ s.car.queue, s.limits.inhibit.get j = true) →
           t.car = { s.car with line := .held } ∧ t.handed = pre ++ post) ∧
         (s.car.phase = .idle → s.car.queue.find? (fun j => !s.limits.inhibit.get j) = some k →
           t.car = { s.car with
             line := .held, queue := s.car.queue.erase k, holder := some k, phase := .granted } ∧
           t.handed = (pre ++ post).filter (fun e => e ≠ .sag k) ++ [.phase .granted (some k), .grant k])) ∧
     (s.handed = pre ++ .level .gnt .car false :: post → (∀ w, .level .gnt .car w ∉ pre) →
       s.cfg.arbiter.sharing = .shared → s.car.line = .held →
       (s.car.holder.isSome → ∃ t, exec (.levelChange .gnt .car) s = .next t ∧
         t.car = { s.car with line := .withdrawn } ∧ t.apuReq = true ∧ t.handed = pre ++ post ∧
         s.onlyChanges t [.car, .handed]) ∧
       (s.car.holder = none → ∃ t, exec (.levelChange .gnt .car) s = .next t ∧
         t.car = { s.car with line := .backoff, rerequest := some 0 } ∧ t.apuReq = false ∧ t.handed = pre ++ post ∧
         s.onlyChanges t [.car, .handed])) ∧
     (s.handed = pre ++ .level .gnt .car v :: post → (∀ w, .level .gnt .car w ∉ pre) →
       (v = true ∧ s.car.line ≠ .asking) ∨ (v = false ∧ s.car.line ≠ .held) →
       ∃ t, exec (.levelChange .gnt .car) s = .next t ∧ t.handed = pre ++ post ∧ s.onlyChanges t [.handed]) ∧
     (s.handed = pre ++ .level .gnt .car v :: post → (∀ w, .level .gnt .car w ∉ pre) →
       s.cfg.arbiter.sharing = .exclusive →
       ∃ t, exec (.levelChange .gnt .car) s = .next t ∧ t.handed = pre ++ post ∧ s.onlyChanges t [.handed])) ∧
  (∀ (s : State) (pre post : List Event) (k : Engine), s.awake = true → s.fitted k = true →
     (∀ w, .level (.lube k) (.esq k) w ∉ pre) →
     (s.handed = pre ++ .level (.lube k) (.esq k) false :: post →
       ((s.eng k).state = .online ∨ (s.eng k).state = .cooldown →
         ∃ t, exec (.levelChange (.lube k) (.esq k)) s = .next t ∧ s.tripsTo t k (s.eng k) .lowLube [.trip .lowLube]) ∧
       ((s.eng k).state = .prelube → (s.eng k).held = true → ∃ t, exec (.levelChange (.lube k) (.esq k)) s = .next t ∧
         t.eng k = { s.eng k with prelubeTimer := some 0 } ∧ t.handed = pre ++ post ∧
         s.onlyChanges t [.engine k, .handed]) ∧
       ((s.eng k).state ≠ .online → (s.eng k).state ≠ .cooldown → (s.eng k).state ≠ .prelube ∨ (s.eng k).held = false →
         ∃ t, exec (.levelChange (.lube k) (.esq k)) s = .next t ∧ t.handed = pre ++ post ∧
           s.onlyChanges t [.handed])) ∧
     (s.handed = pre ++ .level (.lube k) (.esq k) true :: post →
       ((s.eng k).state = .prelube → (s.eng k).held = false → (s.eng k).holdPoint ≠ .beforeCrank →
         ∃ t, exec (.levelChange (.lube k) (.esq k)) s = .next t ∧ (t.eng k).state = .crankWait ∧
           (t.eng k).prelubeTimer = none ∧ (t.eng k).attempts = (s.eng k).attempts ∧
           (t.eng k).startReason = (s.eng k).startReason ∧ t.cli.notices.changed.get k = true ∧
           (s.crankSafe → k ∈ t.car.queue ∨ t.car.holder = some k) ∧ s.supplyJoined t k ∧
           s.onlyChanges t [.engine k, .car, .notices, .handed]) ∧
       ((s.eng k).state = .prelube → (s.eng k).held = false → (s.eng k).holdPoint = .beforeCrank →
         ∃ t, exec (.levelChange (.lube k) (.esq k)) s = .next t ∧ t.eng k = (s.eng k).afterHold ∧
           t.cli.notices.changed.get k = true ∧ t.handed = pre ++ post ∧
           s.onlyChanges t [.engine k, .notices, .handed]) ∧
       ((s.eng k).state = .prelube → (s.eng k).held = true → ∃ t, exec (.levelChange (.lube k) (.esq k)) s = .next t ∧
         t.eng k = { s.eng k with prelubeTimer := none } ∧ t.handed = pre ++ post ∧
         s.onlyChanges t [.engine k, .handed]) ∧
       ((s.eng k).state = .runup → (s.eng k).held = false → s.onlineTest k = true →
         ∃ t, exec (.levelChange (.lube k) (.esq k)) s = .next t ∧ s.passesOnlineTest t k ∧
           s.onlyChanges t [.engine k, .car, .notices, .handed]) ∧
       ((s.eng k).state ≠ .prelube →
         (s.eng k).state ≠ .runup ∨ (s.eng k).held = true ∨ s.onlineTest k = false →
         ∃ t, exec (.levelChange (.lube k) (.esq k)) s = .next t ∧ t.handed = pre ++ post ∧
           s.onlyChanges t [.handed])))

/-- LIMITS_CHANGED: the planner re-plans; a stop demand newly holding makes a stop pending on an ONLINE engine, replaces SHED
and ends a start; a run demand newly holding recalls a SHED stop pending and a SHED cooldown, and one that holds starts a
STOPPED engine that admission lets start; the arbiter grants the oldest uninhibited engine of its queue. What the event
carries is log entry 20, and that the grant drops old sag reports of its engine is log entry 11. A
start ended leaves the crank queue or releases its grant, and a start made joins the queue. -/
def Obligations.LimitsChangedTakenByRecipients : Prop :=
  ∀ (s : State) (pre post : List Event) (p q : Bool) (k : Engine), s.awake = true →
    (s.handed = pre ++ .limits .ppl p q :: post → (∀ x y, .limits .ppl x y ∉ pre) →
      ∃ t, exec (.limitsChanged .ppl) s = .next t ∧ t.handed = pre ++ post ++ [.replan .limits] ∧
        s.onlyChanges t [.handed]) ∧
    (s.fitted k = true → s.handed = pre ++ .limits (.esq k) true q :: post → (∀ x y, .limits (.esq k) x y ∉ pre) →
      s.limits.stop.get k = true → s.limits.run.get k = false → (s.eng k).state = .online →
      (s.eng k).stopPending = false →
      ∃ t, exec (.limitsChanged (.esq k)) s = .next t ∧
        t.eng k = { s.eng k with stopPending := true, stopReason := some .stopDemand } ∧
        t.handed = pre ++ post ++ [.replan (.engine true)] ∧ s.onlyChanges t [.engine k, .handed]) ∧
    (s.fitted k = true → s.handed = pre ++ .limits (.esq k) true q :: post → (∀ x y, .limits (.esq k) x y ∉ pre) →
      s.limits.stop.get k = true → s.tableGood →
      (((s.eng k).state = .online ∧ (s.eng k).stopPending = true) ∨ (s.eng k).state = .cooldown →
        (s.eng k).stopReason = some .shed → ∃ t, exec (.limitsChanged (.esq k)) s = .next t ∧
        t.eng k = { s.eng k with stopReason := some .stopDemand } ∧ t.handed = pre ++ post ∧
        s.onlyChanges t [.engine k, .handed]) ∧
      ((s.eng k).state.startPath = true → ∃ t, exec (.limitsChanged (.esq k)) s = .next t ∧ s.abortsTo t k ∧
        s.onlyChanges t (engineParts k))) ∧
    (s.fitted k = true → s.handed = pre ++ .limits (.esq k) p q :: post → (∀ x y, .limits (.esq k) x y ∉ pre) →
      (s.eng k).state = .stopped →
      (s.limits.run.get k = true → s.admits k = true → ∃ t, exec (.limitsChanged (.esq k)) s = .next t ∧
        s.startsTo t k .runDemand ∧ s.onlyChanges t (.sense k :: engineParts k)) ∧
      (s.limits.run.get k = false ∨ s.admits k = false → ∃ t, exec (.limitsChanged (.esq k)) s = .next t ∧
        t.handed = pre ++ post ∧ s.onlyChanges t [.handed])) ∧
    (s.fitted k = true → s.handed = pre ++ .limits (.esq k) p true :: post → (∀ x y, .limits (.esq k) x y ∉ pre) →
      s.limits.run.get k = true → s.limits.stop.get k = false → (s.eng k).state = .online →
      (s.eng k).stopPending = true → (s.eng k).stopReason = some .shed →
      ∃ t, exec (.limitsChanged (.esq k)) s = .next t ∧
        t.eng k = { s.eng k with stopPending := false, stopReason := none } ∧
        t.handed = pre ++ post ++ [.replan (.engine true)] ∧ s.onlyChanges t [.engine k, .handed]) ∧
    (s.fitted k = true → s.handed = pre ++ .limits (.esq k) p true :: post → (∀ x y, .limits (.esq k) x y ∉ pre) →
      s.limits.run.get k = true → s.limits.stop.get k = false → (s.eng k).state = .cooldown →
      (s.eng k).stopReason = some .shed →
      ∃ t, exec (.limitsChanged (.esq k)) s = .next t ∧ (t.eng k).state = .online ∧ (t.eng k).stopReason = none ∧
        (t.eng k).cooldownTimer = none ∧ (t.eng k).highLoad = (s.eng k).highLoad ∧ s.supplyKept t ∧
        s.onlyChanges t [.engine k, .car, .notices, .handed]) ∧
    (s.handed = pre ++ .limits .car p q :: post → (∀ x y, .limits .car x y ∉ pre) → s.car.phase = .idle →
      s.cfg.arbiter.sharing = .exclusive ∨ s.car.line = .held →
      s.car.queue.find? (fun j => !s.limits.inhibit.get j) = some k →
      ∃ t, exec (.limitsChanged .car) s = .next t ∧
        t.car = { s.car with queue := s.car.queue.erase k, holder := some k, phase := .granted } ∧
        t.handed = (pre ++ post).filter (fun e => e ≠ .sag k) ++ [.phase .granted (some k), .grant k] ∧
        s.onlyChanges t [.car, .handed])

/-! ## The Restriction Table (chapter 2) -/

/-- POST, past its form and scope checks, takes the lowest FREE external slot with the next generation and creates the
entry with the clamped value and expiry; on a full table it is refused.

The scope check: LOCOMOTIVE for a POWER_CAP and for no other kind; for the others the named engines that are fitted, when
there is one, with an engine dropped or not; otherwise no scope. -/
def Obligations.PostCreatesEntryInLowestFreeSlot : Prop :=
  (∀ (s : State) (c : Caller) (kind scope vp : Byte) (value expiry : Word16) (kd : Kind) (sc : Scope) (dropped : Bool),
    s.takes (.post c kind scope vp value expiry) = true → s.tableGood → kindField kind = some kd →
    yesNoField vp = some (decide (kd = .notchCeiling ∨ kd = .powerCap)) → s.checkScope kd scope = some (sc, dropped) →
    (∀ n, 17 ≤ n → n ≤ 48 → (slotAt s.table n).live = false → (∀ m, 17 ≤ m → m < n → (slotAt s.table m).live = true) →
      ∃ t, exec (.post c kind scope vp value expiry) s = .next t ∧
        slotAt t.table n = ⟨nextGen (slotAt s.table n).gen, some
          { owner := .external c.origin, kind := kd, scope := sc
            value := if kd = .notchCeiling then some (min value.toNat 8)
              else if kd = .powerCap then some value.toNat else none
            expiry := if expiry.toNat = 0 then none else some (min expiry.toNat 3600) }⟩ ∧
        (∀ m, m ≠ n → slotAt t.table m = slotAt s.table m) ∧ t.limits = resolve t.table ∧
        t.handed = s.handed ++ s.limitsHanded s.limits t.limits ∧
        s.answers t (.post c kind scope vp value expiry)
          (if dropped ∨ (kd = .notchCeiling ∧ 8 < value.toNat) ∨ 3600 < expiry.toNat then .clamped else .ok)
          [byte n, nextGen (slotAt s.table n).gen] ∧
        s.onlyChanges t (.table :: .limits :: .handed :: answerParts)) ∧
    ((∀ n, 17 ≤ n → n ≤ 48 → (slotAt s.table n).live = true) →
      ∃ t, exec (.post c kind scope vp value expiry) s = .next t ∧
        s.answers t (.post c kind scope vp value expiry) .tableFull [] ∧ s.onlyChanges t answerParts)) ∧
  (∀ (s : State) (kd : Kind) (scope : Byte),
     (kd = .powerCap → scope = 0x80 → s.checkScope kd scope = some (.locomotive, false)) ∧
     (kd = .powerCap → scope ≠ 0x80 → s.checkScope kd scope = none) ∧
     (kd ≠ .powerCap → 16 ≤ scope.toNat → s.checkScope kd scope = none) ∧
     (∀ kept : PerEngine Bool, kd ≠ .powerCap → scope.toNat < 16 →
       kept = .of (fun k => scope.getLsbD (k.number - 1) && s.fitted k) →
       ((∀ k, kept.get k = false) → s.checkScope kd scope = none) ∧
       ((∃ k, kept.get k = true) → (∃ k, scope.getLsbD (k.number - 1) = true ∧ s.fitted k = false) →
         s.checkScope kd scope = some (.engines kept, true)) ∧
       ((∃ k, kept.get k = true) → (∀ k, scope.getLsbD (k.number - 1) = true → s.fitted k = true) →
         s.checkScope kd scope = some (.engines kept, false))))

/-- The form and scope checks of POST, in their order, each with its refusal and no effect.

The handle check that AMEND, RETIRE and READ_ENTRY make before any other: a slot above 48 is BAD_VALUE, a FREE slot or
another generation is UNKNOWN_HANDLE, and nothing changes. -/
def Obligations.TableRequestsRefuseBadFields : Prop :=
  (∀ (s : State) (c : Caller) (kind scope vp : Byte) (value expiry : Word16),
     s.takes (.post c kind scope vp value expiry) = true →
     (kindField kind = none → ∃ t, exec (.post c kind scope vp value expiry) s = .next t ∧
       s.answers t (.post c kind scope vp value expiry) .badValue [] ∧ s.onlyChanges t answerParts) ∧
     (∀ kd, kindField kind = some kd → yesNoField vp ≠ some (decide (kd = .notchCeiling ∨ kd = .powerCap)) →
       ∃ t, exec (.post c kind scope vp value expiry) s = .next t ∧
         s.answers t (.post c kind scope vp value expiry) .badRequest [] ∧ s.onlyChanges t answerParts) ∧
     (∀ kd, kindField kind = some kd → yesNoField vp = some (decide (kd = .notchCeiling ∨ kd = .powerCap)) →
       (∀ set, scopeField scope = some (.engines set) →
         kd = .powerCap ∨ ∀ k, ¬ (set.get k = true ∧ s.fitted k = true)) →
       (scopeField scope = some .locomotive → kd ≠ .powerCap) →
       ∃ t, exec (.post c kind scope vp value expiry) s = .next t ∧
         s.answers t (.post c kind scope vp value expiry) .badValue [] ∧ s.onlyChanges t answerParts)) ∧
  (∀ (s : State) (c : Caller) (slot gen vp : Byte) (value expiry : Word16) (cmd : Instr),
     cmd = .amend c slot gen vp value expiry ∨ cmd = .retire c slot gen ∨ cmd = .readEntry c slot gen →
     s.takes cmd = true →
     (49 ≤ slot.toNat → ∃ t, exec cmd s = .next t ∧ s.answers t cmd .badValue [] ∧ s.onlyChanges t answerParts) ∧
     (slot.toNat ≤ 48 → (slotAt s.table slot.toNat).live = false ∨ (slotAt s.table slot.toNat).gen ≠ gen →
       ∃ t, exec cmd s = .next t ∧ s.answers t cmd .unknownHandle [] ∧ s.onlyChanges t answerParts))

/-- AMEND and RETIRE of a valid handle: an internal entry, or another origin's without SUPERVISOR, is refused
NOT_PERMITTED; AMEND then refuses a value-present byte other than the kind requires with BAD_REQUEST, or replaces value and
expiry in place; RETIRE frees the slot, the generation kept and the limits recomputed. -/
def Obligations.AmendAndRetireActOnOwnedEntry : Prop :=
  ∀ (s : State) (c : Caller) (slot gen vp : Byte) (value expiry : Word16) (e : Entry), s.tableGood →
    slot.toNat ≤ 48 → slotAt s.table slot.toNat = ⟨gen, some e⟩ →
    (∀ cmd, cmd = .amend c slot gen vp value expiry ∨ cmd = .retire c slot gen → s.takes cmd = true →
      (∃ x, e.owner = .internal x) ∨ (∃ o, e.owner = .external o ∧ o ≠ c.origin ∧ s.role c.origin ≠ .supervisor) →
      ∃ t, exec cmd s = .next t ∧ s.answers t cmd .notPermitted [] ∧ s.onlyChanges t answerParts) ∧
    (∀ o, e.owner = .external o → o = c.origin ∨ s.role c.origin = .supervisor →
      (s.takes (.retire c slot gen) = true → ∃ t, exec (.retire c slot gen) s = .next t ∧
        slotAt t.table slot.toNat = ⟨gen, none⟩ ∧
        (∀ m, m ≠ slot.toNat → slotAt t.table m = slotAt s.table m) ∧ t.limits = resolve t.table ∧
        t.handed = s.handed ++ s.limitsHanded s.limits t.limits ∧
        s.answers t (.retire c slot gen) .ok [] ∧
        s.onlyChanges t (.table :: .limits :: .handed :: answerParts)) ∧
      (s.takes (.amend c slot gen vp value expiry) = true →
        yesNoField vp ≠ some (decide (e.kind = .notchCeiling ∨ e.kind = .powerCap)) →
        ∃ t, exec (.amend c slot gen vp value expiry) s = .next t ∧
          s.answers t (.amend c slot gen vp value expiry) .badRequest [] ∧ s.onlyChanges t answerParts) ∧
      (s.takes (.amend c slot gen vp value expiry) = true →
        yesNoField vp = some (decide (e.kind = .notchCeiling ∨ e.kind = .powerCap)) →
        ∃ t, exec (.amend c slot gen vp value expiry) s = .next t ∧
          slotAt t.table slot.toNat = ⟨gen, some { e with
            value := if e.kind = .notchCeiling then some (min value.toNat 8)
              else if e.kind = .powerCap then some value.toNat else none
            expiry := if expiry.toNat = 0 then none else some (min expiry.toNat 3600) }⟩ ∧
          (∀ m, m ≠ slot.toNat → slotAt t.table m = slotAt s.table m) ∧ t.limits = resolve t.table ∧
          t.handed = s.handed ++ s.limitsHanded s.limits t.limits ∧
          s.answers t (.amend c slot gen vp value expiry)
            (if (e.kind = .notchCeiling ∧ 8 < value.toNat) ∨ 3600 < expiry.toNat then .clamped else .ok) [slot, gen] ∧
          s.onlyChanges t (.table :: .limits :: .handed :: answerParts)))

/-- READ_ENTRY of a valid handle: 13 bytes, the handle, the origin or 10h, the condition (0, or the code 1 to 5 of an
internal entry), kind and scope codes, the value and expiry with their presence bytes, and the binding flag; nothing changes.

LIST_ENTRIES: the handles of the first six matching LIVE entries from the start slot up, and the next slot.

The binding flag of an entry, kind by kind, from the limits, the demand notch and the engine states at the read.

The match of an entry against the three filters; the codes of kinds, scopes and filters, and the bytes that name no
filter. -/
def Obligations.ReadRequestsReportEntries : Prop :=
  (∀ (s : State) (c : Caller) (slot gen : Byte) (e : Entry), s.takes (.readEntry c slot gen) = true →
     slot.toNat ≤ 48 → slotAt s.table slot.toNat = ⟨gen, some e⟩ →
     ∃ t p, exec (.readEntry c slot gen) s = .next t ∧ s.answers t (.readEntry c slot gen) .ok p ∧ p.length = 13 ∧
       p.take 2 = [slot, gen] ∧ (∀ o, e.owner = .external o → p.getD 2 0 = o ∧ p.getD 3 0 = 0) ∧
       (∀ x, e.owner = .internal x → p.getD 2 0 = 0x10 ∧ p.getD 3 0 = match x with
         | .warmup => 1
         | .hot => 2
         | .pickup => 3
         | .lockout => 4
         | .batteryLow => 5) ∧ p.getD 4 0 = kindCode e.kind ∧
       p.getD 5 0 = scopeCode e.scope ∧
       (∀ v, e.value = some v → p.getD 6 0 = 1 ∧ p.getD 7 0 = byte (v / 256) ∧ p.getD 8 0 = byte v) ∧
       (e.value = none → p.getD 6 0 = 0 ∧ p.getD 7 0 = 0 ∧ p.getD 8 0 = 0) ∧
       (∀ v, e.expiry = some v → p.getD 9 0 = 1 ∧ p.getD 10 0 = byte (v / 256) ∧ p.getD 11 0 = byte v) ∧
       (e.expiry = none → p.getD 9 0 = 0 ∧ p.getD 10 0 = 0 ∧ p.getD 11 0 = 0) ∧ p.getD 12 0 = bit (s.binding e) ∧
       s.onlyChanges t answerParts) ∧
  (∀ (s : State) (c : Caller) (kind engine origin start : Byte) (kd : Option Kind) (en : Option Engine)
     (og : OriginFilter), s.takes (.listEntries c kind engine origin start) = true → kindFilter kind = some kd →
     engineFilter engine = some en → originFilter origin = some og →
     (49 < start.toNat → ∃ t, exec (.listEntries c kind engine origin start) s = .next t ∧
       s.answers t (.listEntries c kind engine origin start) .badValue [] ∧ s.onlyChanges t answerParts) ∧
     (start.toNat ≤ 49 → ∃ (t : State) (found : List Nat) (next : Nat),
       exec (.listEntries c kind engine origin start) s = .next t ∧
       s.answers t (.listEntries c kind engine origin start) .ok
         (byte found.length :: found.flatMap (fun n => [byte n, (slotAt s.table n).gen]) ++ [byte next]) ∧
       found.length ≤ 6 ∧ found.Pairwise (· < ·) ∧
       (∀ n, n ∈ found ↔ start.toNat ≤ n ∧ n < next ∧ n < 49 ∧
         ∃ e, (slotAt s.table n).entry = some e ∧ e.matches kd en og = true) ∧
       (found.length < 6 → next = 49) ∧ (found.length = 6 → found.getLast? = some (next - 1)) ∧
       s.onlyChanges t answerParts)) ∧
  (∀ (s : State) (e : Entry),
     (e.kind = .notchCeiling → (s.binding e = true ↔
       ∃ k, s.fitted k = true ∧ e.covers k = true ∧ e.value = some (s.limits.ceiling.get k))) ∧
     (∀ v, e.kind = .powerCap → e.value = some v →
       (s.binding e = true ↔ s.limits.cap = some v ∧ v < s.lp s.dsl.demand)) ∧
     (e.kind = .startInhibit → (s.binding e = true ↔ ∃ k, s.fitted k = true ∧ e.covers k = true ∧
       ((s.eng k).state = .stopped ∨ (s.eng k).state = .crankWait))) ∧
     (e.kind = .runDemand → (s.binding e = true ↔ ∃ k, s.fitted k = true ∧ e.covers k = true ∧
       s.limits.stop.get k = false ∧ (s.eng k).state ≠ .isolated ∧ (s.eng k).state ≠ .tripped)) ∧
     (e.kind = .stopDemand → (s.binding e = true ↔ ∃ k, s.fitted k = true ∧ e.covers k = true ∧
       (s.eng k).state ≠ .stopped ∧ (s.eng k).state ≠ .isolated ∧ (s.eng k).state ≠ .tripped))) ∧
  (∀ (e : Entry) (kd : Option Kind) (en : Option Engine) (og : OriginFilter), e.matches kd en og = true ↔
     (kd = none ∨ kd = some e.kind) ∧
     (en = none ∨ ∃ k set, en = some k ∧ e.scope = .engines set ∧ set.get k = true) ∧
     (og = .any ∨ (∃ o, og = .origin o ∧ e.owner = .external o) ∨ (og = .internal ∧ ∃ x, e.owner = .internal x))) ∧
  (kindCode .notchCeiling = 1 ∧ kindCode .powerCap = 2 ∧ kindCode .startInhibit = 3 ∧ kindCode .runDemand = 4 ∧
    kindCode .stopDemand = 5) ∧
  (kindFilter 0 = some none ∧ (∀ kd, kindFilter (kindCode kd) = some (some kd)) ∧
    ∀ b : Byte, 5 < b.toNat → kindFilter b = none) ∧
  (scopeCode .locomotive = 0x80 ∧ ∀ set, (scopeCode (.engines set)).toNat < 16 ∧
    ∀ k, (scopeCode (.engines set)).getLsbD (k.number - 1) = set.get k) ∧
  (engineFilter 0 = some none ∧ (∀ k, engineFilter (byte k.number) = some (some k)) ∧
    ∀ b : Byte, 4 < b.toNat → engineFilter b = none) ∧
  (originFilter 0x10 = some .internal ∧ originFilter 0xFF = some .any ∧
    (∀ b : Byte, b.toNat ≤ 15 → originFilter b = some (.origin b)) ∧
    ∀ b : Byte, 16 < b.toNat → b ≠ 0xFF → originFilter b = none)

/-- EXPIRY_COUNT, in one event: the expiry remaining of every LIVE external entry that has one falls by 1, an entry brought
to 0 is retired at this count with its generation kept, EXPIRED is set and the limits are recomputed when any was; internal
entries and entries without an expiry stay.

ENTRY_EXPIRED is that same count when an entry reaches 0 at it, and nothing when none does (the model's choice of what the
second row stands for, log entry 26). -/
def Obligations.ExpiryCountRetiresSpentEntries : Prop :=
  ∀ s : State, s.awake = true →
    (∃ t, exec .expiryCount s = .next t ∧
      (∀ n e o m, (slotAt s.table n).entry = some e → e.owner = .external o → e.expiry = some m → 1 < m →
        slotAt t.table n = ⟨(slotAt s.table n).gen, some { e with expiry := some (m - 1) }⟩) ∧
      (∀ n e o m, (slotAt s.table n).entry = some e → e.owner = .external o → e.expiry = some m → m ≤ 1 →
        slotAt t.table n = ⟨(slotAt s.table n).gen, none⟩) ∧
      (∀ n e, (slotAt s.table n).entry = some e → (∃ x, e.owner = .internal x) ∨ e.expiry = none →
        slotAt t.table n = slotAt s.table n) ∧
      (∀ n, (slotAt s.table n).live = false → slotAt t.table n = slotAt s.table n) ∧
      ((∃ e o m, e ∈ liveEntries s.table ∧ e.owner = .external o ∧ e.expiry = some m ∧ m ≤ 1) →
        t.limits = resolve t.table ∧ t.cli.notices = { s.cli.notices with expired := true } ∧
          t.handed = s.handed ++ s.limitsHanded s.limits t.limits ∧
          s.onlyChanges t [.table, .limits, .handed, .notices]) ∧
      ((∀ e o m, e ∈ liveEntries s.table → e.owner = .external o → e.expiry = some m → 1 < m) →
        s.onlyChanges t [.table])) ∧
    ((∃ e o m, e ∈ liveEntries s.table ∧ e.owner = .external o ∧ e.expiry = some m ∧ m ≤ 1) →
      ∃ t, exec .entryExpired s = .next t ∧ exec .expiryCount s = .next t ∧ t.cli.notices.expired = true ∧
        ∀ n e o m, (slotAt s.table n).entry = some e → e.owner = .external o → e.expiry = some m → m ≤ 1 →
          slotAt t.table n = ⟨(slotAt s.table n).gen, none⟩) ∧
    ((∀ e o m, e ∈ liveEntries s.table → e.owner = .external o → e.expiry = some m → 1 < m) →
      exec .entryExpired s = .next s)

/-- The resolved limits of a table: the lowest ceiling covering each engine or 8, the lowest cap or none, and the three
demands with a stop demand prevailing over a run demand. With values in the ranges of their kinds a ceiling is 0 to 8 and a
cap 0 to 65535. -/
def Obligations.LimitsResolvedFromLiveEntries : Prop :=
  ∀ (table : List Slot) (k : Engine),
    ((∃ e v, e ∈ liveEntries table ∧ e.kind = .notchCeiling ∧ e.covers k = true ∧ e.value = some v ∧
        (resolve table).ceiling.get k = v) ∨
      ((∀ e ∈ liveEntries table, e.kind = .notchCeiling → e.covers k = true → e.value = none) ∧
        (resolve table).ceiling.get k = 8)) ∧
    (∀ e v, e ∈ liveEntries table → e.kind = .notchCeiling → e.covers k = true → e.value = some v →
      (resolve table).ceiling.get k ≤ v) ∧
    (∀ c, (resolve table).cap = some c ↔ (∃ e ∈ liveEntries table, e.kind = .powerCap ∧ e.value = some c) ∧
      ∀ e v, e ∈ liveEntries table → e.kind = .powerCap → e.value = some v → c ≤ v) ∧
    ((resolve table).inhibit.get k = true ↔ ∃ e ∈ liveEntries table, e.kind = .startInhibit ∧ e.covers k = true) ∧
    ((resolve table).stop.get k = true ↔ ∃ e ∈ liveEntries table, e.kind = .stopDemand ∧ e.covers k = true) ∧
    ((resolve table).run.get k = true ↔ (∃ e ∈ liveEntries table, e.kind = .runDemand ∧ e.covers k = true) ∧
      (resolve table).stop.get k = false) ∧
    ((∀ e v, e ∈ liveEntries table → e.value = some v → v ≤ 65535 ∧ (e.kind = .notchCeiling → v ≤ 8)) →
      (resolve table).ceiling.get k ≤ 8 ∧ ∀ c, (resolve table).cap = some c → c ≤ 65535)

/-- Every step keeps the table good: 49 slots, LIVE slots with a generation from 1, each internal entry in a slot bound to
its condition and with that condition's kind, external entries in slots 17 to 48, and limits that are those of the LIVE
entries. And every step keeps each expiry remaining at 1 to 3600, so that none is ever read as 0. -/
def Obligations.StepKeepsTableGood : Prop :=
  (∀ s t : State, s.tableGood → step s = .next t → t.tableGood) ∧
  ∀ s t : State, s.expiriesGood → step s = .next t → t.expiriesGood

/-! ## Power planning (chapter 3) -/

/-- REPLAN: the capped demand, the online set, the capacities and their sum, as the inputs stand; POWER_SHORT set while the
capacity is short of the demand with no candidate and no staging start, each change setting its flag; and what is handed on:
the recall, start or shed orders of the re-plan, then in one event the new pair of every fitted engine whose pair differs
from the last handed. Which orders is in DwellsCompleteIntoOrders. -/
def Obligations.ReplanFormsDemandAndCapacity : Prop :=
  ∀ (s : State) (pre post : List Event) (cause : ReplanCause), s.awake = true →
    s.handed = pre ++ .replan cause :: post → (∀ x, .replan x ∉ pre) →
    ∃ t, exec .replan s = .next t ∧
      (s.runLine = false ∨ s.emergency = true ∨ s.valid = false → t.plan.p = 0) ∧
      (s.runLine = true → s.emergency = false → s.valid = true →
        t.plan.p = (match s.limits.cap with
          | none => s.lp s.dsl.demand
          | some c => min c (s.lp s.dsl.demand))) ∧
      (∀ k, t.plan.online.get k = true ↔
        s.fitted k = true ∧ (s.eng k).state = .online ∧ (s.eng k).stopPending = false) ∧
      (∀ k, t.plan.caps.get k = s.enKw (s.limits.ceiling.get k)) ∧
      t.plan.co = ((Engine.all.filter t.plan.online.get).map t.plan.caps.get).sum ∧
      (t.plan.short = true ↔ t.plan.co < t.plan.p ∧ s.stagingEngine = none ∧ s.recallCandidates = [] ∧
        s.newStartCandidates = []) ∧
      t.cli.notices = { s.cli.notices with
        powerShort := s.cli.notices.powerShort || decide (t.plan.short ≠ s.plan.short) } ∧
      (∃ (orders : List Event) (pairs : PerEngine (Option Pair)),
        t.handed = pre ++ post ++ orders ++ (if pairs = .same none then [] else [.pairs pairs]) ∧
        (∀ e ∈ orders, ∃ k, e = .recall k ∨ e = .startOrder k .staging ∨ e = .stopOrder k .shed) ∧
        ∀ k, pairs.get k = if s.fitted k = true ∧ t.plan.pairs.get k ≠ s.plan.pairs.get k
          then some (t.plan.pairs.get k) else none) ∧
      s.onlyChanges t [.plan, .handed, .notices]

/-- In every plan formed, no allocation exceeds its engine's capacity, an engine outside O has 0 and target 0, the
allocations come to min(P, C_O), each target is the lowest notch up to the ceiling that covers the allocation, and the
allocations are the water-filling of P over O in ascending order of capacity, ties to the lower number.

Water-filling over engines in ascending order of capacity: each takes its equal share of what is left, rounded up, or
its capacity; once one takes its full share the next does too; and together they take the lesser of the demand and the
capacity. -/
def Obligations.AllocationsSumToCappedDemand : Prop :=
  (∀ (s : State) (pre post : List Event) (cause : ReplanCause), s.awake = true →
     s.handed = pre ++ .replan cause :: post → (∀ x, .replan x ∉ pre) →
     ∃ t, exec .replan s = .next t ∧
       (∀ k, (t.plan.pairs.get k).alloc ≤ s.enKw (s.limits.ceiling.get k)) ∧
       (∀ k, ¬ (s.fitted k = true ∧ (s.eng k).state = .online ∧ (s.eng k).stopPending = false) →
         t.plan.pairs.get k = ⟨0, 0⟩) ∧
       (Engine.all.map fun k => (t.plan.pairs.get k).alloc).sum = min t.plan.p t.plan.co ∧
       (∀ k, (t.plan.pairs.get k).target ≤ s.limits.ceiling.get k ∧
         (t.plan.pairs.get k).alloc ≤ s.enKw (t.plan.pairs.get k).target ∧
         ∀ n, n < (t.plan.pairs.get k).target → s.enKw n < (t.plan.pairs.get k).alloc) ∧
       ∃ order : List (Engine × Nat),
         order.Pairwise (fun x y => x.2 < y.2 ∨ (x.2 = y.2 ∧ x.1.number < y.1.number)) ∧
         (∀ k c, (k, c) ∈ order ↔ t.plan.online.get k = true ∧ c = t.plan.caps.get k) ∧
         ∀ k a, (k, a) ∈ waterFill t.plan.p order → (t.plan.pairs.get k).alloc = a) ∧
  (∀ (p : Nat) (engines : List (Engine × Nat)), engines.Pairwise (fun x y => x.2 ≤ y.2) →
     (waterFill p engines).map Prod.fst = engines.map Prod.fst ∧
     ((waterFill p engines).map Prod.snd).sum = min p (engines.map Prod.snd).sum ∧
     (∀ k c rest, engines = (k, c) :: rest →
       waterFill p engines = (k, min ((p + rest.length) / (rest.length + 1)) c) ::
           waterFill (p - min ((p + rest.length) / (rest.length + 1)) c) rest) ∧
     (∀ k c j d rest, engines = (k, c) :: (j, d) :: rest → (p + (rest.length + 1)) / (rest.length + 2) ≤ c →
       (p - (p + (rest.length + 1)) / (rest.length + 2) + rest.length) / (rest.length + 1) ≤ d) ∧
     List.Forall₂ (fun a b => a.2 ≤ b.2) (waterFill p engines) engines)

/-- PLANNER_COUNT: a dwell timer whose condition fails is STOPPED, one that counts advances by 0.1 s, one that starts starts
at 0; one complete before the count gives its order at the count, or stays complete where no order may be handed; under the
minimum clause, with no staging start and none of the conditions of R49, the start order is handed at the
count itself; the plan formed at the last re-plan is kept. A dwell reached at this very count hands its order at
START_DWELL_COMPLETE or SHED_DWELL_COMPLETE (two rows: the model's choice, log entry 4), and an order handed before and not
yet taken holds nothing off (log entry 7). The
capacity clause is read on the P held with the run line dropped too (log entry 36), the staging start from the records beside
the O held (log entry 37), and the section values from the apply event on (log entry 39). -/
def Obligations.PlannerCountAdvancesDwells : Prop :=
  ∀ s : State, s.awake = true → ∃ t, exec .plannerCount s = .next t ∧
    t.plan.p = s.plan.p ∧ t.plan.online = s.plan.online ∧ t.plan.co = s.plan.co ∧ t.plan.caps = s.plan.caps ∧
    t.plan.pairs = s.plan.pairs ∧ t.plan.candidate = s.plan.candidate ∧ t.plan.short = s.plan.short ∧
    (s.startCondition = false → t.plan.startTimer = none) ∧ (s.shedCondition = false → t.plan.shedTimer = none) ∧
    (s.startCondition = true → s.minimumClause = false → s.plan.startTimer = none → 0 < s.cfg.staging.startDwell →
      t.plan.startTimer = some 0) ∧
    (∀ n, s.startCondition = true → s.minimumClause = false → s.plan.startTimer = some n →
      n < s.cfg.staging.startDwell → t.plan.startTimer = some (n + 1)) ∧
    (∀ n, s.shedCondition = true → s.plan.shedTimer = some n → n < s.cfg.staging.shedDwell →
      t.plan.shedTimer = some (n + 1)) ∧
    (s.shedCondition = true → s.plan.shedTimer = none → 0 < s.cfg.staging.shedDwell → t.plan.shedTimer = some 0) ∧
    (s.minimumClause = true → s.stagingEngine = none → s.valid = true → s.writing = false → s.emergency = false → ∀ k,
      (s.lowestRunOf s.recallCandidates k → t.handed = s.handed ++ [.recall k] ∧ t.plan.startTimer = some 0) ∧
      (s.recallCandidates = [] → s.lowestRunOf s.newStartCandidates k →
        t.handed = s.handed ++ [.startOrder k .staging] ∧ t.plan.startTimer = some 0)) ∧
    (∀ n, s.startCondition = true → s.minimumClause = false → s.shedCondition = false → s.plan.startTimer = some n →
      s.cfg.staging.startDwell ≤ n →
      (s.stagingEngine.isSome ∨ s.valid = false ∨ s.writing = true ∨ s.emergency = true ∨
          (s.recallCandidates = [] ∧ s.newStartCandidates = []) →
        t.handed = s.handed ∧ t.plan.startTimer = some n) ∧
      (s.stagingEngine = none → s.valid = true → s.writing = false → s.emergency = false → ∀ k,
        (s.lowestRunOf s.recallCandidates k → t.handed = s.handed ++ [.recall k] ∧ t.plan.startTimer = some 0) ∧
        (s.recallCandidates = [] → s.lowestRunOf s.newStartCandidates k →
          t.handed = s.handed ++ [.startOrder k .staging] ∧ t.plan.startTimer = some 0))) ∧
    (∀ n x, s.shedCondition = true → s.startCondition = false → s.plan.shedTimer = some n →
      s.cfg.staging.shedDwell ≤ n → s.plan.candidate = some x →
      (s.valid = true → t.handed = s.handed ++ [.stopOrder x .shed] ∧ t.plan.shedTimer = none) ∧
      (s.valid = false → t.handed = s.handed ∧ t.plan.shedTimer = some n)) ∧
    (s.startCondition = false → s.shedCondition = false → t.handed = s.handed) ∧ s.onlyChanges t [.plan, .handed]

/-- START_DWELL_COMPLETE with the capacity clause holding, no staging start and none of the conditions of R49: the recall
candidate with the lowest run seconds is recalled, or, with no recall candidate, the new-start candidate with the lowest is
ordered to start; ties go to the lower number; the timer restarts from 0. An order handed before and not yet taken holds
nothing off (log entry 7).

SHED_DWELL_COMPLETE with the shed condition holding and the configuration valid: a stop order SHED to the candidate held,
and the timer STOPPED.

REPLAN hands the same orders by the same rules, on the plan it forms, and moves the two timers; it chooses the shed candidate
afresh at the causes R56 names and whenever the one held no longer serves, and keeps it at the others; a different one
restarts its timer.

The two clauses of the start condition, the staging start, and the candidates for a recall and for a new start: at a count
the capacity clause stands on the P held, whatever the run line (log entry 36), and the staging start on the records as they
are, beside the O held (log entry 37). -/
def Obligations.DwellsCompleteIntoOrders : Prop :=
  (∀ (s : State) (n : Nat), s.awake = true → s.plan.startTimer = some n → s.cfg.staging.startDwell ≤ n →
     s.capacityClause = true → s.stagingEngine = none → s.valid = true → s.writing = false → s.emergency = false → ∀ k,
     (s.lowestRunOf s.recallCandidates k → ∃ t, exec .startDwellComplete s = .next t ∧
       t.handed = s.handed ++ [.recall k] ∧ t.plan = { s.plan with startTimer := some 0 } ∧
       s.onlyChanges t [.plan, .handed]) ∧
     (s.recallCandidates = [] → s.lowestRunOf s.newStartCandidates k → ∃ t, exec .startDwellComplete s = .next t ∧
       t.handed = s.handed ++ [.startOrder k .staging] ∧ t.plan = { s.plan with startTimer := some 0 } ∧
       s.onlyChanges t [.plan, .handed])) ∧
  (∀ (s : State) (n : Nat) (x : Engine), s.awake = true → s.plan.shedTimer = some n → s.cfg.staging.shedDwell ≤ n →
     s.plan.candidate = some x → s.valid = true → s.stagingEngine = none →
     s.cfg.staging.minOnline < (Engine.all.filter s.plan.online.get).length →
     100 * s.plan.p < s.cfg.staging.shedPct * (s.plan.co - s.plan.caps.get x) →
     ∃ t, exec .shedDwellComplete s = .next t ∧ t.handed = s.handed ++ [.stopOrder x .shed] ∧
       t.plan = { s.plan with shedTimer := none } ∧ s.onlyChanges t [.plan, .handed]) ∧
  (∀ (s : State) (pre post : List Event) (cause : ReplanCause), s.awake = true →
     s.handed = pre ++ .replan cause :: post → (∀ x, .replan x ∉ pre) →
     ∃ t new, exec .replan s = .next t ∧ t.handed = pre ++ post ++ new ∧
       (∀ called : Bool,
         (called = true ↔ (t.minimumClause = true ∨
             (t.capacityClause = true ∧ s.cfg.staging.startDwell ≤ s.plan.startTimer.getD 0)) ∧
           s.stagingEngine = none ∧ s.valid = true ∧ s.writing = false ∧ s.emergency = false) →
         (∀ k, .recall k ∈ new ↔ called = true ∧ s.lowestRunOf s.recallCandidates k) ∧
         (∀ k, .startOrder k .staging ∈ new ↔
           called = true ∧ s.recallCandidates = [] ∧ s.lowestRunOf s.newStartCandidates k) ∧
         (t.startCondition = false → t.plan.startTimer = none) ∧
         (t.startCondition = true → called = true → s.recallCandidates ≠ [] ∨ s.newStartCandidates ≠ [] →
           t.plan.startTimer = some 0) ∧
         (t.startCondition = true → called = false ∨ (s.recallCandidates = [] ∧ s.newStartCandidates = []) →
           t.plan.startTimer = some (s.plan.startTimer.getD 0))) ∧
       (∀ chosen : Bool,
         (chosen = true ↔ cause = .limits ∨ cause = .apply ∨ cause = .engine true ∨ s.plan.candidate = none ∨
           ∃ x, s.plan.candidate = some x ∧ (t.plan.online.get x = false ∨ s.limits.run.get x = true)) →
         (chosen = true → ∀ k, t.plan.candidate = some k ↔ t.shedsFirst k) ∧
         (chosen = false → t.plan.candidate = s.plan.candidate)) ∧
       (∀ dwell : Nat, dwell = (if t.plan.candidate = s.plan.candidate then s.plan.shedTimer.getD 0 else 0) →
         (∀ k, .stopOrder k .shed ∈ new ↔ t.plan.candidate = some k ∧ t.shedCondition = true ∧ s.valid = true ∧
           s.cfg.staging.shedDwell ≤ dwell) ∧
         (t.shedCondition = false → t.plan.shedTimer = none) ∧
         (t.shedCondition = true → t.plan.shedTimer =
           if s.valid = true ∧ s.cfg.staging.shedDwell ≤ dwell then none else some dwell))) ∧
  (∀ s : State,
     (s.capacityClause = true ↔ s.cfg.staging.startPct * s.plan.co < 100 * s.plan.p ∧
       s.onlineCount + (Engine.all.filter s.stagingStart).length < s.cfg.roster.fitted) ∧
     (s.minimumClause = true ↔ s.runLine = true ∧
       s.onlineCount + (Engine.all.filter s.stagingStart).length < s.cfg.staging.minOnline) ∧
     (s.startCondition = true ↔ s.capacityClause = true ∨ s.minimumClause = true) ∧
     (s.shedCondition = true ↔ s.cfg.staging.minOnline < s.onlineCount ∧ s.stagingEngine = none ∧
       ∃ x, s.plan.candidate = some x ∧ 100 * s.plan.p < s.cfg.staging.shedPct * (s.plan.co - s.plan.caps.get x)) ∧
     (s.stagingEngine = none ↔ ∀ k, s.stagingStart k = false) ∧
     (∀ k, k ∈ s.recallCandidates ↔ s.fitted k = true ∧ (s.eng k).stopReason = some .shed ∧
       (((s.eng k).state = .online ∧ (s.eng k).stopPending = true) ∨ (s.eng k).state = .cooldown)) ∧
     (∀ k, k ∈ s.newStartCandidates ↔ s.fitted k = true ∧ (s.eng k).state = .stopped ∧
       s.limits.inhibit.get k = false ∧ s.limits.stop.get k = false ∧ s.level (.iso k) = false ∧
       (s.eng k).isoRequest = false ∧ s.atRest k = true ∧ 1 ≤ s.enKw (s.limits.ceiling.get k)))

/-! ## Engine sequence (chapters 4 and 5) -/

/-- A start order admitted, from START or from START_ORDER_TAKEN: PRELUBE with full attempts and the cause as start reason;
with the lube switch already made the prelube step follows, into CRANK_WAIT or held at BEFORE_CRANK. The engine's warmed
mark becomes no, and no other engine's record changes.

The eight conditions of admission; a selected pickup SILENT reads as speed 0. -/
def Obligations.AdmissionEntersPrelube : Prop :=
  (∀ (s : State) (k : Engine) (cmd : Instr) (reason : StartReason) (more : List Part), (s.eng k).state = .stopped →
    s.admits k = true →
    (∃ c e, cmd = .start c e ∧ s.takesFor cmd e k = true ∧ s.writing = false ∧ reason = .request ∧
        more = answerParts) ∨
      (∃ pre post, cmd = .startOrderTaken k ∧ s.awake = true ∧ s.fitted k = true ∧ more = [] ∧
        s.handed = pre ++ .startOrder k reason :: post ∧ ∀ x, .startOrder k x ∉ pre) →
    ∃ t, exec cmd s = .next t ∧ s.startsTo t k reason ∧ (∀ c e, cmd = .start c e → s.answers t cmd .ok []) ∧
      s.onlyChanges t (.sense k :: .engine k :: .car :: .notices :: .handed :: more)) ∧
  (∀ (s : State) (k : Engine) (p : PickupState),
    p = (if (s.sense k).selection = .a then (s.sense k).a else (s.sense k).b) →
    (s.admits k = true ↔ s.valid = true ∧ s.writing = false ∧ s.runLine = true ∧ s.emergency = false ∧
      s.limits.inhibit.get k = false ∧ s.limits.stop.get k = false ∧
      (s.level (.iso k) = false ∧ (s.eng k).isoRequest = false) ∧
      ((∃ v sat, p.reading = .good v sat ∧ v < s.cfg.thresholds.stopped) ∨
        (p.reading = .silent ∧ (0 < s.cfg.thresholds.stopped ∨
          ((s.sense k).a.reading = .silent ∧ (s.sense k).b.reading = .silent))))))

/-- START on an engine that is not admitted: the answer by its state, and no effect; BUSY while a write is in flight. A
refused start sets no changed flag (R70 against the words of R155: log entry 30). -/
def Obligations.StartAnsweredByState : Prop :=
  ∀ (s : State) (c : Caller) (e : Byte) (k : Engine), s.takesFor (.start c e) e k = true →
    (s.writing = true → ∃ t, exec (.start c e) s = .next t ∧ s.answers t (.start c e) .busy [] ∧
      s.onlyChanges t answerParts) ∧
    (s.writing = false →
      (s.eng k).state.startPath = true ∨ ((s.eng k).state = .online ∧ (s.eng k).stopPending = false) →
      ∃ t, exec (.start c e) s = .next t ∧ s.answers t (.start c e) .ok [] ∧ s.onlyChanges t answerParts) ∧
    (s.writing = false →
      ((s.eng k).state = .stopped ∧ s.admits k = false) ∨ (s.eng k).state = .isolated ∨ (s.eng k).state = .stopping ∨
        (s.eng k).state = .tripped ∨
        ((s.eng k).stopReason ≠ some .shed ∧
          ((s.eng k).state = .cooldown ∨ ((s.eng k).state = .online ∧ (s.eng k).stopPending = true))) →
      ∃ t, exec (.start c e) s = .next t ∧ s.answers t (.start c e) .wrongState [] ∧ s.onlyChanges t answerParts)

/-- A recall, from RECALL or from START: it cancels a SHED stop pending with notch and setpoint kept, or ends a SHED cooldown
into ONLINE at notch 0; queue, holder and phase of the crank supply stay. -/
def Obligations.RecallCancelsShed : Prop :=
  ∀ (s : State) (k : Engine) (cmd : Instr) (more : List Part), (s.eng k).stopReason = some .shed →
    (∃ c e, cmd = .start c e ∧ s.takesFor cmd e k = true ∧ s.writing = false ∧ more = answerParts) ∨
      (∃ pre post, cmd = .recall k ∧ s.awake = true ∧ s.fitted k = true ∧ more = [] ∧
        s.handed = pre ++ .recall k :: post ∧ .recall k ∉ pre) →
    ((s.eng k).state = .online → (s.eng k).stopPending = true → ∃ t, exec cmd s = .next t ∧
      t.eng k = { s.eng k with stopPending := false, stopReason := none } ∧ .replan (.engine true) ∈ t.handed ∧
      t.cli.notices = s.cli.notices ∧ s.onlyChanges t (.engine k :: .handed :: more)) ∧
    ((s.eng k).state = .cooldown → ∃ t, exec cmd s = .next t ∧ (t.eng k).state = .online ∧
      (t.eng k).stopPending = false ∧ (t.eng k).stopReason = none ∧ (t.eng k).notch = 0 ∧
      (t.eng k).setpoint = s.enRpm 0 ∧ (t.eng k).settled = true ∧ (t.eng k).settledTime = some 0 ∧
      (t.eng k).cooldownTimer = none ∧ (t.eng k).highLoad = (s.eng k).highLoad ∧
      t.cli.notices.changed.get k = true ∧ s.supplyKept t ∧
      s.onlyChanges t (.engine k :: .car :: .notices :: .handed :: more))

/-- A stop order, from STOP or from STOP_ORDER_TAKEN, on a running engine: ONLINE with no stop pending gets its reason and
no load, but by a SHED order only without a run demand; a SHED reason held is replaced by a stronger one; a stronger one held
stays. A SHED order that reaches any other engine, one with a stop pending or a run demand included, is discarded. -/
def Obligations.StopOrderOnRunningEngine : Prop :=
  ∀ (s : State) (k : Engine) (cmd : Instr) (reason : StopReason) (more : List Part),
    (∃ c e, cmd = .stop c e ∧ s.takesFor cmd e k = true ∧ reason = .request ∧ more = .handed :: answerParts) ∨
      (∃ pre post, cmd = .stopOrderTaken k ∧ s.awake = true ∧ s.fitted k = true ∧ more = [.handed] ∧
        s.handed = pre ++ .stopOrder k reason :: post ∧ ∀ x, .stopOrder k x ∉ pre) →
    (∀ c e, cmd = .stop c e → ∃ t, exec cmd s = .next t ∧ s.answers t cmd .ok []) ∧
    ((s.eng k).state = .online → (s.eng k).stopPending = false → reason ≠ .shed ∨ s.limits.run.get k = false →
      ∃ t, exec cmd s = .next t ∧ t.eng k = { s.eng k with stopPending := true, stopReason := some reason } ∧
        t.loadLimit k = 0 ∧ t.cli.notices = s.cli.notices ∧ .replan (.engine true) ∈ t.handed ∧
        s.onlyChanges t (.engine k :: more)) ∧
    (((s.eng k).state = .online ∧ (s.eng k).stopPending = true) ∨ (s.eng k).state = .cooldown →
      (s.eng k).stopReason = some .shed → reason ≠ .shed →
      ∃ t, exec cmd s = .next t ∧ t.eng k = { s.eng k with stopReason := some reason } ∧
        s.onlyChanges t (.engine k :: more)) ∧
    (reason = .shed → (s.eng k).state ≠ .online ∨ (s.eng k).stopPending = true ∨ s.limits.run.get k = true →
      ∃ t, exec cmd s = .next t ∧ s.onlyChanges t more) ∧
    (((s.eng k).state = .online ∧ (s.eng k).stopPending = true) ∨ (s.eng k).state = .cooldown ∨
        (s.eng k).state = .stopping ∨ (s.eng k).state = .stopped ∨ (s.eng k).state = .isolated ∨
        (s.eng k).state = .tripped →
      (s.eng k).stopReason ≠ some .shed → ∃ t, exec cmd s = .next t ∧ s.onlyChanges t more)

/-- STOP on the start path ends the start: from CRANKING or RUNUP into STOPPING with an aborted start, from PRELUBE,
CRANK_WAIT or CRANK_REST into STOPPED or, with the isolation condition holding, ISOLATED. The engine leaves the crank queue,
or releases its grant out of CRANKING with the crank gap to follow, and in SHARED the line follows the wish. A run demand in
force starts the engine again at its entry into STOPPED when admission lets it; otherwise it stays STOPPED. -/
def Obligations.StopEndsStartPath : Prop :=
  ∀ (s : State) (c : Caller) (e : Byte) (k : Engine), s.takesFor (.stop c e) e k = true → s.tableGood →
    ((s.eng k).state = .cranking ∨ (s.eng k).state = .runup → ∃ t, exec (.stop c e) s = .next t ∧ s.abortsTo t k ∧
      s.answers t (.stop c e) .ok [] ∧ s.onlyChanges t (engineParts k ++ answerParts)) ∧
    ((s.eng k).state = .prelube ∨ (s.eng k).state = .crankWait ∨ (s.eng k).state = .crankRest →
      (s.limits.run.get k = false ∨ s.admits k = false → ∃ t, exec (.stop c e) s = .next t ∧ s.abortsTo t k ∧
        s.answers t (.stop c e) .ok [] ∧ s.onlyChanges t (engineParts k ++ answerParts)) ∧
      (s.limits.run.get k = true → s.admits k = true → ∃ t, exec (.stop c e) s = .next t ∧
        s.abortsAndStarts t k answerParts ∧ s.answers t (.stop c e) .ok [] ∧
        s.onlyChanges t (.sense k :: engineParts k ++ answerParts)))

/-- PAIR_HANDED: every fitted engine named takes its pair in the one event; no other field of any record changes, and the
load limit follows at once. -/
def Obligations.PairsTakenTogether : Prop :=
  ∀ (s : State) (pre post : List Event) (handed : PerEngine (Option Pair)), s.awake = true →
    s.handed = pre ++ .pairs handed :: post → (∀ x, .pairs x ∉ pre) →
    ∃ t, exec .pairHanded s = .next t ∧
      (∀ k p, handed.get k = some p → s.fitted k = true → t.eng k = { s.eng k with pair := p }) ∧
      (∀ k, handed.get k = none ∨ s.fitted k = false → t.eng k = s.eng k) ∧
      (∀ k p, handed.get k = some p → s.fitted k = true → (s.eng k).state = .online → (s.eng k).stopPending = false →
        t.loadLimit k = min p.alloc (s.enKw (s.eng k).notch)) ∧
      t.handed = pre ++ post ∧ s.onlyChanges t [.engine .e1, .engine .e2, .engine .e3, .engine .e4, .handed]

/-- The crank relay, fuel and prelube pump of a fitted engine follow its state alone, by the table of R68; fuel is off for
every engine while the configuration is invalid.

The load limit output is the smaller of the allocation in use and EN[n].kW in ONLINE, and 0 in every other state; it is
at most the allocation. -/
def Obligations.OutputsFollowState : Prop :=
  (∀ (s : State) (k : Engine), s.awake = true → s.fitted k = true →
     (s.crankRelay k = true ↔ (s.eng k).state = .cranking) ∧
     (s.fuel k = true ↔ s.valid = true ∧ ((s.eng k).state = .cranking ∨ (s.eng k).state = .runup ∨
       (s.eng k).state = .online ∨ (s.eng k).state = .cooldown)) ∧
     (s.prelubePump k = true ↔ (s.eng k).state = .prelube ∨ (s.eng k).state = .crankWait ∨
       (s.eng k).state = .cranking ∨ (s.eng k).state = .crankRest) ∧
     (s.valid = false → s.setpointOut k = 0) ∧
     (s.valid = true → (s.eng k).state ≠ .online → s.setpointOut k = s.enRpm 0) ∧
     (s.valid = true → (s.eng k).state = .online → s.setpointOut k = (s.eng k).setpoint)) ∧
  (∀ (s : State) (k : Engine), s.awake = true → s.fitted k = true →
     ((s.eng k).state = .online → s.loadLimit k = min (s.eng k).pairInUse.alloc (s.enKw (s.eng k).notch)) ∧
     ((s.eng k).state ≠ .online → s.loadLimit k = 0) ∧ s.loadLimit k ≤ (s.eng k).pairInUse.alloc ∧
     ((s.eng k).stopPending = true → s.loadLimit k = 0))

/-- SETPOINT_UPDATE of an ONLINE engine, ramp and comparison in one event: an unsettled setpoint moves by
ceil(rate × 50 / 1000) toward EN[n].rpm, ending exactly there and settling; a settled one adds 0.05 s to its settled time, up
to 30 s; the engine then settled steps one notch toward its target once its settled time has reached T_up or T_down; a
stop-pending engine settled at notch 0, or settling there at this update, leaves ONLINE for COOLDOWN or STOPPING, and the crank
supply stays. -/
def Obligations.SetpointUpdateRampsAndSettles : Prop :=
  ∀ (s : State) (k : Engine), s.awake = true → s.fitted k = true → (s.eng k).state = .online →
    (∀ m, (s.eng k).settled = true → (s.eng k).settledTime = some m → (s.eng k).stopPending = false ∨ (s.eng k).notch ≠ 0 →
      ∃ t, exec (.setpointUpdate k) s = .next t ∧ s.onlyChanges t [.engine k] ∧
        ((s.eng k).notch < (s.eng k).pairInUse.target → 2 * s.cfg.timing.tUp ≤ min (m + 1) 600 →
          t.eng k = s.notchMoved k ((s.eng k).notch + 1) (s.eng k).setpoint) ∧
        ((s.eng k).pairInUse.target < (s.eng k).notch → 2 * s.cfg.timing.tDown ≤ min (m + 1) 600 →
          t.eng k = s.notchMoved k ((s.eng k).notch - 1) (s.eng k).setpoint) ∧
        ((s.eng k).notch = (s.eng k).pairInUse.target ∨
            ((s.eng k).notch < (s.eng k).pairInUse.target ∧ min (m + 1) 600 < 2 * s.cfg.timing.tUp) ∨
            ((s.eng k).pairInUse.target < (s.eng k).notch ∧ min (m + 1) 600 < 2 * s.cfg.timing.tDown) →
          t.eng k = { s.eng k with settledTime := some (min (m + 1) 600) })) ∧
    (∀ v, (s.eng k).settled = false → s.rampsTo k v → v ≠ s.enRpm (s.eng k).notch →
      ∃ t, exec (.setpointUpdate k) s = .next t ∧ t.eng k = { s.eng k with setpoint := v } ∧ s.onlyChanges t [.engine k]) ∧
    ((s.eng k).settled = false → s.rampsTo k (s.enRpm (s.eng k).notch) → (s.eng k).stopPending = false ∨ (s.eng k).notch ≠ 0 →
      ∃ t, exec (.setpointUpdate k) s = .next t ∧ s.onlyChanges t [.engine k] ∧
        ((s.eng k).notch < (s.eng k).pairInUse.target → s.cfg.timing.tUp = 0 →
          t.eng k = s.notchMoved k ((s.eng k).notch + 1) (s.enRpm (s.eng k).notch)) ∧
        ((s.eng k).pairInUse.target < (s.eng k).notch → s.cfg.timing.tDown = 0 →
          t.eng k = s.notchMoved k ((s.eng k).notch - 1) (s.enRpm (s.eng k).notch)) ∧
        ((s.eng k).notch = (s.eng k).pairInUse.target ∨
            ((s.eng k).notch < (s.eng k).pairInUse.target ∧ 0 < s.cfg.timing.tUp) ∨
            ((s.eng k).pairInUse.target < (s.eng k).notch ∧ 0 < s.cfg.timing.tDown) →
          t.eng k = { s.eng k with
            setpoint := s.enRpm (s.eng k).notch, settled := true, settledTime := some 0 })) ∧
    ((s.eng k).stopPending = true → (s.eng k).notch = 0 → (s.eng k).settled = true ∨ s.rampsTo k (s.enRpm 0) →
      ((s.eng k).highLoad = true → 0 < s.cfg.timing.cooldown → ∃ t, exec (.setpointUpdate k) s = .next t ∧
        (t.eng k).state = .cooldown ∧ (t.eng k).stopReason = (s.eng k).stopReason ∧ (t.eng k).stopPending = false ∧
        (t.eng k).cooldownTimer = some 0 ∧ t.cli.notices.changed.get k = true ∧ s.supplyKept t ∧
        s.onlyChanges t [.engine k, .car, .notices, .handed]) ∧
      ((s.eng k).highLoad = false ∨ s.cfg.timing.cooldown = 0 → ∃ t, exec (.setpointUpdate k) s = .next t ∧
        (t.eng k).state = .stopping ∧ (t.eng k).stopReason = none ∧ (t.eng k).stopTimer = some 0 ∧
        (t.eng k).highLoad = false ∧ t.cli.notices.changed.get k = true ∧ t.stands .warmup k = false ∧ s.supplyKept t ∧
        s.onlyChanges t (engineParts k)))

/-- NOTCH_STEP is the setpoint update at which the comparison steps the notch (the model's choice of what the second row
stands for, log entry 26): with the settled time reaching T_up or T_down at it, one notch toward the target, no longer
settled, and the high-load mark set at the cooldown notch, as SETPOINT_UPDATE does; with no step due, nothing. -/
def Obligations.NotchStepsOneTowardTarget : Prop :=
  ∀ (s : State) (k : Engine) (m : Nat), s.awake = true → s.fitted k = true → (s.eng k).state = .online →
    (s.eng k).settled = true → (s.eng k).settledTime = some m →
    ((s.eng k).notch < (s.eng k).pairInUse.target → 2 * s.cfg.timing.tUp ≤ min (m + 1) 600 →
      ∃ t, exec (.notchStep k) s = .next t ∧ exec (.setpointUpdate k) s = .next t ∧
        t.eng k = s.notchMoved k ((s.eng k).notch + 1) (s.eng k).setpoint ∧ s.onlyChanges t [.engine k]) ∧
    ((s.eng k).pairInUse.target < (s.eng k).notch → 2 * s.cfg.timing.tDown ≤ min (m + 1) 600 →
      ∃ t, exec (.notchStep k) s = .next t ∧ exec (.setpointUpdate k) s = .next t ∧
        t.eng k = s.notchMoved k ((s.eng k).notch - 1) (s.eng k).setpoint ∧ s.onlyChanges t [.engine k]) ∧
    ((s.eng k).notch = (s.eng k).pairInUse.target ∨
        ((s.eng k).notch < (s.eng k).pairInUse.target ∧ min (m + 1) 600 < 2 * s.cfg.timing.tUp) ∨
        ((s.eng k).pairInUse.target < (s.eng k).notch ∧ min (m + 1) 600 < 2 * s.cfg.timing.tDown) →
      exec (.notchStep k) s = .next s)

/-- The ends of the timers that trip: NO_PRELUBE in PRELUBE, RUNUP_FAIL in RUNUP, STOP_FAIL in STOPPING, each in one state
change with the record of R111, and the crank supply follows it.

REST_END brings the engine back into CRANK_WAIT: it joins the queue, in SHARED the line asks for the supply, and where the
supply counts as held with the phase IDLE the grant decision follows; COOLDOWN_END takes it into STOPPING. -/
def Obligations.TimerEndsTripRestAndStop : Prop :=
  (∀ (s : State) (k : Engine) (n : Nat), s.awake = true → s.fitted k = true →
     ((s.eng k).state = .prelube → (s.eng k).prelubeTimer = some n → s.cfg.timing.prelube ≤ n →
       ∃ t, exec (.prelubeTimeout k) s = .next t ∧ s.tripsTo t k (s.eng k) .noPrelube [.trip .noPrelube]) ∧
     ((s.eng k).state = .runup → (s.eng k).runupTimer = some n → s.cfg.timing.runup ≤ n →
       ∃ t, exec (.runupTimeout k) s = .next t ∧ s.tripsTo t k (s.eng k) .runupFail [.trip .runupFail]) ∧
     ((s.eng k).state = .stopping → (s.eng k).stopTimer = some n → s.cfg.timing.stopLimit ≤ n →
       ∃ t, exec (.stopFail k) s = .next t ∧ s.tripsTo t k (s.eng k) .stopFail [.trip .stopFail])) ∧
  (∀ (s : State) (k : Engine) (n : Nat), s.awake = true → s.fitted k = true →
     ((s.eng k).state = .crankRest → (s.eng k).restTimer = some n → s.cfg.timing.rest ≤ n →
       ∃ t, exec (.restEnd k) s = .next t ∧ (t.eng k).state = .crankWait ∧ (t.eng k).restTimer = none ∧
         (t.eng k).attempts = (s.eng k).attempts ∧ (t.eng k).startReason = (s.eng k).startReason ∧
         (s.crankSafe → k ∈ t.car.queue ∨ t.car.holder = some k) ∧ s.supplyJoined t k ∧ t.cli.notices.changed.get k = true ∧
         s.onlyChanges t [.engine k, .car, .notices, .handed]) ∧
     ((s.eng k).state = .cooldown → (s.eng k).cooldownTimer = some n → s.cfg.timing.cooldown ≤ n →
       ∃ t, exec (.cooldownEnd k) s = .next t ∧ s.stopsTo t k))

/-- CRANK_TIMEOUT and SAG_REPORT on a CRANKING engine: a failed attempt with its cause and one attempt fewer; the engine
rests while attempts remain and trips NO_START when none do; the grant is released and the crank gap begins, or with a crank
gap of 0 the phase passes on to IDLE with its grant decision; and in SHARED the line follows the wish and the release. -/
def Obligations.FailedCrankRestsOrTrips : Prop :=
  ∀ (s : State) (k : Engine) (cmd : Instr) (cause : AttemptCause), s.awake = true → s.fitted k = true →
    (s.eng k).state = .cranking → s.car.holder = some k →
    (∃ n, cmd = .crankTimeout k ∧ cause = .crankTimeout ∧ (s.eng k).crankTimer = some n ∧ s.cfg.timing.crank ≤ n) ∨
      (∃ pre post, cmd = .sagReport k ∧ cause = .batterySag ∧ s.handed = pre ++ .sag k :: post ∧ .sag k ∉ pre) →
    (2 ≤ (s.eng k).attempts → ∃ t, exec cmd s = .next t ∧ (t.eng k).state = .crankRest ∧
      (t.eng k).attempts = (s.eng k).attempts - 1 ∧ (t.eng k).lastAttempt = some cause ∧
      (t.eng k).restTimer = some 0 ∧ (t.eng k).crankTimer = none ∧ (t.eng k).startReason = (s.eng k).startReason ∧
      .counted k [.failed] ∈ t.handed ∧ t.cli.notices.changed.get k = true ∧
      (0 < s.cfg.arbiter.crankGap → t.car.holder = none ∧ t.car.phase = .recovery ∧ t.car.gapTimer = some 0) ∧
      s.supplyLeft t k ∧ s.onlyChanges t [.engine k, .car, .notices, .handed]) ∧
    ((s.eng k).attempts = 1 → ∃ t, exec cmd s = .next t ∧
      s.tripsTo t k { s.eng k with attempts := 0, lastAttempt := some cause } .noStart [.failed, .trip .noStart] ∧
      (0 < s.cfg.arbiter.crankGap → t.car.holder = none ∧ t.car.phase = .recovery ∧ t.car.gapTimer = some 0))

/-- ISOLATE and RESTORE are answered OK in every state. On a flag that has the level asked they change nothing, a change of
the isolation switch not yet taken included; else the flag moves, and a change of the isolation condition is acted upon by
the engine's state: coming to hold, it isolates a STOPPED engine and is a stop order ISOLATION to the others; clearing, it
brings an ISOLATED engine to rest in STOPPED, where a run demand in force starts it when admission lets it. The switch is read
as it stands at the request (log entry 29). -/
def Obligations.IsolateAndRestoreMoveCondition : Prop :=
  ∀ (s : State) (c : Caller) (e : Byte) (k : Engine), s.tableGood →
    (s.takesFor (.isolate c e) e k = true → ∃ t, exec (.isolate c e) s = .next t ∧
      s.answers t (.isolate c e) .ok [] ∧ (t.eng k).isoRequest = true ∧
      ((s.eng k).isoRequest = true → s.onlyChanges t answerParts) ∧
      ((s.eng k).isoRequest = false → (s.eng k).isoSeen = false →
        ∀ u, u = s.setEng k { s.eng k with isoRequest := true, isoSeen := true } → u.isolatesTo t k answerParts) ∧
      ((s.eng k).isoRequest = false → (s.eng k).state = .stopped → (s.eng k).isoSeen = false →
        (t.eng k).state = .isolated) ∧
      ((s.eng k).isoSeen = true →
        t.eng k = { s.eng k with isoRequest := true } ∧ s.onlyChanges t (.engine k :: answerParts)) ∧
      (∀ j, j ≠ k → t.eng j = s.eng j) ∧ t.dsl = s.dsl ∧ t.plan = s.plan ∧ t.bsm = s.bsm ∧ t.dct = s.dct ∧
      t.cfs = s.cfs) ∧
    (s.takesFor (.restore c e) e k = true → ∃ t, exec (.restore c e) s = .next t ∧
      s.answers t (.restore c e) .ok [] ∧ (t.eng k).isoRequest = false ∧
      ((s.eng k).isoRequest = false → s.onlyChanges t answerParts) ∧
      ((s.eng k).isoRequest = true → (s.eng k).isoSeen = true → s.level (.iso k) = false →
        ∀ u, u = s.setEng k { s.eng k with isoRequest := false, isoSeen := false } → u.returnsTo t k answerParts) ∧
      ((s.eng k).isoRequest = true → (s.eng k).state = .isolated → (s.eng k).isoSeen = true → s.level (.iso k) = false →
        s.limits.run.get k = false → (t.eng k).state = .stopped) ∧
      (s.level (.iso k) = true → (s.eng k).isoSeen = true →
        t.eng k = { s.eng k with isoRequest := false } ∧ s.onlyChanges t (.engine k :: answerParts)) ∧
      (∀ j, j ≠ k → t.eng j = s.eng j) ∧ t.dsl = s.dsl ∧ t.plan = s.plan ∧ t.bsm = s.bsm ∧ t.dct = s.dct ∧
      t.cfs = s.cfs)

/-- SET_HOLD replaces the hold point of an engine not held, or held at the very point; of an engine held elsewhere than the
new point it releases it, on into the next state when the step's condition holds, else on in its state with its timer
counting (log entry 34 for a switch whose opening is not yet taken).

STEP: the rows of its table; an engine stepped past BEFORE_CRANK is queued or granted where the crank supply was safe. -/
def Obligations.HoldPointsHoldAndPass : Prop :=
  (∀ (s : State) (c : Caller) (e h : Byte) (k : Engine) (p : HoldPoint), s.takesFor (.setHold c e h) e k = true →
     holdField h = some p →
     ((s.eng k).held = false → ∃ t, exec (.setHold c e h) s = .next t ∧ s.answers t (.setHold c e h) .ok [] ∧
       t.eng k = { s.eng k with holdPoint := p } ∧ s.onlyChanges t (.engine k :: answerParts)) ∧
     ((s.eng k).held = true → ((s.eng k).state = .prelube ∧ p = .beforeCrank) ∨ ((s.eng k).state = .runup ∧ p = .beforeOnline) →
       ∃ t, exec (.setHold c e h) s = .next t ∧ s.answers t (.setHold c e h) .ok [] ∧
         t.eng k = { s.eng k with holdPoint := p } ∧ s.onlyChanges t (.engine k :: answerParts)) ∧
     ((s.eng k).held = true → (s.eng k).state = .prelube → p ≠ .beforeCrank →
       ∃ t, exec (.setHold c e h) s = .next t ∧ s.answers t (.setHold c e h) .ok [] ∧ (t.eng k).holdPoint = p ∧
         (t.eng k).held = false ∧ (t.eng k).state = (if s.lubeMade k then .crankWait else .prelube) ∧
         (s.lubeMade k = false → (∀ n, (s.eng k).prelubeTimer = some n → (t.eng k).prelubeTimer = some n) ∧
           ((s.eng k).prelubeTimer = none → (t.eng k).prelubeTimer = some 0)) ∧
         (s.lubeMade k = true → s.supplyJoined t k) ∧ (s.lubeMade k = false → t.car = s.car) ∧
         s.onlyChanges t (.engine k :: .car :: .notices :: .handed :: answerParts)) ∧
     ((s.eng k).held = true → (s.eng k).state = .runup → p ≠ .beforeOnline →
       ∃ t, exec (.setHold c e h) s = .next t ∧ s.answers t (.setHold c e h) .ok [] ∧ (t.eng k).holdPoint = p ∧
         (t.eng k).held = false ∧ (t.eng k).state = (if s.onlineTest k then .online else .runup) ∧
         (s.onlineTest k = false → (t.eng k).runupTimer = some 0 ∧ t.car = s.car) ∧
         (s.onlineTest k = true → .counted k [.start] ∈ t.handed ∧ s.supplyKept t) ∧
         s.onlyChanges t (.engine k :: .car :: .notices :: .handed :: answerParts))) ∧
  (∀ (s : State) (c : Caller) (e : Byte) (k : Engine), s.takesFor (.step c e) e k = true →
     ((s.eng k).held = false ∨
         ((s.eng k).state = .prelube ∧ s.lubeMade k = false) ∨ ((s.eng k).state = .runup ∧ s.onlineTest k = false) →
       ∃ t, exec (.step c e) s = .next t ∧ s.answers t (.step c e) .wrongState [] ∧ s.onlyChanges t answerParts) ∧
     ((s.eng k).held = true → (s.eng k).state = .prelube → s.lubeMade k = true → ∃ t, exec (.step c e) s = .next t ∧
       s.answers t (.step c e) .ok [] ∧ (t.eng k).state = .crankWait ∧ (t.eng k).held = false ∧
       (t.eng k).holdPoint = (s.eng k).holdPoint ∧ (s.crankSafe → k ∈ t.car.queue ∨ t.car.holder = some k) ∧
       s.supplyJoined t k ∧ s.onlyChanges t (.engine k :: .car :: .notices :: .handed :: answerParts)) ∧
     ((s.eng k).held = true → (s.eng k).state = .runup → s.onlineTest k = true → ∃ t, exec (.step c e) s = .next t ∧
       s.answers t (.step c e) .ok [] ∧ (t.eng k).state = .online ∧ (t.eng k).held = false ∧ (t.eng k).notch = 0 ∧
       (t.eng k).holdPoint = (s.eng k).holdPoint ∧ .counted k [.start] ∈ t.handed ∧
       s.supplyKept t ∧ s.onlyChanges t (.engine k :: .car :: .notices :: .handed :: answerParts)))

/-- ACK_TRIP: refused on an engine not TRIPPED, still turning, or tripped EMERGENCY with the line asserted; else the engine
comes to rest in STOPPED, or ISOLATED with the isolation condition holding, and in STOPPED a run demand in force starts it at
once when admission lets it. That
ACK_TRIP may come before the COUNTED_EVENT of the trip, and the start before its LOCKOUT, is log entry 41. -/
def Obligations.AckTripReturnsEngineAtRest : Prop :=
  ∀ (s : State) (c : Caller) (e : Byte) (k : Engine), s.takesFor (.ackTrip c e) e k = true → s.tableGood →
    ((s.eng k).state ≠ .tripped ∨ s.atRest k = false ∨ ((s.eng k).tripCause = some .emergency ∧ s.emergency = true) →
      ∃ t, exec (.ackTrip c e) s = .next t ∧ s.answers t (.ackTrip c e) .wrongState [] ∧ s.onlyChanges t answerParts) ∧
    ((s.eng k).state = .tripped → s.atRest k = true → (s.eng k).tripCause ≠ some .emergency ∨ s.emergency = false →
      ∃ t, exec (.ackTrip c e) s = .next t ∧ s.answers t (.ackTrip c e) .ok [] ∧ s.restsTo t k (s.admits k = true) ∧
        s.onlyChanges t (.sense k :: engineParts k ++ answerParts) ∧
        (s.isoCond k = true ∨ s.limits.run.get k = false →
          (t.eng k).state = (if s.isoCond k then .isolated else .stopped) ∧ s.onlyChanges t (engineParts k ++ answerParts)))

/-- READ_ENGINE answers the 48-byte report, every field of it in its order, and clears that engine's changed flag alone.

READ_STATUS answers the 36-byte report, every field of it in its order, and clears the five locomotive flags, never a changed
flag.

READ_PLAN answers the 35-byte report and changes nothing: D, the cap, the engine in a staging start and the load limits as
they stand, the rest as the plan of the last re-plan and count holds it (log entry 38). -/
def Obligations.ReportsAnswered : Prop :=
  (∀ (s : State) (c : Caller) (e : Byte) (k : Engine) (r : EngineRec) (x : Sensing) (speed : Reading → List Byte),
     s.takesFor (.readEngine c e) e k = true → r = s.eng k → x = s.sense k →
     speed .notMeasured = [0xFF, 0xFF] → speed .silent = [0, 0] → (∀ v sat, speed (.good v sat) = be16 v) →
     ∃ t p, exec (.readEngine c e) s = .next t ∧ s.answers t (.readEngine c e) .ok p ∧ p.length = 48 ∧
       p.take 16 = [
           codeIn 1 [.isolated, .stopped, .prelube, .crankWait, .cranking, .crankRest, .runup, .online, .cooldown,
             .stopping, .tripped] r.state,
           codeIn 0 [none, some .staging, some .request, some .runDemand] r.startReason, bit r.stopPending,
           codeIn 0 [none, some .shed, some .request, some .stopDemand, some .runOff, some .isolation] r.stopReason,
           codeIn 0 [none, some .noPrelube, some .noStart, some .runupFail, some .overspeed, some .lowLube,
             some .overheat, some .noSpeedSignal, some .stopFail, some .emergency] r.tripCause,
           codeIn 0 [none, some .fired, some .crankTimeout, some .batterySag, some .falseStart] r.lastAttempt,
           byte r.notch, byte r.pairInUse.target] ++ be16 r.pairInUse.alloc ++ be16 (s.loadLimit k) ++
         be16 (s.setpointOut k) ++ [byte r.attempts, codeIn 1 [.none, .beforeCrank, .beforeOnline] r.holdPoint] ∧
       (p.drop 16).take 5 = [bit r.held, bit r.highLoad, bit r.settled] ++ be16 (r.settledTime.getD 0) ∧
       (p.drop 21).take 8 = [bit r.isoRequest, bit (s.level (.iso k)), byte (s.limits.ceiling.get k),
         bit (s.limits.inhibit.get k), bit (s.limits.run.get k), bit (s.limits.stop.get k),
         if k ∈ s.car.queue then byte (s.car.queue.idxOf k + 1) else 0, bit (decide (s.car.holder = some k))] ∧
       (∀ n y, (n = 29 ∧ y = x.a.reading) ∨ (n = 33 ∧ y = x.b.reading) → (p.drop n).take 2 = speed y ∧
         (y = .notMeasured → p.getD (n + 2) 0 = 0 ∧ p.getD (n + 3) 0 = 0) ∧
         (∀ v sat, y = .good v sat → p.getD (n + 2) 0 = 1 ∧ p.getD (n + 3) 0 = bit sat) ∧
         (y = .silent → p.getD (n + 2) 0 = 2 ∧ p.getD (n + 3) 0 = 0)) ∧
       (x.selection = .a → p.getD 37 0 = 1 ∧ (p.drop 38).take 2 = speed x.a.reading) ∧
       (x.selection = .b → p.getD 37 0 = 2 ∧ (p.drop 38).take 2 = speed x.b.reading) ∧
       p.getD 40 0 = bit x.degraded ∧ p.getD 41 0 = bit x.restored ∧
       p.getD 42 0 = codeIn 0 [none, some .a, some .b] x.failed ∧
       (x.coolant = none → (p.drop 43).take 2 = [0x7F, 0xFF]) ∧
       (∀ y : Int, x.coolant = some y → -32768 ≤ y → y ≤ 32767 → (p.drop 43).take 2 = be16 (y % 65536).toNat) ∧
       p.getD 45 0 = (if x.sensorGood then 1 else 2) ∧ p.getD 46 0 = bit (decide (x.overCount = 3)) ∧
       p.getD 47 0 = bit x.warmed ∧
       t.cli.notices = { s.cli.notices with changed := s.cli.notices.changed.set k false } ∧
       s.onlyChanges t (.notices :: answerParts)) ∧
  (∀ (s : State) (c : Caller) (engineAt : Option Engine → Byte),
     engineAt none = 0 → (∀ k, engineAt (some k) = byte k.number) →
     (s.takes (.readStatus c) = true → ∃ t p, exec (.readStatus c) s = .next t ∧ s.answers t (.readStatus c) .ok p ∧
       p.length = 36 ∧
       p.take 12 = [codeIn 0 [none, some .powerOn, some .supplyDip, some .restart] s.cfs.cause, bit s.valid,
         bit s.writing, bit s.runLine, bit s.emergency, bit (decide (s.dsl.source = .link)), byte s.dsl.demand,
         byte s.dsl.decoded, byte s.dsl.linkDemand, bit s.dsl.lapsed, bit s.dsl.fault,
         byte ((List.range' 17 32).filter fun n => (slotAt s.table n).live).length] ∧
       (p.drop 12).take 7 = [codeIn 1 [.idle, .granted, .recovery] s.car.phase, engineAt s.car.holder,
         byte s.car.queue.length, engineAt s.car.queue[0]?, engineAt s.car.queue[1]?, engineAt s.car.queue[2]?,
         engineAt s.car.queue[3]?] ∧
       (s.car.phase ≠ .recovery → (p.drop 19).take 2 = [0, 0]) ∧
       (∀ n, s.car.phase = .recovery → s.car.gapTimer = some n → (p.drop 19).take 2 = be16 (s.cfg.arbiter.crankGap - n)) ∧
       (p.drop 21).take 4 = [bit (decide (s.cfg.arbiter.sharing = .shared)),
         codeIn 1 [.quiet, .asking, .held, .withdrawn, .backoff] s.car.line, bit s.apuReq, bit (s.level .gnt)] ∧
       (∀ n y, (n = 25 ∧ y = s.bsm.sample) ∨ (n = 31 ∧ y = s.bsm.crankMin) →
         (y = none → (p.drop n).take 2 = [0xFF, 0xFF]) ∧ ∀ v, y = some v → (p.drop n).take 2 = be16 v) ∧
       (p.drop 27).take 4 = [byte s.bsm.low, byte s.bsm.high, byte s.bsm.sag,
         codeIn 1 [.idle, .granted, .recovery] s.bsm.phase] ∧
       p.getD 33 0 = bit s.batteryLow ∧
       (∀ n, (p.getD 34 0).getLsbD n = [s.cli.notices.expired, s.cli.notices.resetSeen, s.cli.notices.trainlineFault,
         s.cli.notices.demandLapsed, s.cli.notices.powerShort].getD n false) ∧
       (∀ n, (p.getD 35 0).getLsbD n = (Engine.all.map s.cli.notices.changed.get).getD n false) ∧
       t.cli.notices = ⟨s.cli.notices.changed, false, false, false, false, false⟩ ∧
       s.onlyChanges t (.notices :: answerParts)) ∧
     (s.takes (.readPlan c) = true → ∃ t p, exec (.readPlan c) s = .next t ∧ s.answers t (.readPlan c) .ok p ∧
       p.length = 35 ∧ p.take 3 = byte s.dsl.demand :: be16 s.plan.p ∧
       (p.drop 3).take 3 = (match s.limits.cap with
         | none => [0, 0, 0]
         | some v => 1 :: be16 v) ∧
       (p.drop 6).take 3 = be16 s.plan.co ++ [byte s.onlineCount] ∧
       (∀ n y d, (n = 9 ∧ y = s.plan.startTimer ∧ d = s.cfg.staging.startDwell) ∨
           (n = 11 ∧ y = s.plan.shedTimer ∧ d = s.cfg.staging.shedDwell) →
         (y = none → (p.drop n).take 2 = [0xFF, 0xFF]) ∧ ∀ m, y = some m → (p.drop n).take 2 = be16 (d - m)) ∧
       p.getD 13 0 = engineAt s.stagingEngine ∧ p.getD 14 0 = bit s.plan.short ∧
       (∀ k, (p.drop (15 + 5 * (k.number - 1))).take 5 = if s.fitted k
         then be16 (s.plan.pairs.get k).alloc ++ [byte (s.plan.pairs.get k).target] ++ be16 (s.loadLimit k)
         else [0, 0, 0, 0, 0]) ∧
       s.onlyChanges t answerParts))

/-! ## Cranking supply (chapter 6) -/

/-- CRANK_GRANT_TAKEN by the holder: from CRANK_WAIT into CRANKING with the crank timer at 0 and the relay on; an engine that
has left CRANK_WAIT releases the grant unused: the phase is IDLE with no crank gap, a line WITHDRAWN enters BACKOFF, the line
follows the wish, and the next uninhibited engine of the queue is granted when the supply counts as held. An engine that left
CRANK_WAIT and is back there while still the holder cranks on that grant (the model's reading, log entry 10). -/
def Obligations.GrantTakenCranksOrReleases : Prop :=
  ∀ (s : State) (k : Engine) (pre post : List Event), s.awake = true → s.fitted k = true → s.handed = pre ++ .grant k :: post →
    .grant k ∉ pre → s.car.holder = some k →
    ((s.eng k).state = .crankWait → ∃ t, exec (.crankGrantTaken k) s = .next t ∧
      (t.eng k).state = .cranking ∧ (t.eng k).crankTimer = some 0 ∧ (t.eng k).attempts = (s.eng k).attempts ∧
      (t.eng k).startReason = (s.eng k).startReason ∧ t.car.holder = some k ∧ t.car.phase = s.car.phase ∧
      s.supplyKept t ∧ t.crankRelay k = true ∧ t.cli.notices.changed.get k = true ∧
      s.onlyChanges t [.engine k, .car, .notices, .handed]) ∧
    ((s.eng k).state ≠ .crankWait → (s.eng k).state ≠ .cranking →
      ∃ t, exec (.crankGrantTaken k) s = .next t ∧ s.supplyFreed t ∧ s.onlyChanges t [.car, .handed])

/-- GAP_END: with the gap timer at the crank gap, RECOVERY ends in IDLE with a grant decision: the oldest uninhibited engine
of the queue is granted when the supply counts as held, and old sag reports of it are dropped (log entry 11).

REREQUEST_TIMER_END in BACKOFF: ASKING, the request asserted, when the arbiter wants the supply (an engine queued, a holder,
or with the park option an engine in PRELUBE or CRANK_REST); QUIET when it does not. The timer stops. -/
def Obligations.ArbiterTimersEnd : Prop :=
  (∀ (s : State) (n : Nat), s.awake = true → s.car.phase = .recovery → s.car.gapTimer = some n →
     s.cfg.arbiter.crankGap ≤ n →
     ((∀ k ∈ s.car.queue, s.limits.inhibit.get k = true) ∨
         (s.cfg.arbiter.sharing = .shared ∧ s.car.line ≠ .held) → ∃ t, exec .gapEnd s = .next t ∧
       t.car = { s.car with phase := .idle, gapTimer := none } ∧ t.handed = s.handed ++ [.phase .idle none] ∧
       s.onlyChanges t [.car, .handed]) ∧
     (∀ k, s.car.queue.find? (fun j => !s.limits.inhibit.get j) = some k →
       s.cfg.arbiter.sharing = .exclusive ∨ s.car.line = .held → ∃ t, exec .gapEnd s = .next t ∧
       t.car = { s.car with
         phase := .granted, gapTimer := none, queue := s.car.queue.erase k, holder := some k } ∧
       t.handed = s.handed.filter (fun e => e ≠ .sag k) ++ [.phase .idle none, .phase .granted (some k), .grant k] ∧
       s.onlyChanges t [.car, .handed])) ∧
  (∀ (s : State) (n : Nat), s.awake = true → s.car.line = .backoff → s.car.rerequest = some n →
     s.cfg.arbiter.rerequest ≤ n →
     (s.wantsSupply → ∃ t, exec .rerequestTimerEnd s = .next t ∧
       t.car = { s.car with line := .asking, rerequest := none } ∧ t.apuReq = true ∧ s.onlyChanges t [.car]) ∧
     (¬ s.wantsSupply → ∃ t, exec .rerequestTimerEnd s = .next t ∧
       t.car = { s.car with line := .quiet, rerequest := none } ∧ t.apuReq = false ∧ s.onlyChanges t [.car]))

/-- Every step keeps the crank supply safe: an engine is CRANKING only as the holder, and there is a holder exactly while
the phase is GRANTED; and in a safe state at most one crank relay is energised.

Every step keeps the crank queue good: each engine once, and exactly the fitted engines in CRANK_WAIT other than the holder;
and every step keeps the fitted engines at rest while a configuration write is in flight, on which the queue rests at an
apply. Every step keeps the line in agreement with the wish: QUIET in EXCLUSIVE; in SHARED QUIET only with nothing wanted,
ASKING and HELD only with the supply wanted, WITHDRAWN only with a holder, and the re-request timer running exactly in
BACKOFF. -/
def Obligations.StepKeepsCrankSafe : Prop :=
  (∀ s t : State, s.crankSafe → step s = .next t → t.crankSafe) ∧
  (∀ (s : State) (j k : Engine), s.crankSafe → s.crankRelay j = true → s.crankRelay k = true → j = k) ∧
  (∀ s t : State, s.crankSafe → s.writeResting → s.queueGood → step s = .next t → t.queueGood) ∧
  (∀ s t : State, s.writeResting → step s = .next t → t.writeResting) ∧
  (∀ s t : State, s.lineGood → step s = .next t → t.lineGood)

/-! ## Engine sensing (chapter 7) -/

/-- The reading of a window: SILENT with no pulse, else floor(pulses × 60,000 / (teeth × 200)) up to 3000, where it
saturates.

PICKUP_PULSE adds one pulse to the interval being counted. SPEED_UPDATE closes the interval of both pickups and forms their
readings from the last four, at the first update from every pulse counted so far (how those stand in the four intervals is a
free value: log entry 5); and with an engine ISOLATED, TRIPPED or STOPPED nothing of the engine changes, but that the first
update of a STOPPED one is an event at which a run demand in force starts it, when admission lets it at the speed reported
(that every unmeasured STOPPED engine counts as newly fitted there is log entry 17). The limits are those of the table
wherever a start is spoken of, since a failover at the same update recomputes them. -/
def Obligations.SpeedFormedFromPulses : Prop :=
  (∀ pulses teeth : Nat, 0 < teeth →
     (pulses = 0 → readingOf pulses teeth = .silent) ∧
     (0 < pulses → pulses * 60000 < 3000 * (teeth * 200) →
       readingOf pulses teeth = .good (pulses * 60000 / (teeth * 200)) false) ∧
     (3000 * (teeth * 200) ≤ pulses * 60000 → readingOf pulses teeth = .good 3000 true)) ∧
  (∀ (s : State) (k : Engine), s.awake = true → s.fitted k = true →
     (∃ t, exec (.pickupPulse k .a) s = .next t ∧
       t.sense k = { s.sense k with a := { (s.sense k).a with current := (s.sense k).a.current + 1 } } ∧
       s.onlyChanges t [.sense k]) ∧
     (∃ t, exec (.pickupPulse k .b) s = .next t ∧
       t.sense k = { s.sense k with b := { (s.sense k).b with current := (s.sense k).b.current + 1 } } ∧
       s.onlyChanges t [.sense k])) ∧
  (∀ (s : State) (k : Engine) (x : Sensing), s.awake = true → s.fitted k = true → x = s.sense k →
     ∃ t, exec (.speedUpdate k) s = .next t ∧
       (x.a.reading ≠ .notMeasured →
         (t.sense k).a = ⟨0, x.a.w2, x.a.w3, x.a.w4, x.a.current,
           readingOf (x.a.w2 + x.a.w3 + x.a.w4 + x.a.current) s.cfg.roster.teeth⟩ ∧
         (t.sense k).b = ⟨0, x.b.w2, x.b.w3, x.b.w4, x.b.current,
           readingOf (x.b.w2 + x.b.w3 + x.b.w4 + x.b.current) s.cfg.roster.teeth⟩) ∧
       (∀ y y', (y = x.a ∧ y' = (t.sense k).a) ∨ (y = x.b ∧ y' = (t.sense k).b) → x.a.reading = .notMeasured →
         y'.current = 0 ∧ y'.w1 + y'.w2 + y'.w3 + y'.w4 = y.current ∧ y'.reading = readingOf y.current s.cfg.roster.teeth) ∧
       (t.sense k).coolant = x.coolant ∧ (t.sense k).sensorGood = x.sensorGood ∧ (t.sense k).hotCount = x.hotCount ∧
       (t.sense k).coolCount = x.coolCount ∧ (t.sense k).overCount = x.overCount ∧
       ((s.eng k).state = .isolated ∨ (s.eng k).state = .tripped →
         (t.sense k).warmed = x.warmed ∧ (t.sense k).warmCount = x.warmCount ∧ s.onlyChanges t (s.updateParts k)) ∧
       (s.tableGood → (s.eng k).state = .stopped →
         x.a.reading ≠ .notMeasured ∨ s.limits.run.get k = false ∨ ¬ (s.startAllowed k ∧ s.foundAtRest k) →
         (t.sense k).warmed = x.warmed ∧ (t.sense k).warmCount = x.warmCount ∧ s.onlyChanges t (s.updateParts k)) ∧
       (s.tableGood → (s.eng k).state = .stopped → x.a.reading = .notMeasured → s.limits.run.get k = true → s.startAllowed k →
         s.foundAtRest k → s.startsTo t k .runDemand ∧ s.onlyChanges t (s.updateParts k ++ engineParts k)))

/-- SPEED_UPDATE with the selected pickup SILENT while the other turns at 100 rpm or more: the failover, or the fail-back,
whatever the engine's state: the selection moves, the pickup left is the failed one, degraded is set and restored cleared, and
PICKUP is posted with the degraded ceiling, or left as it stands when it is LIVE. With no failover the selection stays, and
restored is set when the failed pickup of a degraded engine is GOOD.

CLEAR_PICKUP_FAULT: both pickups GOOD at 100 rpm or more and within a tenth of the higher clear the degraded status and
retire PICKUP, the selection kept; otherwise WRONG_STATE, before the first speed update too (the model's choice, log entry
35). -/
def Obligations.PickupsFailOverAndClear : Prop :=
  (∀ (s : State) (k : Engine), s.awake = true → s.fitted k = true → s.tableGood →
     (∀ p, p = (s.sense k).selection → (s.failoverDue k = true ↔ s.formed k p = .silent ∧
       ∃ v sat, s.formed k (otherPickup p) = .good v sat ∧ 100 ≤ v)) ∧
     (s.failoverDue k = true → ∃ t, exec (.speedUpdate k) s = .next t ∧
       (t.sense k).selection = otherPickup (s.sense k).selection ∧ (t.sense k).failed = some (s.sense k).selection ∧
       (t.sense k).degraded = true ∧ (t.sense k).restored = false ∧ t.stands .pickup k = true ∧
       (s.stands .pickup k = false → slotAt t.table (4 * (k.number - 1) + 2) =
         ⟨nextGen (slotAt s.table (4 * (k.number - 1) + 2)).gen, some
           { owner := .internal .pickup, kind := .notchCeiling, scope := .engines (only k)
             value := some s.cfg.thresholds.degradedCeiling, expiry := none }⟩) ∧
       (s.stands .pickup k = true →
         slotAt t.table (4 * (k.number - 1) + 2) = slotAt s.table (4 * (k.number - 1) + 2)) ∧
       (∀ n, n ≠ 4 * (k.number - 1) → n ≠ 4 * (k.number - 1) + 2 → slotAt t.table n = slotAt s.table n) ∧
       t.limits = resolve t.table ∧ (∀ e ∈ s.limitsHanded s.limits t.limits, e ∈ t.handed) ∧
       (∀ j, j ≠ k → t.sense j = s.sense j ∧ t.eng j = s.eng j) ∧ t.lic = s.lic ∧ t.dsl = s.dsl ∧ t.plan = s.plan ∧
       t.bsm = s.bsm ∧ t.dct = s.dct ∧ t.cfs = s.cfs) ∧
     (s.failoverDue k = false → ∃ t, exec (.speedUpdate k) s = .next t ∧
       (t.sense k).selection = (s.sense k).selection ∧ (t.sense k).failed = (s.sense k).failed ∧
       (t.sense k).degraded = (s.sense k).degraded ∧ t.stands .pickup k = s.stands .pickup k ∧
       ((t.sense k).restored = true ↔ (s.sense k).restored = true ∨
         ((s.sense k).degraded = true ∧ ∃ p v sat, (s.sense k).failed = some p ∧ s.formed k p = .good v sat)))) ∧
  (∀ (s : State) (c : Caller) (e : Byte) (k : Engine), s.takesFor (.clearPickupFault c e) e k = true →
     (∀ a b x y, (s.sense k).a.reading = .good a x → (s.sense k).b.reading = .good b y → 100 ≤ a → 100 ≤ b →
       10 * (max a b - min a b) ≤ max a b → ∃ t, exec (.clearPickupFault c e) s = .next t ∧
       s.answers t (.clearPickupFault c e) .ok [] ∧
       t.sense k = { s.sense k with degraded := false, restored := false, failed := none } ∧
       t.stands .pickup k = false ∧
       (s.tableGood → t.limits = resolve t.table ∧ t.handed = s.handed ++ s.limitsHanded s.limits t.limits) ∧
       s.onlyChanges t (.sense k :: .table :: .limits :: .handed :: answerParts)) ∧
     ((∀ a b x y, (s.sense k).a.reading = .good a x → (s.sense k).b.reading = .good b y →
         a < 100 ∨ b < 100 ∨ max a b < 10 * (max a b - min a b)) → ∃ t, exec (.clearPickupFault c e) s = .next t ∧
       s.answers t (.clearPickupFault c e) .wrongState [] ∧ s.onlyChanges t answerParts))

/-- What the sequencer makes of a speed report, on either selection, degraded or not, at a failover and at the first update
too (where the split of the pulses is a free value: log entry 5). Either pickup over the overspeed trip trips a CRANKING,
RUNUP, ONLINE, COOLDOWN or STOPPING engine, and it is taken before the other tests of the same report (the model's choice, log
entry 8).

With neither over: a CRANKING engine at fire speed fires, and a cold one not yet warmed gets its WARMUP entry; both pickups
SILENT trip RUNUP, ONLINE and COOLDOWN; in RUNUP a speed below fire speed is a false start, which costs an attempt and with
the last trips NO_START, and one that holds the online test takes the engine ONLINE or holds it; STOPPING below the stopped
threshold, or SILENT, comes to rest, where a run demand in force starts it at once when admission lets it; anything else has
no effect. -/
def Obligations.SpeedReportFiresTripsAndRests : Prop :=
  (∀ (s : State) (k : Engine), s.awake = true → s.fitted k = true → s.tableGood →
    (s.formed k .a).over s.cfg.thresholds.overspeed = true ∨ (s.formed k .b).over s.cfg.thresholds.overspeed = true →
    (s.eng k).state = .cranking ∨ (s.eng k).state = .runup ∨ (s.eng k).state = .online ∨ (s.eng k).state = .cooldown ∨
      (s.eng k).state = .stopping →
    ∃ t, exec (.speedUpdate k) s = .next t ∧
      s.tripsWith t k (s.eng k) .overspeed [.trip .overspeed] (s.updateParts k)) ∧
  (∀ (r : Reading) (limit : Nat), r.over limit = true ↔ ∃ v sat, r = .good v sat ∧ (limit < v ∨ sat = true)) ∧
  (∀ (s : State) (k : Engine), s.awake = true → s.fitted k = true → s.tableGood →
    (s.formed k .a).over s.cfg.thresholds.overspeed = false → (s.formed k .b).over s.cfg.thresholds.overspeed = false →
    ((s.eng k).state = .cranking → s.cfg.thresholds.fireSpeed ≤ s.reportedSpeed k → ∃ t, exec (.speedUpdate k) s = .next t ∧
      (t.eng k).state = .runup ∧ (t.eng k).lastAttempt = some .fired ∧ (t.eng k).runupTimer = some 0 ∧
      (t.eng k).crankTimer = none ∧ (t.eng k).attempts = (s.eng k).attempts ∧ t.cli.notices.changed.get k = true ∧
      s.supplyLeft t k ∧
      (∀ x, (s.sense k).warmed = false → (s.sense k).sensorGood = true → (s.sense k).coolant = some x →
        x < s.cfg.thresholds.warm → s.stands .warmup k = false →
        slotAt t.table (4 * (k.number - 1)) = ⟨nextGen (slotAt s.table (4 * (k.number - 1))).gen, some
          { owner := .internal .warmup, kind := .notchCeiling, scope := .engines (only k)
            value := some s.cfg.thresholds.warmupCeiling, expiry := none }⟩ ∧
        (∀ n, n ≠ 4 * (k.number - 1) → s.failoverDue k = false ∨ n ≠ 4 * (k.number - 1) + 2 →
          slotAt t.table n = slotAt s.table n) ∧ t.limits = resolve t.table ∧
        (t.sense k).warmCount = 0) ∧
      ((s.sense k).warmed = true ∨ (s.sense k).sensorGood = false ∨ (s.sense k).coolant = none ∨
          (∃ x, (s.sense k).coolant = some x ∧ s.cfg.thresholds.warm ≤ x) ∨ s.stands .warmup k = true →
        slotAt t.table (4 * (k.number - 1)) = slotAt s.table (4 * (k.number - 1)) ∧
          (s.failoverDue k = false → t.table = s.table ∧ t.limits = s.limits)) ∧
      s.onlyChanges t (s.updateParts k ++ engineParts k)) ∧
    ((s.eng k).state = .runup ∨ (s.eng k).state = .online ∨ (s.eng k).state = .cooldown → s.bothFormedSilent k →
      ∃ t, exec (.speedUpdate k) s = .next t ∧
        s.tripsWith t k (s.eng k) .noSpeedSignal [.trip .noSpeedSignal] (s.updateParts k)) ∧
    ((s.eng k).state = .runup → ¬ s.bothFormedSilent k → s.reportedSpeed k < s.cfg.thresholds.fireSpeed →
      (2 ≤ (s.eng k).attempts → ∃ t, exec (.speedUpdate k) s = .next t ∧ (t.eng k).state = .crankRest ∧
        (t.eng k).attempts = (s.eng k).attempts - 1 ∧ (t.eng k).lastAttempt = some .falseStart ∧
        (t.eng k).restTimer = some 0 ∧ (t.eng k).runupTimer = none ∧ (t.eng k).held = false ∧
        (t.eng k).startReason = (s.eng k).startReason ∧ .counted k [.failed] ∈ t.handed ∧
        t.cli.notices.changed.get k = true ∧ s.supplyKept t ∧
        s.onlyChanges t (s.updateParts k ++ [.engine k, .car, .notices, .handed])) ∧
      ((s.eng k).attempts = 1 → ∃ t, exec (.speedUpdate k) s = .next t ∧
        s.tripsWith t k { s.eng k with attempts := 0, lastAttempt := some .falseStart } .noStart
          [.failed, .trip .noStart] (s.updateParts k))) ∧
    ((s.eng k).state = .runup → ¬ s.bothFormedSilent k → s.cfg.thresholds.fireSpeed ≤ s.reportedSpeed k →
      ((s.eng k).held = false → s.lubeMade k = true → s.enRpm 0 ≤ s.reportedSpeed k + s.cfg.thresholds.idleBand →
        ∃ t, exec (.speedUpdate k) s = .next t ∧ s.passesOnlineTest t k ∧
          s.onlyChanges t (s.updateParts k ++ [.engine k, .car, .notices, .handed])) ∧
      ((s.eng k).held = true ∨ s.lubeMade k = false ∨ s.reportedSpeed k + s.cfg.thresholds.idleBand < s.enRpm 0 →
        ∃ t, exec (.speedUpdate k) s = .next t ∧ s.onlyChanges t (s.updateParts k))) ∧
    ((s.eng k).state = .stopping → s.foundAtRest k → ∃ t, exec (.speedUpdate k) s = .next t ∧
      s.restsTo t k (s.startAllowed k) ∧ (t.eng k).stopTimer = none ∧
      (s.isoCond k = true ∨ s.limits.run.get k = false →
        (t.eng k).state = (if s.isoCond k then .isolated else .stopped)) ∧
      s.onlyChanges t (s.updateParts k ++ engineParts k)) ∧
    ((s.eng k).state = .prelube ∨ (s.eng k).state = .crankWait ∨ (s.eng k).state = .crankRest ∨
        (((s.eng k).state = .online ∨ (s.eng k).state = .cooldown) ∧ ¬ s.bothFormedSilent k) ∨
        ((s.eng k).state = .cranking ∧ s.reportedSpeed k < s.cfg.thresholds.fireSpeed) ∨
        ((s.eng k).state = .stopping ∧ ¬ s.foundAtRest k) →
      ∃ t, exec (.speedUpdate k) s = .next t ∧ s.onlyChanges t (s.updateParts k)))

/-- COOLANT_SAMPLE: an in-range sample is the reading and moves the hot, cool and overheat counts, and the warm count while
WARMUP stands; the pickups, the selection and warmed stay. A faulted one clears reading and counts, posts HOT where it does
not stand and retires WARMUP with warmed yes; every other slot stays. A count that reaches 3 posts or retires its entry at
HOT_POSTED, HOT_RETIRED or WARMUP_RETIRED (two rows: the model's choice, log entry 4). -/
def Obligations.CoolantSampleCountsOrFaults : Prop :=
  ∀ (s : State) (k : Engine) (x : Int), s.awake = true → s.fitted k = true → s.tableGood →
    (-40 ≤ x → x ≤ 150 → ∃ t, exec (.coolantSample k x) s = .next t ∧
      t.sense k = { s.sense k with
        coolant := some x
        sensorGood := true
        hotCount := if (s.cfg.thresholds.hot : Int) < x then min ((s.sense k).hotCount + 1) 3 else 0
        coolCount := if x ≤ (s.cfg.thresholds.hot : Int) - 5 then min ((s.sense k).coolCount + 1) 3 else 0
        overCount := if (s.cfg.thresholds.overheat : Int) < x then min ((s.sense k).overCount + 1) 3 else 0
        warmCount := if s.stands .warmup k = false then (s.sense k).warmCount
          else if s.cfg.thresholds.warm ≤ x then min ((s.sense k).warmCount + 1) 3 else 0 } ∧
      t.handed = s.handed ++ (if (t.sense k).overCount = 3 then [.overheat k] else []) ∧
      s.onlyChanges t [.sense k, .handed]) ∧
    (x < -40 ∨ 150 < x → ∃ t, exec (.coolantSample k x) s = .next t ∧
      t.sense k = { s.sense k with
        coolant := none, sensorGood := false, hotCount := 0, coolCount := 0, overCount := 0, warmCount := 0
        warmed := (s.sense k).warmed || s.stands .warmup k } ∧
      (s.stands .hot k = false → slotAt t.table (4 * (k.number - 1) + 1) =
        ⟨nextGen (slotAt s.table (4 * (k.number - 1) + 1)).gen, some
          { owner := .internal .hot, kind := .notchCeiling, scope := .engines (only k)
            value := some s.cfg.thresholds.hotCeiling, expiry := none }⟩) ∧
      (s.stands .hot k = true →
        slotAt t.table (4 * (k.number - 1) + 1) = slotAt s.table (4 * (k.number - 1) + 1)) ∧
      slotAt t.table (4 * (k.number - 1)) = ⟨(slotAt s.table (4 * (k.number - 1))).gen, none⟩ ∧
      (∀ n, n ≠ 4 * (k.number - 1) → n ≠ 4 * (k.number - 1) + 1 → slotAt t.table n = slotAt s.table n) ∧
      t.stands .hot k = true ∧ t.stands .warmup k = false ∧ t.limits = resolve t.table ∧
      (s.stands .warmup k = false ∨ s.stands .hot k = true →
        t.handed = s.handed ++ s.limitsHanded s.limits t.limits) ∧
      (s.stands .warmup k = true → s.stands .hot k = false → ∃ mid, t.handed =
        s.handed ++ s.limitsHanded s.limits (resolve mid) ++ s.limitsHanded (resolve mid) t.limits ∧
        (∀ n, n ≠ 4 * (k.number - 1) + 1 → slotAt mid n = slotAt s.table n) ∧
        (∀ n, n ≠ 4 * (k.number - 1) → slotAt mid n = slotAt t.table n)) ∧
      s.onlyChanges t [.sense k, .table, .limits, .handed])

/-- HOT_POSTED, HOT_RETIRED and WARMUP_RETIRED with their counts at 3: the entry is posted with the next generation and the
hot ceiling, or its slot freed with the generation kept, and the limits are recomputed.

OVERHEAT taken in ONLINE or COOLDOWN trips the engine; in any other state the report is discarded. -/
def Obligations.CoolantConditionsAndOverheat : Prop :=
  (∀ (s : State) (k : Engine), s.awake = true → s.fitted k = true → s.tableGood →
     ((s.sense k).hotCount = 3 → s.stands .hot k = false → ∃ t, exec (.hotPosted k) s = .next t ∧
       slotAt t.table (4 * (k.number - 1) + 1) = ⟨nextGen (slotAt s.table (4 * (k.number - 1) + 1)).gen, some
         { owner := .internal .hot, kind := .notchCeiling, scope := .engines (only k)
           value := some s.cfg.thresholds.hotCeiling, expiry := none }⟩ ∧
       (∀ n, n ≠ 4 * (k.number - 1) + 1 → slotAt t.table n = slotAt s.table n) ∧ t.limits = resolve t.table ∧
       t.handed = s.handed ++ s.limitsHanded s.limits t.limits ∧ s.onlyChanges t [.table, .limits, .handed]) ∧
     ((s.sense k).coolCount = 3 → s.stands .hot k = true → ∃ t, exec (.hotRetired k) s = .next t ∧
       slotAt t.table (4 * (k.number - 1) + 1) = ⟨(slotAt s.table (4 * (k.number - 1) + 1)).gen, none⟩ ∧
       (∀ n, n ≠ 4 * (k.number - 1) + 1 → slotAt t.table n = slotAt s.table n) ∧ t.limits = resolve t.table ∧
       t.handed = s.handed ++ s.limitsHanded s.limits t.limits ∧ s.onlyChanges t [.table, .limits, .handed]) ∧
     ((s.sense k).warmCount = 3 → s.stands .warmup k = true → ∃ t, exec (.warmupRetired k) s = .next t ∧
       t.sense k = { s.sense k with warmed := true } ∧
       slotAt t.table (4 * (k.number - 1)) = ⟨(slotAt s.table (4 * (k.number - 1))).gen, none⟩ ∧
       (∀ n, n ≠ 4 * (k.number - 1) → slotAt t.table n = slotAt s.table n) ∧ t.limits = resolve t.table ∧
       t.handed = s.handed ++ s.limitsHanded s.limits t.limits ∧ s.onlyChanges t [.sense k, .table, .limits, .handed])) ∧
  (∀ (s : State) (k : Engine) (pre post : List Event), s.awake = true → s.fitted k = true →
     s.handed = pre ++ .overheat k :: post → .overheat k ∉ pre →
     ((s.eng k).state = .online ∨ (s.eng k).state = .cooldown → ∃ t, exec (.overheat k) s = .next t ∧
       s.tripsTo t k (s.eng k) .overheat [.trip .overheat]) ∧
     ((s.eng k).state ≠ .online → (s.eng k).state ≠ .cooldown → ∃ t, exec (.overheat k) s = .next t ∧
       t.handed = pre ++ post ∧ s.onlyChanges t [.handed]))

/-! ## Battery (chapter 8) -/

/-- PHASE_CHANGE: the counts, the crank minimum and the holder as each change of phase leaves them.

BATTERY_SAMPLE: the sample, held to 0.0 to 100.0 V, judged in IDLE against the permit, in GRANTED against the sag floor,
and not at all in RECOVERY.

BATTERY_LOW_POSTED and BATTERY_LOW_RETIRED: in IDLE with the count at the filter count, slot 16 is posted with the next
generation over every fitted engine, or freed with its generation kept. -/
def Obligations.BatterySampleAndPermit : Prop :=
  ((∀ (s : State) (pre post : List Event) (p : Phase) (h : Option Engine), s.awake = true →
      s.handed = pre ++ .phase p h :: post → (∀ x y, .phase x y ∉ pre) →
      ∃ t, exec .phaseChange s = .next t ∧ t.handed = pre ++ post ∧
        (p = .granted → t.bsm = { s.bsm with
          phase := .granted, holder := h, low := 0, high := 0, sag := 0, crankMin := none }) ∧
        (p = .recovery → t.bsm = { s.bsm with phase := .recovery, holder := none, sag := 0 }) ∧
        (p = .idle → t.bsm = { s.bsm with phase := .idle, holder := none, low := 0, high := 0, sag := 0 }) ∧
        s.onlyChanges t [.bsm, .handed]) ∧
   (∀ (s : State) (x : Int) (v : Nat), s.awake = true →
      (x < 0 ∧ v = 0) ∨ (0 ≤ x ∧ x ≤ 1000 ∧ (v : Int) = x) ∨ (1000 < x ∧ v = 1000) →
      (s.bsm.phase = .idle → ∃ t, exec (.batterySample x) s = .next t ∧ t.bsm = { s.bsm with
          sample := some v
          low := if v < s.cfg.thresholds.startThreshold then min (s.bsm.low + 1) s.cfg.thresholds.batteryFilter else 0
          high := if s.cfg.thresholds.startThreshold + s.cfg.thresholds.hysteresis ≤ v
            then min (s.bsm.high + 1) s.cfg.thresholds.batteryFilter else 0 } ∧ s.onlyChanges t [.bsm]) ∧
      (s.bsm.phase = .recovery → ∃ t, exec (.batterySample x) s = .next t ∧
        t.bsm = { s.bsm with sample := some v } ∧ s.onlyChanges t [.bsm]) ∧
      (∀ k, s.bsm.phase = .granted → s.bsm.holder = some k → ∃ t, exec (.batterySample x) s = .next t ∧
        t.bsm.sample = some v ∧ t.bsm.low = s.bsm.low ∧ t.bsm.high = s.bsm.high ∧
        (s.bsm.crankMin = none → t.bsm.crankMin = some v) ∧
        (∀ m, s.bsm.crankMin = some m → t.bsm.crankMin = some (min m v)) ∧
        (s.cfg.thresholds.sagFloor ≤ v → t.bsm.sag = 0 ∧ t.handed = s.handed) ∧
        (v < s.cfg.thresholds.sagFloor → s.bsm.sag + 1 < s.cfg.thresholds.batteryFilter →
          t.bsm.sag = s.bsm.sag + 1 ∧ t.handed = s.handed) ∧
        (v < s.cfg.thresholds.sagFloor → s.cfg.thresholds.batteryFilter ≤ s.bsm.sag + 1 →
          t.bsm.sag = 0 ∧ t.handed = s.handed ++ [.sag k]) ∧ s.onlyChanges t [.bsm, .handed]))) ∧
  (∀ s : State, s.awake = true → s.tableGood → s.fitted .e1 = true → s.bsm.phase = .idle →
     (s.cfg.thresholds.batteryFilter ≤ s.bsm.low → (slotAt s.table 16).live = false →
       ∃ t, exec .batteryLowPosted s = .next t ∧
         slotAt t.table 16 = ⟨nextGen (slotAt s.table 16).gen, some
           { owner := .internal .batteryLow, kind := .startInhibit, scope := .engines (.of s.fitted), value := none
             expiry := none }⟩ ∧
         (∀ n, n ≠ 16 → slotAt t.table n = slotAt s.table n) ∧
         (∀ k, s.fitted k = true → t.limits.inhibit.get k = true) ∧ t.limits = resolve t.table ∧
         t.handed = s.handed ++ s.limitsHanded s.limits t.limits ∧ s.onlyChanges t [.table, .limits, .handed]) ∧
     (s.cfg.thresholds.batteryFilter ≤ s.bsm.high → (slotAt s.table 16).live = true →
       ∃ t, exec .batteryLowRetired s = .next t ∧ slotAt t.table 16 = ⟨(slotAt s.table 16).gen, none⟩ ∧
         (∀ n, n ≠ 16 → slotAt t.table n = slotAt s.table n) ∧ t.limits = resolve t.table ∧
         t.handed = s.handed ++ s.limitsHanded s.limits t.limits ∧ s.onlyChanges t [.table, .limits, .handed]))

/-! ## Duty counters (chapter 9) -/

/-- COUNTED_EVENT: the counters take the events of one state change together; then the lockout test under the count in
force, whose LOCKOUT inhibits the starts of that engine alone, and with an entry into STOPPED, ISOLATED or TRIPPED a save
request unless the engine is queued already. LOCKOUT is posted whatever state the engine is in by then (log entry 41).

DCT_COUNT adds a run second and a second since save to every engine in RUNUP, ONLINE or COOLDOWN, and a second to the
bin of an ONLINE engine's notch; RUN_SINCE_SAVE_FULL at 600 requests a save (two rows: log entry 4). Run since save held at
600 until its save begins is log entry 14. -/
def Obligations.DutyCountersAdvance : Prop :=
  (∀ (s : State) (k : Engine) (pre post : List Event) (es : List CountedEvent), s.awake = true → s.fitted k = true →
     s.tableGood → s.handed = pre ++ .counted k es :: post → (∀ x, .counted k x ∉ pre) →
     ∃ t, exec (.countedEvent k) s = .next t ∧
       (s.dutyOf k).stored.expects (t.dutyOf k).stored es ∧ (t.dutyOf k).histogram = (s.dutyOf k).histogram ∧
       (t.dutyOf k).runSinceSave = (s.dutyOf k).runSinceSave ∧ (t.dutyOf k).restored = (s.dutyOf k).restored ∧
       (t.stands .lockout k = true ↔ s.stands .lockout k = true ∨
         s.cfg.thresholds.lockoutCount ≤ (t.dutyOf k).stored.consecutive) ∧
       (s.stands .lockout k = false → t.stands .lockout k = true → slotAt t.table (4 * (k.number - 1) + 3) =
         ⟨nextGen (slotAt s.table (4 * (k.number - 1) + 3)).gen, some
           { owner := .internal .lockout, kind := .startInhibit, scope := .engines (only k), value := none
             expiry := none }⟩) ∧
       (s.stands .lockout k = true ∨ t.stands .lockout k = false → t.table = s.table) ∧
       (∀ n, n ≠ 4 * (k.number - 1) + 3 → slotAt t.table n = slotAt s.table n) ∧
       ((∃ c, .trip c ∈ es) ∨ .rest ∈ es → k ∉ s.dct.queue → t.dct.queue = s.dct.queue ++ [k]) ∧
       (((∀ c, .trip c ∉ es) ∧ .rest ∉ es) ∨ k ∈ s.dct.queue → t.dct.queue = s.dct.queue) ∧
       t.dct.writing = s.dct.writing ∧ t.dct.store = s.dct.store ∧ t.limits = resolve t.table ∧
       t.handed = pre ++ post ++ s.limitsHanded s.limits t.limits ∧
       s.onlyChanges t [.duty k, .saves, .table, .limits, .handed]) ∧
  (∀ s : State, s.awake = true →
     (∃ t, exec .dctCount s = .next t ∧
       (∀ k, s.fitted k = true →
         (s.eng k).state = .runup ∨ (s.eng k).state = .online ∨ (s.eng k).state = .cooldown →
         (t.dutyOf k).stored = { (s.dutyOf k).stored with run := min ((s.dutyOf k).stored.run + 1) 4294967295 } ∧
           (t.dutyOf k).runSinceSave = min ((s.dutyOf k).runSinceSave + 1) 600 ∧
           (t.dutyOf k).restored = (s.dutyOf k).restored) ∧
       (∀ k, s.fitted k = true → (s.eng k).state = .online → (s.eng k).notch < (s.dutyOf k).histogram.length →
         ∀ n, row (t.dutyOf k).histogram n = if n = (s.eng k).notch then min (row (s.dutyOf k).histogram n + 1) 4294967295
           else row (s.dutyOf k).histogram n) ∧
       (∀ k, (s.eng k).state ≠ .online → (t.dutyOf k).histogram = (s.dutyOf k).histogram) ∧
       (∀ k, s.fitted k = false ∨
           ((s.eng k).state ≠ .runup ∧ (s.eng k).state ≠ .online ∧ (s.eng k).state ≠ .cooldown) →
         t.dutyOf k = s.dutyOf k) ∧
       s.onlyChanges t [.duty .e1, .duty .e2, .duty .e3, .duty .e4]) ∧
     (∀ k, s.fitted k = true → (s.dutyOf k).runSinceSave = 600 → ∃ t, exec (.runSinceSaveFull k) s = .next t ∧
       t.dct = { s.dct with queue := if k ∈ s.dct.queue then s.dct.queue else s.dct.queue ++ [k] } ∧
       s.onlyChanges t [.saves]))

/-- READ_COUNTERS answers the 66-byte report of the counters as they stand before its clear: the six counters in their order,
the nine bins, run since save, the save state, COUNTERS_RESTORED, the lockout count and LOCKOUT; and with the clear flag the
histogram alone is set to 0. CLEAR_LOCKOUT sets consecutive failures to 0, retires LOCKOUT and requests a save, or does
nothing when there is nothing to clear; limits that differ are handed on. -/
def Obligations.CounterRequestsReadAndClear : Prop :=
  (∀ (s : State) (c : Caller) (e clear : Byte) (k : Engine), s.takesFor (.readCounters c e clear) e k = true →
    (∀ b, yesNoField clear = some b → ∃ t p, exec (.readCounters c e clear) s = .next t ∧
      s.answers t (.readCounters c e clear) .ok p ∧ p.length = 66 ∧ p.take 4 = be32 (s.dutyOf k).stored.run ∧
      (p.drop 4).take 4 = be32 (s.dutyOf k).stored.starts ∧ (p.drop 8).take 4 = be32 (s.dutyOf k).stored.failed ∧
      (p.drop 12).take 4 = be32 (s.dutyOf k).stored.aborted ∧ (p.drop 16).take 4 = be32 (s.dutyOf k).stored.trips ∧
      (p.drop 20).take 4 = be32 (s.dutyOf k).stored.consecutive ∧
      (∀ n, n < 9 → (p.drop (24 + 4 * n)).take 4 = be32 (row (s.dutyOf k).histogram n)) ∧
      (p.drop 60).take 2 = be16 (s.dutyOf k).runSinceSave ∧
      p.getD 62 0 = (if s.dct.writing.map Prod.fst = some k then 2 else if k ∈ s.dct.queue then 1 else 0) ∧
      p.getD 63 0 = bit (s.dutyOf k).restored ∧
      p.getD 64 0 = byte s.cfg.thresholds.lockoutCount ∧ p.getD 65 0 = bit (s.stands .lockout k) ∧
      t.dutyOf k = (if b then { s.dutyOf k with histogram := List.replicate 9 0 } else s.dutyOf k) ∧
      s.onlyChanges t (.duty k :: answerParts)) ∧
    (yesNoField clear = none → ∃ t, exec (.readCounters c e clear) s = .next t ∧
      s.answers t (.readCounters c e clear) .badValue [] ∧ s.onlyChanges t answerParts)) ∧
  (∀ (s : State) (c : Caller) (e : Byte) (k : Engine), s.takesFor (.clearLockout c e) e k = true →
    ((s.dutyOf k).stored.consecutive = 0 → s.stands .lockout k = false → ∃ t, exec (.clearLockout c e) s = .next t ∧
      s.answers t (.clearLockout c e) .ok [] ∧ s.onlyChanges t answerParts) ∧
    ((s.dutyOf k).stored.consecutive ≠ 0 ∨ s.stands .lockout k = true → ∃ t, exec (.clearLockout c e) s = .next t ∧
      s.answers t (.clearLockout c e) .ok [] ∧
      t.dutyOf k = { s.dutyOf k with stored := { (s.dutyOf k).stored with consecutive := 0 } } ∧
      t.stands .lockout k = false ∧
      t.dct.queue = (if k ∈ s.dct.queue then s.dct.queue else s.dct.queue ++ [k]) ∧
      t.dct.writing = s.dct.writing ∧ t.dct.store = s.dct.store ∧
      (s.tableGood → t.limits = resolve t.table ∧ t.handed = s.handed ++ s.limitsHanded s.limits t.limits) ∧
      s.onlyChanges t (.duty k :: .saves :: .table :: .limits :: .handed :: answerParts)))

/-- SAVE_WRITE_BEGIN takes the head of the save queue: the values are those of that event, run since save returns to 0, and
the record is not good while the write lasts (the model's choice, log entry 13); SAVE_WRITE_END makes the record good with
the values taken. -/
def Obligations.SaveWritesSnapshotHead : Prop :=
  ∀ (s : State) (k : Engine), s.awake = true →
    (∀ rest, s.dct.writing = none → s.dct.queue = k :: rest → ∃ t, exec .saveWriteBegin s = .next t ∧
      t.dct.queue = rest ∧ t.dct.writing = some (k, (s.dutyOf k).stored) ∧ t.dct.saveState k = .writing ∧
      t.dutyOf k = { s.dutyOf k with runSinceSave := 0 } ∧ ((t.dct.store.get k).load k).restored = false ∧
      (∀ j, j ≠ k → t.dct.store.get j = s.dct.store.get j) ∧ s.onlyChanges t [.duty k, .saves]) ∧
    (∀ d, s.dct.writing = some (k, d) → ∃ t, exec .saveWriteEnd s = .next t ∧ t.dct.writing = none ∧
      t.dct.queue = s.dct.queue ∧ t.dct.store = s.dct.store.set k (.written k d true) ∧
      (t.dct.store.get k).load k = .begin d true ∧ s.onlyChanges t [.saves])

/-! ## The cabinet link (chapter 10) -/

/-- The receiver, fed the frame of any request with a payload of at most 48 bytes, completes that frame and finds in it the
request sent; and every request command is read back from the request its frame carries.

The frames: A5h, length, code, tag, origin, payload, CRC for a request; 5Ah, length, code, tag, status, payload, CRC for a
response; the CRC over the bytes between the marker and it, high byte first, its register from FFFFh, each byte most
significant bit first, with the polynomial 1021h and no final inversion; and the codes of the statuses. -/
def Obligations.ReceiverCompletesRequestFrames : Prop :=
  (∀ (s : State) (r : Request), s.awake = true → s.cli.restarting = false → s.cli.receiver = .hunt →
    r.payload.length ≤ 48 →
    ∃ t, s.execAll ((requestFrame r).map fun b => .characterReceived b false) = some t ∧
      t.cli = { s.cli with completed := s.cli.completed ++ [(requestFrame r).tail] } ∧
      frameRequest (requestFrame r).tail = r ∧ s.onlyChanges t [.link]) ∧
  (∀ (c : Instr) (r : Request), requestOf c = some r → commandOf r = some c) ∧
  (∀ (r : Request) (body : List Byte), body = byte r.payload.length :: r.code :: r.tag :: r.origin :: r.payload →
    requestFrame r = 0xA5 :: body ++ be16 (crc16 body).toNat) ∧
  (∀ (a : Response) (body : List Byte),
    body = byte a.payload.length :: a.code :: a.tag ::
      codeIn 0 [.ok, .clamped, .busy, .badRequest, .badValue, .notPermitted, .unknownHandle, .tableFull, .wrongState,
        .configInvalid] a.status :: a.payload →
    responseFrame a = 0x5A :: body ++ be16 (crc16 body).toNat) ∧
  crc16 [] = 0xFFFF ∧
  (∀ (body : List Byte) (b : Byte), crc16 (body ++ [b]) =
    (List.range 8).foldl (fun (r : Word16) n => if r.msb != b.getLsbD (7 - n) then (r <<< 1) ^^^ 0x1021 else r <<< 1)
      (crc16 body)) ∧
  (∀ (body : List Byte) (hi lo : Byte), crcAgrees (body ++ [hi, lo]) = true ↔ [hi, lo] = be16 (crc16 body).toNat)

/-- One character at the receiver: the marker starts a frame, a length above 48 or a framing error discards it, every other
byte is stored until the length is complete, and a frame whose CRC disagrees is discarded without a response.
FRAME_GAP_TIMEOUT discards the frame in progress.

REQUEST_FRAME_COMPLETE takes a free intake place, or queues a BUSY response when all four are held, or discards the
request when four BUSY responses wait; SERVE_REQUEST hands the oldest unserved request to its owner, or answers it when a
common check fails; RESPONSE_SENT removes the head and frees the place of its request, if it holds one. That other commands
may come between SERVE_REQUEST and the owner's row is log entry 32, and that they may come between the character that
completes a frame and its REQUEST_FRAME_COMPLETE is log entry 42. -/
def Obligations.LinkReceivesServesAndAnswers : Prop :=
  (∀ (s : State) (ch : Byte), s.awake = true → s.cli.restarting = false →
     (∃ t, exec (.characterReceived ch true) s = .next t ∧ t.cli = { s.cli with receiver := .hunt } ∧
       s.onlyChanges t [.link]) ∧
     (s.cli.receiver = .hunt → ∃ t, exec (.characterReceived ch false) s = .next t ∧
       t.cli = { s.cli with receiver := if ch = 0xA5 then .length else .hunt } ∧ s.onlyChanges t [.link]) ∧
     (s.cli.receiver = .length → ∃ t, exec (.characterReceived ch false) s = .next t ∧
       t.cli = { s.cli with receiver := if ch.toNat ≤ 48 then .body ch.toNat [] else .hunt } ∧
       s.onlyChanges t [.link]) ∧
     (∀ len got, s.cli.receiver = .body len got → got.length + 1 ≠ len + 5 →
       ∃ t, exec (.characterReceived ch false) s = .next t ∧
         t.cli = { s.cli with receiver := .body len (got ++ [ch]) } ∧ s.onlyChanges t [.link]) ∧
     (∀ len got, s.cli.receiver = .body len got → got.length + 1 = len + 5 →
       ∃ t, exec (.characterReceived ch false) s = .next t ∧ t.cli.receiver = .hunt ∧
         t.cli.completed = (if crcAgrees (byte len :: (got ++ [ch])) then s.cli.completed ++ [byte len :: (got ++ [ch])]
           else s.cli.completed) ∧ t.cli.responses = s.cli.responses ∧ s.onlyChanges t [.link]) ∧
     (∃ t, exec .frameGapTimeout s = .next t ∧ t.cli = { s.cli with receiver := .hunt } ∧ s.onlyChanges t [.link])) ∧
  (∀ s : State, s.awake = true → s.cli.restarting = false →
     (∀ f rest, s.cli.completed = f :: rest → ∃ t, exec .requestFrameComplete s = .next t ∧
       (s.cli.intake.length < 4 →
         t.cli = { s.cli with completed := rest, intake := s.cli.intake ++ [⟨frameRequest f, false⟩] }) ∧
       (4 ≤ s.cli.intake.length → busyWaiting s.cli.responses < 4 → t.cli = { s.cli with
         completed := rest
         responses := s.cli.responses ++ [⟨(frameRequest f).code, (frameRequest f).tag, .busy, [], false⟩] }) ∧
       (4 ≤ s.cli.intake.length → 4 ≤ busyWaiting s.cli.responses → t.cli = { s.cli with completed := rest }) ∧
       s.onlyChanges t [.link]) ∧
     (∀ (r : Request) (pre post : List Intake), s.cli.serving = none → s.cli.intake = pre ++ ⟨r, false⟩ :: post →
       (∀ x ∈ pre, x.served = true) → ∃ t, exec .serveRequest s = .next t ∧
       (s.commonCheck r = none → t.cli = { s.cli with serving := some r }) ∧
       (∀ st, s.commonCheck r = some st →
         t.cli.responses = s.cli.responses ++ [⟨r.code, r.tag, st, [], true⟩] ∧
         t.cli.intake = pre ++ ⟨r, true⟩ :: post ∧ t.cli.serving = none) ∧ s.onlyChanges t answerParts) ∧
     (∀ (a : Response) (rest : List Response) (pre post : List Intake) (x : Intake), s.cli.responses = a :: rest →
       s.cli.intake = pre ++ x :: post → x.served = true → (∀ y ∈ pre, y.served = false) →
       ∃ t, exec .responseSent s = .next t ∧ t.cli.responses = rest ∧ t.cli.sent = responseFrame a ∧
         t.cli.intake = (if a.placed then pre ++ post else s.cli.intake) ∧ s.onlyChanges t [.link]) ∧
     (∀ (a : Response) (rest : List Response), s.cli.responses = a :: rest → a.placed = false →
       ∃ t, exec .responseSent s = .next t ∧ t.cli = { s.cli with responses := rest, sent := responseFrame a } ∧
         s.onlyChanges t [.link]))

/-- The common checks in their order, for every request of the catalogue: an unknown code, a length not the one required or
an origin above 15 is BAD_REQUEST; too low a role is NOT_PERMITTED; an invalid configuration is CONFIG_INVALID where the
request needs a valid one. A request refused by a check has no effect. The same checks in the same order at serving, for any
request that came in over the link, one of an unknown code too.

Check 1 and the roles by the catalogue: the length each code requires, for WRITE_CONFIG the one of the section named; the
minimum role; and the four requests that need no valid configuration.

The order of the roles, and an origin's role: the one of the ORIGINS section of the working image, or of the default role
table while some section is not VALID. -/
def Obligations.CommonChecksRefuseInOrder : Prop :=
  (∀ (s : State) (c : Instr) (r : Request), requestOf c = some r → s.awake = true → s.cli.restarting = false →
    s.cli.serving = none →
    (requestWellFormed r = false → ∃ t, exec c s = .next t ∧ s.answers t c .badRequest [] ∧ s.onlyChanges t [.answer]) ∧
    (∀ w, requestWellFormed r = true → catalogueRow r.code = some w →
      ((s.role r.origin).rank < w.minRole.rank → ∃ t, exec c s = .next t ∧ s.answers t c .notPermitted [] ∧
        s.onlyChanges t [.answer]) ∧
      (w.minRole.rank ≤ (s.role r.origin).rank → w.needsValid = true → s.valid = false → ∃ t, exec c s = .next t ∧
        s.answers t c .configInvalid [] ∧ s.onlyChanges t [.answer]) ∧
      (w.minRole.rank ≤ (s.role r.origin).rank → w.needsValid = false ∨ s.valid = true → s.takes c = true))) ∧
  (∀ (s : State) (r : Request),
    (requestWellFormed r = false → s.commonCheck r = some .badRequest) ∧
    (∀ w, requestWellFormed r = true → catalogueRow r.code = some w →
      ((s.role r.origin).rank < w.minRole.rank → s.commonCheck r = some .notPermitted) ∧
      (w.minRole.rank ≤ (s.role r.origin).rank → w.needsValid = true → s.valid = false →
        s.commonCheck r = some .configInvalid) ∧
      (w.minRole.rank ≤ (s.role r.origin).rank → w.needsValid = false ∨ s.valid = true → s.commonCheck r = none))) ∧
  (∀ r : Request, requestWellFormed r = true ↔ r.origin.toNat ≤ 15 ∧
    ((r.payload.length = 0 ∧ r.code ∈ [0x22, 0x23, 0x32]) ∨
      (r.payload.length = 1 ∧
        r.code ∈ [0x10, 0x11, 0x12, 0x13, 0x14, 0x16, 0x17, 0x18, 0x19, 0x20, 0x21, 0x30]) ∨
      (r.payload.length = 2 ∧ r.code ∈ [0x03, 0x04, 0x15, 0x1A]) ∨ (r.payload.length = 4 ∧ r.code = 0x05) ∨
      (r.payload.length = 7 ∧ r.code ∈ [0x01, 0x02]) ∨
      (r.code = 0x31 ∧ ∃ sec contents, r.payload = sec :: contents ∧ (sec.toNat, contents.length) ∈
        [(1, 2), (2, 36), (3, 18), (4, 21), (5, 20), (6, 7), (7, 6), (8, 8), (9, 16)]))) ∧
  (∀ (code : Byte) (w : CatalogueRow), catalogueRow code = some w →
    (w.minRole = .observer ↔ code ∈ [0x04, 0x05, 0x10, 0x1A, 0x22, 0x23, 0x30]) ∧
    (w.minRole = .operator ↔ code ∈ [0x01, 0x02, 0x03, 0x11, 0x12, 0x20]) ∧
    (w.minRole = .supervisor ↔ code ∈ [0x13, 0x14, 0x15, 0x16, 0x17, 0x18, 0x19, 0x21, 0x31, 0x32]) ∧
    (w.needsValid = false ↔ code ∈ [0x22, 0x30, 0x31, 0x32])) ∧
  (Role.rank .none < Role.rank .observer ∧ Role.rank .observer < Role.rank .operator ∧
    Role.rank .operator < Role.rank .supervisor) ∧
  (∀ (s : State) (o : Byte), o.toNat ≤ 15 →
    (s.valid = true → s.role o = s.cfs.working.origins.roles.getD o.toNat .none) ∧
    (s.valid = false → s.role o = if o = 0 then .supervisor else .none)) ∧
  (∀ s : State, s.valid = true ↔ s.cfs.marks.roster = true ∧ s.cfs.marks.engineTable = true ∧
    s.cfs.marks.locoTable = true ∧ s.cfs.marks.timing = true ∧ s.cfs.marks.thresholds = true ∧
    s.cfs.marks.staging = true ∧ s.cfs.marks.arbiter = true ∧ s.cfs.marks.inputs = true ∧ s.cfs.marks.origins = true)

/-- A byte that names no value of its field, or an engine number naming no fitted engine, is refused BAD_VALUE by the
owning block, with no effect: the eleven engine requests, the hold point, the filters of LIST_ENTRIES, the section of
READ_CONFIG. -/
def Obligations.FieldsNamingNoValueRefused : Prop :=
  ∀ (s : State) (c : Caller),
    (∀ (e x : Byte) (cmd : Instr),
      cmd = .start c e ∨ cmd = .stop c e ∨ cmd = .ackTrip c e ∨ cmd = .isolate c e ∨ cmd = .restore c e ∨
        cmd = .setHold c e x ∨ cmd = .step c e ∨ cmd = .clearPickupFault c e ∨ cmd = .readEngine c e ∨
        cmd = .readCounters c e x ∨ cmd = .clearLockout c e →
      s.takes cmd = true → (e = 0 ∨ 5 ≤ e.toNat ∨ ∃ k, engineField e = some k ∧ s.fitted k = false) →
      ∃ t, exec cmd s = .next t ∧ s.answers t cmd .badValue [] ∧ s.onlyChanges t answerParts) ∧
    (∀ (e h : Byte) (k : Engine), s.takesFor (.setHold c e h) e k = true → 3 ≤ h.toNat →
      ∃ t, exec (.setHold c e h) s = .next t ∧ s.answers t (.setHold c e h) .badValue [] ∧
        s.onlyChanges t answerParts) ∧
    (∀ kind engine origin start : Byte, s.takes (.listEntries c kind engine origin start) = true →
      6 ≤ kind.toNat ∨ 5 ≤ engine.toNat ∨ (17 ≤ origin.toNat ∧ origin.toNat ≤ 254) →
      ∃ t, exec (.listEntries c kind engine origin start) s = .next t ∧
        s.answers t (.listEntries c kind engine origin start) .badValue [] ∧ s.onlyChanges t answerParts) ∧
    (∀ sec : Byte, s.takes (.readConfig c sec) = true → sec = 0 ∨ 10 ≤ sec.toNat →
      ∃ t, exec (.readConfig c sec) s = .next t ∧ s.answers t (.readConfig c sec) .badValue [] ∧
        s.onlyChanges t answerParts)

/-- Every step keeps the link's queues good: at most four intake places held and four BUSY responses waiting, one placed
response for each served request, the request being served the oldest unserved one of the intake. -/
def Obligations.StepKeepsLinkGood : Prop :=
  ∀ s t : State, s.linkGood → step s = .next t → t.linkGood

/-! ## Configuration (chapter 11) -/

/-- READ_CONFIG answers the section's working image; WRITE_CONFIG is BUSY during a write, WRONG_STATE with an engine not at
rest, BAD_VALUE with the index of the first bad item (min_online read as log entry 9 says; the orders of the rows, EN[0].kW, EN[8].kW and LP[0] as cross-checks only, as log
entry 43 says), and otherwise puts the section in
flight.

That index is the first to fail of the range checks in index order and then the cross-checks in theirs, on the items the
contents carry, high byte first; a section that passes reads back as it was written, and moves no other. -/
def Obligations.ConfigReadAndWriteBegin : Prop :=
  (∀ (s : State) (c : Caller) (sec : Byte) (contents : List Byte) (id : SectionId), sectionOf sec = some id →
    (s.takes (.readConfig c sec) = true → ∃ t, exec (.readConfig c sec) s = .next t ∧
      s.answers t (.readConfig c sec) .ok (s.cfs.working.contents id) ∧
      (s.cfs.working.contents id).length = sectionLength id ∧ s.onlyChanges t answerParts) ∧
    (s.takes (.writeConfig c sec contents) = true →
      (s.writing = true → ∃ t, exec (.writeConfig c sec contents) s = .next t ∧
        s.answers t (.writeConfig c sec contents) .busy [] ∧ s.onlyChanges t answerParts) ∧
      (s.writing = false → (∃ k, s.fitted k = true ∧ (s.eng k).state.resting = false) →
        ∃ t, exec (.writeConfig c sec contents) s = .next t ∧
          s.answers t (.writeConfig c sec contents) .wrongState [] ∧ s.onlyChanges t answerParts) ∧
      (s.writing = false → (∀ k, s.fitted k = true → (s.eng k).state.resting = true) →
        (∀ n, refusedIndex s.cfs.working id contents = some n → ∃ t, exec (.writeConfig c sec contents) s = .next t ∧
          s.answers t (.writeConfig c sec contents) .badValue [byte n] ∧ s.onlyChanges t answerParts) ∧
        (refusedIndex s.cfs.working id contents = none → ∃ t, exec (.writeConfig c sec contents) s = .next t ∧
          s.answers t (.writeConfig c sec contents) .ok [] ∧
          t.cfs = { s.cfs with write := some (decodeSection id contents) } ∧ t.handed = s.handed ++ [.replan .write] ∧
          s.onlyChanges t (.cfs :: .handed :: answerParts))))) ∧
  (∀ (working : Image) (id : SectionId) (contents : List Byte) (items : List Nat),
    contents.length = sectionLength id → items = readItems (itemWidths id) contents →
    refusedIndex working id contents =
        ((rangeTable id items ++ crossTable id (working.put (decodeSection id contents))).find? fun c => !c.1).map
          Prod.snd ∧
      (refusedIndex working id contents = none →
        (working.put (decodeSection id contents)).contents id = contents ∧
          ∀ other, other ≠ id → (working.put (decodeSection id contents)).contents other = working.contents other)) ∧
  (∀ id, itemWidths id = (itemTable id).map Prod.fst) ∧
  (∀ (a b : Byte) (ws : List Nat) (bs : List Byte), readItems [] bs = [] ∧
    readItems (1 :: ws) (a :: bs) = a.toNat :: readItems ws bs ∧
    readItems (2 :: ws) (a :: b :: bs) = (256 * a.toNat + b.toNat) :: readItems ws bs)

/-- WRITE_COMPLETE puts the section into the working image, marks it VALID and ends the write; with the configuration then
valid it is applied in the one event: the counts of sensing and battery begin again, WARMUP, HOT and PICKUP entries take their
new values and BATTERY_LOW the engines now fitted, a change of sharing mode takes the line to QUIET, the switch filters of an
engine newly or no longer fitted stand at rest with no level change handed, external scopes lose the engines no longer fitted, LOCOMOTIVE ones and the LOCKOUT of an engine still
fitted stay, LOCKOUT is posted where the count calls for it,
the limits are recomputed, an engine fitted before and after keeps its record, a newly fitted one begins afresh, and one no
longer fitted loses its record, sensing set, counters, changed flag, place in the save queue and internal entries. After that a run demand in force is offered to each fitted engine: one in STOPPED
that admission lets start does so, and with an invalid configuration none does. The fields
of a fresh record that the manual gives no value for are the model's choice (log entry 6); what an engine not fitted has for
limits is log entry 28, a LOCKOUT posted at the apply log entry 27, and a record whose write is still in flight when its
engine is fitted again log entry 31. The values of the sections are in force from this event on, before the re-plan handed
here (log entry 39). An engine that keeps its record keeps attempts remaining above newly lowered attempts too (log entry 40). -/
def Obligations.WriteCompleteAppliesConfiguration : Prop :=
  ∀ (s : State) (d : SectionData), s.awake = true → s.cfs.write = some d → ∃ t, exec .writeComplete s = .next t ∧
    t.cfs = ⟨s.cfs.working.put d, s.cfs.marks.put d, none, ⟨s.cfs.working.put d, s.cfs.marks.put d, true⟩, s.cfs.cause⟩ ∧
    (t.valid = false → t.handed = s.handed ++ [.replan .write] ∧ s.onlyChanges t [.cfs, .handed]) ∧
    (t.valid = true → t.limits = resolve t.table ∧ t.bsm = { s.bsm with low := 0, high := 0, sag := 0 } ∧
      t.dsl = s.dsl ∧ .replan .apply ∈ t.handed ∧
      (∀ n e k x v, slotAt s.table n = ⟨(slotAt s.table n).gen, some e⟩ → e.owner = .internal x →
        (x = .warmup ∧ v = t.cfg.thresholds.warmupCeiling) ∨ (x = .hot ∧ v = t.cfg.thresholds.hotCeiling) ∨
          (x = .pickup ∧ v = t.cfg.thresholds.degradedCeiling) →
        e.scope = .engines (only k) → t.fitted k = true →
        slotAt t.table n = ⟨(slotAt s.table n).gen, some { e with value := some v }⟩) ∧
      (∀ n e, slotAt s.table n = ⟨(slotAt s.table n).gen, some e⟩ → e.owner = .internal .batteryLow →
        slotAt t.table n = ⟨(slotAt s.table n).gen, some { e with scope := .engines (.of t.fitted) }⟩) ∧
      (∀ n e k, slotAt s.table n = ⟨(slotAt s.table n).gen, some e⟩ → e.owner = .internal .lockout →
        e.scope = .engines (only k) → t.fitted k = true → e.value = none → slotAt t.table n = slotAt s.table n) ∧
      (∀ n e o, slotAt s.table n = ⟨(slotAt s.table n).gen, some e⟩ → e.owner = .external o → e.scope = .locomotive →
        slotAt t.table n = slotAt s.table n) ∧
      (∀ k, t.fitted k = true → s.table.length = 49 → s.stands .lockout k = false →
        slotAt t.table (4 * (k.number - 1) + 3) =
          if t.cfg.thresholds.lockoutCount ≤ (t.dutyOf k).stored.consecutive then
            ⟨nextGen (slotAt s.table (4 * (k.number - 1) + 3)).gen, some
              { owner := .internal .lockout, kind := .startInhibit, scope := .engines (only k), value := none
                expiry := none }⟩
          else slotAt s.table (4 * (k.number - 1) + 3)) ∧
      (∀ n, (slotAt s.table n).entry = none → (∀ k, t.fitted k = true → n ≠ 4 * (k.number - 1) + 3) →
        slotAt t.table n = slotAt s.table n) ∧
      (∀ k, s.fitted k = false → t.fitted k = true →
        t.lic.iso.get k = ⟨false, 0, true⟩ ∧ t.lic.lube.get k = ⟨false, 0, true⟩) ∧
      (∀ k, s.fitted k = true → t.fitted k = false →
        (t.lic.iso.get k).level = false ∧ (t.lic.iso.get k).count = 0 ∧ (t.lic.lube.get k).level = false ∧
          (t.lic.lube.get k).count = 0) ∧
      (∀ k, t.fitted k = s.fitted k → t.lic.iso.get k = s.lic.iso.get k ∧ t.lic.lube.get k = s.lic.lube.get k) ∧
      t.lic = { s.lic with iso := t.lic.iso, lube := t.lic.lube } ∧
      (∀ i b l, .level i b l ∈ t.handed → .level i b l ∈ s.handed) ∧
      (∃ u u1 u2 u3 : State, u.cfs = t.cfs ∧ u.limits = t.limits ∧
        (∀ k, s.fitted k = true → t.fitted k = true → u.eng k = s.eng k ∧
          u.sense k = { s.sense k with hotCount := 0, coolCount := 0, overCount := 0, warmCount := 0 } ∧
          u.dutyOf k = s.dutyOf k) ∧
        (∀ k, s.fitted k = false → t.fitted k = true →
          u.eng k = .fresh ∧ u.sense k = .reset ∧ u.dutyOf k = (s.dct.store.get k).load k) ∧
        (s.car.queue = [] → s.car.holder = none → (∀ k, s.fitted k = true → (s.eng k).state.resting = true) →
          (t.cfg.arbiter.sharing ≠ s.cfg.arbiter.sharing → u.car = { s.car with line := .quiet, rerequest := none }) ∧
          (t.cfg.arbiter.sharing = s.cfg.arbiter.sharing →
            t.cfg.arbiter.sharing = .exclusive ∨ (s.car.line ≠ .asking ∧ s.car.line ≠ .held) → u.car = s.car)) ∧
        u.offersRunDemand u1 .e1 ∧ u1.offersRunDemand u2 .e2 ∧ u2.offersRunDemand u3 .e3 ∧
        u3.offersRunDemand t .e4) ∧
      (∀ k, s.fitted k = true → t.fitted k = false →
        t.eng k = .fresh ∧ t.sense k = .reset ∧ t.dutyOf k = .begin .zero false ∧
          t.cli.notices.changed.get k = false ∧ k ∉ t.dct.queue ∧ t.plan.online.get k = false ∧
          ∀ x e, slotAt s.table (internalSlot x k) = ⟨(slotAt s.table (internalSlot x k)).gen, some e⟩ →
            x ≠ .batteryLow → e.owner = .internal x → e.scope = .engines (only k) →
            slotAt t.table (internalSlot x k) = ⟨(slotAt s.table (internalSlot x k)).gen, none⟩) ∧
      (∀ n e o set, 17 ≤ n → slotAt s.table n = ⟨(slotAt s.table n).gen, some e⟩ → e.owner = .external o →
        e.scope = .engines set →
        ((∃ k, set.get k = true ∧ t.fitted k = true) → slotAt t.table n = ⟨(slotAt s.table n).gen,
          some { e with scope := .engines (.of fun k => set.get k && t.fitted k) }⟩) ∧
        ((∀ k, set.get k = true → t.fitted k = false) → slotAt t.table n = ⟨(slotAt s.table n).gen, none⟩)) ∧
      s.onlyChanges t
        [.lic, .table, .limits, .plan, .engine .e1, .engine .e2, .engine .e3, .engine .e4, .car, .sense .e1, .sense .e2,
          .sense .e3, .sense .e4, .bsm, .duty .e1, .duty .e2, .duty .e3, .duty .e4, .saves, .notices, .cfs, .handed])

/-- RESTART is BUSY during a write and WRONG_STATE with an engine not at rest; taken over the link it stops reception and
serving, so that CHARACTER_RECEIVED, REQUEST_FRAME_COMPLETE and SERVE_REQUEST change nothing (a frame that waits complete is
not taken in: log entry 42). A RESPONSE_SENT with more responses waiting sends the head and raises no reset yet; that of the
last response raises the reset, which nothing else waits for. Taken directly, RESTART raises its reset at once when no
response waits, and else leaves it to the last RESPONSE_SENT (log entry 2). The events handed are dropped when the reset is
raised (log entry 12). -/
def Obligations.RestartRaisesResetOnceAnswered : Prop :=
  ∀ (s : State) (c : Caller),
    (s.takes (.restart c) = true →
      (s.writing = true → ∃ t, exec (.restart c) s = .next t ∧ s.answers t (.restart c) .busy [] ∧
        s.onlyChanges t answerParts) ∧
      (s.writing = false → (∃ k, s.fitted k = true ∧ (s.eng k).state.resting = false) →
        ∃ t, exec (.restart c) s = .next t ∧ s.answers t (.restart c) .wrongState [] ∧ s.onlyChanges t answerParts) ∧
      (s.writing = false → (∀ k, s.fitted k = true → (s.eng k).state.resting = true) → s.cli.serving.isSome →
        ∃ t, exec (.restart c) s = .next t ∧ s.answers t (.restart c) .ok [] ∧ t.cli.restarting = true ∧
          s.onlyChanges t answerParts) ∧
      (s.writing = false → (∀ k, s.fitted k = true → (s.eng k).state.resting = true) → s.cli.serving = none →
        ∃ t, exec (.restart c) s = .next t ∧ s.answers t (.restart c) .ok [] ∧ t.cli.restarting = true ∧
          (s.cli.responses = [] → t.resetting = some .restart ∧ t.handed = [] ∧
            s.onlyChanges t (.resetting :: .handed :: answerParts)) ∧
          (s.cli.responses ≠ [] → s.onlyChanges t answerParts))) ∧
    (∀ a, s.awake = true → s.cli.restarting = true → s.cli.responses = [a] → ∃ t, exec .responseSent s = .next t ∧
      t.cli.sent = responseFrame a ∧ t.resetting = some .restart ∧ t.handed = [] ∧
      s.onlyChanges t [.link, .resetting, .handed, .cfs]) ∧
    (∀ a b rest, s.awake = true → s.cli.restarting = true → s.cli.responses = a :: b :: rest →
      (a.placed = false → ∃ t, exec .responseSent s = .next t ∧
        t.cli = { s.cli with responses := b :: rest, sent := responseFrame a } ∧ t.resetting = none ∧
        s.onlyChanges t [.link]) ∧
      (∀ pre post x, a.placed = true → s.cli.intake = pre ++ x :: post → x.served = true →
        (∀ y ∈ pre, y.served = false) → ∃ t, exec .responseSent s = .next t ∧
        t.cli = { s.cli with responses := b :: rest, sent := responseFrame a, intake := pre ++ post } ∧
        t.resetting = none ∧ s.onlyChanges t [.link])) ∧
    (s.awake = true → s.cli.restarting = true →
      (∀ ch bad, exec (.characterReceived ch bad) s = .next s) ∧ exec .requestFrameComplete s = .next s ∧
        exec .serveRequest s = .next s)
end

