-- ==== Sys2Proof/Laws/State.lean ====
section
/-! SUPPORT. One lemma per field per update of the state: what a setter writes and what it leaves. -/

namespace Sys2Proof.Machine

@[simp] theorem State.setLic_lic (s : State) (x : Lines Filter) : (s.setLic x).lic = x := rfl
@[simp] theorem State.setLic_dsl (s : State) (x : Lines Filter) : (s.setLic x).dsl = s.dsl := rfl
@[simp] theorem State.setLic_table (s : State) (x : Lines Filter) : (s.setLic x).table = s.table := rfl
@[simp] theorem State.setLic_limits (s : State) (x : Lines Filter) : (s.setLic x).limits = s.limits := rfl
@[simp] theorem State.setLic_plan (s : State) (x : Lines Filter) : (s.setLic x).plan = s.plan := rfl
@[simp] theorem State.setLic_engines (s : State) (x : Lines Filter) : (s.setLic x).engines = s.engines := rfl
@[simp] theorem State.setLic_car (s : State) (x : Lines Filter) : (s.setLic x).car = s.car := rfl
@[simp] theorem State.setLic_sensing (s : State) (x : Lines Filter) : (s.setLic x).sensing = s.sensing := rfl
@[simp] theorem State.setLic_bsm (s : State) (x : Lines Filter) : (s.setLic x).bsm = s.bsm := rfl
@[simp] theorem State.setLic_dct (s : State) (x : Lines Filter) : (s.setLic x).dct = s.dct := rfl
@[simp] theorem State.setLic_cli (s : State) (x : Lines Filter) : (s.setLic x).cli = s.cli := rfl
@[simp] theorem State.setLic_cfs (s : State) (x : Lines Filter) : (s.setLic x).cfs = s.cfs := rfl
@[simp] theorem State.setLic_resetting (s : State) (x : Lines Filter) : (s.setLic x).resetting = s.resetting := rfl
@[simp] theorem State.setLic_handed (s : State) (x : Lines Filter) : (s.setLic x).handed = s.handed := rfl
@[simp] theorem State.setLic_freeCount (s : State) (x : Lines Filter) : (s.setLic x).freeCount = s.freeCount := rfl
@[simp] theorem State.setLic_pending (s : State) (x : Lines Filter) : (s.setLic x).pending = s.pending := rfl

@[simp] theorem State.setDsl_lic (s : State) (x : Dsl) : (s.setDsl x).lic = s.lic := rfl
@[simp] theorem State.setDsl_dsl (s : State) (x : Dsl) : (s.setDsl x).dsl = x := rfl
@[simp] theorem State.setDsl_table (s : State) (x : Dsl) : (s.setDsl x).table = s.table := rfl
@[simp] theorem State.setDsl_limits (s : State) (x : Dsl) : (s.setDsl x).limits = s.limits := rfl
@[simp] theorem State.setDsl_plan (s : State) (x : Dsl) : (s.setDsl x).plan = s.plan := rfl
@[simp] theorem State.setDsl_engines (s : State) (x : Dsl) : (s.setDsl x).engines = s.engines := rfl
@[simp] theorem State.setDsl_car (s : State) (x : Dsl) : (s.setDsl x).car = s.car := rfl
@[simp] theorem State.setDsl_sensing (s : State) (x : Dsl) : (s.setDsl x).sensing = s.sensing := rfl
@[simp] theorem State.setDsl_bsm (s : State) (x : Dsl) : (s.setDsl x).bsm = s.bsm := rfl
@[simp] theorem State.setDsl_dct (s : State) (x : Dsl) : (s.setDsl x).dct = s.dct := rfl
@[simp] theorem State.setDsl_cli (s : State) (x : Dsl) : (s.setDsl x).cli = s.cli := rfl
@[simp] theorem State.setDsl_cfs (s : State) (x : Dsl) : (s.setDsl x).cfs = s.cfs := rfl
@[simp] theorem State.setDsl_resetting (s : State) (x : Dsl) : (s.setDsl x).resetting = s.resetting := rfl
@[simp] theorem State.setDsl_handed (s : State) (x : Dsl) : (s.setDsl x).handed = s.handed := rfl
@[simp] theorem State.setDsl_freeCount (s : State) (x : Dsl) : (s.setDsl x).freeCount = s.freeCount := rfl
@[simp] theorem State.setDsl_pending (s : State) (x : Dsl) : (s.setDsl x).pending = s.pending := rfl

@[simp] theorem State.setTable_lic (s : State) (x : List Slot) : (s.setTable x).lic = s.lic := rfl
@[simp] theorem State.setTable_dsl (s : State) (x : List Slot) : (s.setTable x).dsl = s.dsl := rfl
@[simp] theorem State.setTable_table (s : State) (x : List Slot) : (s.setTable x).table = x := rfl
@[simp] theorem State.setTable_limits (s : State) (x : List Slot) : (s.setTable x).limits = s.limits := rfl
@[simp] theorem State.setTable_plan (s : State) (x : List Slot) : (s.setTable x).plan = s.plan := rfl
@[simp] theorem State.setTable_engines (s : State) (x : List Slot) : (s.setTable x).engines = s.engines := rfl
@[simp] theorem State.setTable_car (s : State) (x : List Slot) : (s.setTable x).car = s.car := rfl
@[simp] theorem State.setTable_sensing (s : State) (x : List Slot) : (s.setTable x).sensing = s.sensing := rfl
@[simp] theorem State.setTable_bsm (s : State) (x : List Slot) : (s.setTable x).bsm = s.bsm := rfl
@[simp] theorem State.setTable_dct (s : State) (x : List Slot) : (s.setTable x).dct = s.dct := rfl
@[simp] theorem State.setTable_cli (s : State) (x : List Slot) : (s.setTable x).cli = s.cli := rfl
@[simp] theorem State.setTable_cfs (s : State) (x : List Slot) : (s.setTable x).cfs = s.cfs := rfl
@[simp] theorem State.setTable_resetting (s : State) (x : List Slot) : (s.setTable x).resetting = s.resetting := rfl
@[simp] theorem State.setTable_handed (s : State) (x : List Slot) : (s.setTable x).handed = s.handed := rfl
@[simp] theorem State.setTable_freeCount (s : State) (x : List Slot) : (s.setTable x).freeCount = s.freeCount := rfl
@[simp] theorem State.setTable_pending (s : State) (x : List Slot) : (s.setTable x).pending = s.pending := rfl

@[simp] theorem State.setLimits_lic (s : State) (x : Limits) : (s.setLimits x).lic = s.lic := rfl
@[simp] theorem State.setLimits_dsl (s : State) (x : Limits) : (s.setLimits x).dsl = s.dsl := rfl
@[simp] theorem State.setLimits_table (s : State) (x : Limits) : (s.setLimits x).table = s.table := rfl
@[simp] theorem State.setLimits_limits (s : State) (x : Limits) : (s.setLimits x).limits = x := rfl
@[simp] theorem State.setLimits_plan (s : State) (x : Limits) : (s.setLimits x).plan = s.plan := rfl
@[simp] theorem State.setLimits_engines (s : State) (x : Limits) : (s.setLimits x).engines = s.engines := rfl
@[simp] theorem State.setLimits_car (s : State) (x : Limits) : (s.setLimits x).car = s.car := rfl
@[simp] theorem State.setLimits_sensing (s : State) (x : Limits) : (s.setLimits x).sensing = s.sensing := rfl
@[simp] theorem State.setLimits_bsm (s : State) (x : Limits) : (s.setLimits x).bsm = s.bsm := rfl
@[simp] theorem State.setLimits_dct (s : State) (x : Limits) : (s.setLimits x).dct = s.dct := rfl
@[simp] theorem State.setLimits_cli (s : State) (x : Limits) : (s.setLimits x).cli = s.cli := rfl
@[simp] theorem State.setLimits_cfs (s : State) (x : Limits) : (s.setLimits x).cfs = s.cfs := rfl
@[simp] theorem State.setLimits_resetting (s : State) (x : Limits) : (s.setLimits x).resetting = s.resetting := rfl
@[simp] theorem State.setLimits_handed (s : State) (x : Limits) : (s.setLimits x).handed = s.handed := rfl
@[simp] theorem State.setLimits_freeCount (s : State) (x : Limits) : (s.setLimits x).freeCount = s.freeCount := rfl
@[simp] theorem State.setLimits_pending (s : State) (x : Limits) : (s.setLimits x).pending = s.pending := rfl

@[simp] theorem State.setPlan_lic (s : State) (x : Plan) : (s.setPlan x).lic = s.lic := rfl
@[simp] theorem State.setPlan_dsl (s : State) (x : Plan) : (s.setPlan x).dsl = s.dsl := rfl
@[simp] theorem State.setPlan_table (s : State) (x : Plan) : (s.setPlan x).table = s.table := rfl
@[simp] theorem State.setPlan_limits (s : State) (x : Plan) : (s.setPlan x).limits = s.limits := rfl
@[simp] theorem State.setPlan_plan (s : State) (x : Plan) : (s.setPlan x).plan = x := rfl
@[simp] theorem State.setPlan_engines (s : State) (x : Plan) : (s.setPlan x).engines = s.engines := rfl
@[simp] theorem State.setPlan_car (s : State) (x : Plan) : (s.setPlan x).car = s.car := rfl
@[simp] theorem State.setPlan_sensing (s : State) (x : Plan) : (s.setPlan x).sensing = s.sensing := rfl
@[simp] theorem State.setPlan_bsm (s : State) (x : Plan) : (s.setPlan x).bsm = s.bsm := rfl
@[simp] theorem State.setPlan_dct (s : State) (x : Plan) : (s.setPlan x).dct = s.dct := rfl
@[simp] theorem State.setPlan_cli (s : State) (x : Plan) : (s.setPlan x).cli = s.cli := rfl
@[simp] theorem State.setPlan_cfs (s : State) (x : Plan) : (s.setPlan x).cfs = s.cfs := rfl
@[simp] theorem State.setPlan_resetting (s : State) (x : Plan) : (s.setPlan x).resetting = s.resetting := rfl
@[simp] theorem State.setPlan_handed (s : State) (x : Plan) : (s.setPlan x).handed = s.handed := rfl
@[simp] theorem State.setPlan_freeCount (s : State) (x : Plan) : (s.setPlan x).freeCount = s.freeCount := rfl
@[simp] theorem State.setPlan_pending (s : State) (x : Plan) : (s.setPlan x).pending = s.pending := rfl

@[simp] theorem State.setEngines_lic (s : State) (x : PerEngine EngineRec) : (s.setEngines x).lic = s.lic := rfl
@[simp] theorem State.setEngines_dsl (s : State) (x : PerEngine EngineRec) : (s.setEngines x).dsl = s.dsl := rfl
@[simp] theorem State.setEngines_table (s : State) (x : PerEngine EngineRec) : (s.setEngines x).table = s.table := rfl
@[simp] theorem State.setEngines_limits (s : State) (x : PerEngine EngineRec) : (s.setEngines x).limits = s.limits := rfl
@[simp] theorem State.setEngines_plan (s : State) (x : PerEngine EngineRec) : (s.setEngines x).plan = s.plan := rfl
@[simp] theorem State.setEngines_engines (s : State) (x : PerEngine EngineRec) : (s.setEngines x).engines = x := rfl
@[simp] theorem State.setEngines_car (s : State) (x : PerEngine EngineRec) : (s.setEngines x).car = s.car := rfl
@[simp] theorem State.setEngines_sensing (s : State) (x : PerEngine EngineRec) : (s.setEngines x).sensing = s.sensing := rfl
@[simp] theorem State.setEngines_bsm (s : State) (x : PerEngine EngineRec) : (s.setEngines x).bsm = s.bsm := rfl
@[simp] theorem State.setEngines_dct (s : State) (x : PerEngine EngineRec) : (s.setEngines x).dct = s.dct := rfl
@[simp] theorem State.setEngines_cli (s : State) (x : PerEngine EngineRec) : (s.setEngines x).cli = s.cli := rfl
@[simp] theorem State.setEngines_cfs (s : State) (x : PerEngine EngineRec) : (s.setEngines x).cfs = s.cfs := rfl
@[simp] theorem State.setEngines_resetting (s : State) (x : PerEngine EngineRec) : (s.setEngines x).resetting = s.resetting := rfl
@[simp] theorem State.setEngines_handed (s : State) (x : PerEngine EngineRec) : (s.setEngines x).handed = s.handed := rfl
@[simp] theorem State.setEngines_freeCount (s : State) (x : PerEngine EngineRec) : (s.setEngines x).freeCount = s.freeCount := rfl
@[simp] theorem State.setEngines_pending (s : State) (x : PerEngine EngineRec) : (s.setEngines x).pending = s.pending := rfl

@[simp] theorem State.setCar_lic (s : State) (x : Car) : (s.setCar x).lic = s.lic := rfl
@[simp] theorem State.setCar_dsl (s : State) (x : Car) : (s.setCar x).dsl = s.dsl := rfl
@[simp] theorem State.setCar_table (s : State) (x : Car) : (s.setCar x).table = s.table := rfl
@[simp] theorem State.setCar_limits (s : State) (x : Car) : (s.setCar x).limits = s.limits := rfl
@[simp] theorem State.setCar_plan (s : State) (x : Car) : (s.setCar x).plan = s.plan := rfl
@[simp] theorem State.setCar_engines (s : State) (x : Car) : (s.setCar x).engines = s.engines := rfl
@[simp] theorem State.setCar_car (s : State) (x : Car) : (s.setCar x).car = x := rfl
@[simp] theorem State.setCar_sensing (s : State) (x : Car) : (s.setCar x).sensing = s.sensing := rfl
@[simp] theorem State.setCar_bsm (s : State) (x : Car) : (s.setCar x).bsm = s.bsm := rfl
@[simp] theorem State.setCar_dct (s : State) (x : Car) : (s.setCar x).dct = s.dct := rfl
@[simp] theorem State.setCar_cli (s : State) (x : Car) : (s.setCar x).cli = s.cli := rfl
@[simp] theorem State.setCar_cfs (s : State) (x : Car) : (s.setCar x).cfs = s.cfs := rfl
@[simp] theorem State.setCar_resetting (s : State) (x : Car) : (s.setCar x).resetting = s.resetting := rfl
@[simp] theorem State.setCar_handed (s : State) (x : Car) : (s.setCar x).handed = s.handed := rfl
@[simp] theorem State.setCar_freeCount (s : State) (x : Car) : (s.setCar x).freeCount = s.freeCount := rfl
@[simp] theorem State.setCar_pending (s : State) (x : Car) : (s.setCar x).pending = s.pending := rfl

@[simp] theorem State.setSensing_lic (s : State) (x : PerEngine Sensing) : (s.setSensing x).lic = s.lic := rfl
@[simp] theorem State.setSensing_dsl (s : State) (x : PerEngine Sensing) : (s.setSensing x).dsl = s.dsl := rfl
@[simp] theorem State.setSensing_table (s : State) (x : PerEngine Sensing) : (s.setSensing x).table = s.table := rfl
@[simp] theorem State.setSensing_limits (s : State) (x : PerEngine Sensing) : (s.setSensing x).limits = s.limits := rfl
@[simp] theorem State.setSensing_plan (s : State) (x : PerEngine Sensing) : (s.setSensing x).plan = s.plan := rfl
@[simp] theorem State.setSensing_engines (s : State) (x : PerEngine Sensing) : (s.setSensing x).engines = s.engines := rfl
@[simp] theorem State.setSensing_car (s : State) (x : PerEngine Sensing) : (s.setSensing x).car = s.car := rfl
@[simp] theorem State.setSensing_sensing (s : State) (x : PerEngine Sensing) : (s.setSensing x).sensing = x := rfl
@[simp] theorem State.setSensing_bsm (s : State) (x : PerEngine Sensing) : (s.setSensing x).bsm = s.bsm := rfl
@[simp] theorem State.setSensing_dct (s : State) (x : PerEngine Sensing) : (s.setSensing x).dct = s.dct := rfl
@[simp] theorem State.setSensing_cli (s : State) (x : PerEngine Sensing) : (s.setSensing x).cli = s.cli := rfl
@[simp] theorem State.setSensing_cfs (s : State) (x : PerEngine Sensing) : (s.setSensing x).cfs = s.cfs := rfl
@[simp] theorem State.setSensing_resetting (s : State) (x : PerEngine Sensing) : (s.setSensing x).resetting = s.resetting := rfl
@[simp] theorem State.setSensing_handed (s : State) (x : PerEngine Sensing) : (s.setSensing x).handed = s.handed := rfl
@[simp] theorem State.setSensing_freeCount (s : State) (x : PerEngine Sensing) : (s.setSensing x).freeCount = s.freeCount := rfl
@[simp] theorem State.setSensing_pending (s : State) (x : PerEngine Sensing) : (s.setSensing x).pending = s.pending := rfl

@[simp] theorem State.setBsm_lic (s : State) (x : Bsm) : (s.setBsm x).lic = s.lic := rfl
@[simp] theorem State.setBsm_dsl (s : State) (x : Bsm) : (s.setBsm x).dsl = s.dsl := rfl
@[simp] theorem State.setBsm_table (s : State) (x : Bsm) : (s.setBsm x).table = s.table := rfl
@[simp] theorem State.setBsm_limits (s : State) (x : Bsm) : (s.setBsm x).limits = s.limits := rfl
@[simp] theorem State.setBsm_plan (s : State) (x : Bsm) : (s.setBsm x).plan = s.plan := rfl
@[simp] theorem State.setBsm_engines (s : State) (x : Bsm) : (s.setBsm x).engines = s.engines := rfl
@[simp] theorem State.setBsm_car (s : State) (x : Bsm) : (s.setBsm x).car = s.car := rfl
@[simp] theorem State.setBsm_sensing (s : State) (x : Bsm) : (s.setBsm x).sensing = s.sensing := rfl
@[simp] theorem State.setBsm_bsm (s : State) (x : Bsm) : (s.setBsm x).bsm = x := rfl
@[simp] theorem State.setBsm_dct (s : State) (x : Bsm) : (s.setBsm x).dct = s.dct := rfl
@[simp] theorem State.setBsm_cli (s : State) (x : Bsm) : (s.setBsm x).cli = s.cli := rfl
@[simp] theorem State.setBsm_cfs (s : State) (x : Bsm) : (s.setBsm x).cfs = s.cfs := rfl
@[simp] theorem State.setBsm_resetting (s : State) (x : Bsm) : (s.setBsm x).resetting = s.resetting := rfl
@[simp] theorem State.setBsm_handed (s : State) (x : Bsm) : (s.setBsm x).handed = s.handed := rfl
@[simp] theorem State.setBsm_freeCount (s : State) (x : Bsm) : (s.setBsm x).freeCount = s.freeCount := rfl
@[simp] theorem State.setBsm_pending (s : State) (x : Bsm) : (s.setBsm x).pending = s.pending := rfl

@[simp] theorem State.setDct_lic (s : State) (x : Dct) : (s.setDct x).lic = s.lic := rfl
@[simp] theorem State.setDct_dsl (s : State) (x : Dct) : (s.setDct x).dsl = s.dsl := rfl
@[simp] theorem State.setDct_table (s : State) (x : Dct) : (s.setDct x).table = s.table := rfl
@[simp] theorem State.setDct_limits (s : State) (x : Dct) : (s.setDct x).limits = s.limits := rfl
@[simp] theorem State.setDct_plan (s : State) (x : Dct) : (s.setDct x).plan = s.plan := rfl
@[simp] theorem State.setDct_engines (s : State) (x : Dct) : (s.setDct x).engines = s.engines := rfl
@[simp] theorem State.setDct_car (s : State) (x : Dct) : (s.setDct x).car = s.car := rfl
@[simp] theorem State.setDct_sensing (s : State) (x : Dct) : (s.setDct x).sensing = s.sensing := rfl
@[simp] theorem State.setDct_bsm (s : State) (x : Dct) : (s.setDct x).bsm = s.bsm := rfl
@[simp] theorem State.setDct_dct (s : State) (x : Dct) : (s.setDct x).dct = x := rfl
@[simp] theorem State.setDct_cli (s : State) (x : Dct) : (s.setDct x).cli = s.cli := rfl
@[simp] theorem State.setDct_cfs (s : State) (x : Dct) : (s.setDct x).cfs = s.cfs := rfl
@[simp] theorem State.setDct_resetting (s : State) (x : Dct) : (s.setDct x).resetting = s.resetting := rfl
@[simp] theorem State.setDct_handed (s : State) (x : Dct) : (s.setDct x).handed = s.handed := rfl
@[simp] theorem State.setDct_freeCount (s : State) (x : Dct) : (s.setDct x).freeCount = s.freeCount := rfl
@[simp] theorem State.setDct_pending (s : State) (x : Dct) : (s.setDct x).pending = s.pending := rfl

@[simp] theorem State.setCli_lic (s : State) (x : Cli) : (s.setCli x).lic = s.lic := rfl
@[simp] theorem State.setCli_dsl (s : State) (x : Cli) : (s.setCli x).dsl = s.dsl := rfl
@[simp] theorem State.setCli_table (s : State) (x : Cli) : (s.setCli x).table = s.table := rfl
@[simp] theorem State.setCli_limits (s : State) (x : Cli) : (s.setCli x).limits = s.limits := rfl
@[simp] theorem State.setCli_plan (s : State) (x : Cli) : (s.setCli x).plan = s.plan := rfl
@[simp] theorem State.setCli_engines (s : State) (x : Cli) : (s.setCli x).engines = s.engines := rfl
@[simp] theorem State.setCli_car (s : State) (x : Cli) : (s.setCli x).car = s.car := rfl
@[simp] theorem State.setCli_sensing (s : State) (x : Cli) : (s.setCli x).sensing = s.sensing := rfl
@[simp] theorem State.setCli_bsm (s : State) (x : Cli) : (s.setCli x).bsm = s.bsm := rfl
@[simp] theorem State.setCli_dct (s : State) (x : Cli) : (s.setCli x).dct = s.dct := rfl
@[simp] theorem State.setCli_cli (s : State) (x : Cli) : (s.setCli x).cli = x := rfl
@[simp] theorem State.setCli_cfs (s : State) (x : Cli) : (s.setCli x).cfs = s.cfs := rfl
@[simp] theorem State.setCli_resetting (s : State) (x : Cli) : (s.setCli x).resetting = s.resetting := rfl
@[simp] theorem State.setCli_handed (s : State) (x : Cli) : (s.setCli x).handed = s.handed := rfl
@[simp] theorem State.setCli_freeCount (s : State) (x : Cli) : (s.setCli x).freeCount = s.freeCount := rfl
@[simp] theorem State.setCli_pending (s : State) (x : Cli) : (s.setCli x).pending = s.pending := rfl

@[simp] theorem State.setCfs_lic (s : State) (x : Cfs) : (s.setCfs x).lic = s.lic := rfl
@[simp] theorem State.setCfs_dsl (s : State) (x : Cfs) : (s.setCfs x).dsl = s.dsl := rfl
@[simp] theorem State.setCfs_table (s : State) (x : Cfs) : (s.setCfs x).table = s.table := rfl
@[simp] theorem State.setCfs_limits (s : State) (x : Cfs) : (s.setCfs x).limits = s.limits := rfl
@[simp] theorem State.setCfs_plan (s : State) (x : Cfs) : (s.setCfs x).plan = s.plan := rfl
@[simp] theorem State.setCfs_engines (s : State) (x : Cfs) : (s.setCfs x).engines = s.engines := rfl
@[simp] theorem State.setCfs_car (s : State) (x : Cfs) : (s.setCfs x).car = s.car := rfl
@[simp] theorem State.setCfs_sensing (s : State) (x : Cfs) : (s.setCfs x).sensing = s.sensing := rfl
@[simp] theorem State.setCfs_bsm (s : State) (x : Cfs) : (s.setCfs x).bsm = s.bsm := rfl
@[simp] theorem State.setCfs_dct (s : State) (x : Cfs) : (s.setCfs x).dct = s.dct := rfl
@[simp] theorem State.setCfs_cli (s : State) (x : Cfs) : (s.setCfs x).cli = s.cli := rfl
@[simp] theorem State.setCfs_cfs (s : State) (x : Cfs) : (s.setCfs x).cfs = x := rfl
@[simp] theorem State.setCfs_resetting (s : State) (x : Cfs) : (s.setCfs x).resetting = s.resetting := rfl
@[simp] theorem State.setCfs_handed (s : State) (x : Cfs) : (s.setCfs x).handed = s.handed := rfl
@[simp] theorem State.setCfs_freeCount (s : State) (x : Cfs) : (s.setCfs x).freeCount = s.freeCount := rfl
@[simp] theorem State.setCfs_pending (s : State) (x : Cfs) : (s.setCfs x).pending = s.pending := rfl

@[simp] theorem State.setResetting_lic (s : State) (x : Option ResetKind) : (s.setResetting x).lic = s.lic := rfl
@[simp] theorem State.setResetting_dsl (s : State) (x : Option ResetKind) : (s.setResetting x).dsl = s.dsl := rfl
@[simp] theorem State.setResetting_table (s : State) (x : Option ResetKind) : (s.setResetting x).table = s.table := rfl
@[simp] theorem State.setResetting_limits (s : State) (x : Option ResetKind) : (s.setResetting x).limits = s.limits := rfl
@[simp] theorem State.setResetting_plan (s : State) (x : Option ResetKind) : (s.setResetting x).plan = s.plan := rfl
@[simp] theorem State.setResetting_engines (s : State) (x : Option ResetKind) : (s.setResetting x).engines = s.engines := rfl
@[simp] theorem State.setResetting_car (s : State) (x : Option ResetKind) : (s.setResetting x).car = s.car := rfl
@[simp] theorem State.setResetting_sensing (s : State) (x : Option ResetKind) : (s.setResetting x).sensing = s.sensing := rfl
@[simp] theorem State.setResetting_bsm (s : State) (x : Option ResetKind) : (s.setResetting x).bsm = s.bsm := rfl
@[simp] theorem State.setResetting_dct (s : State) (x : Option ResetKind) : (s.setResetting x).dct = s.dct := rfl
@[simp] theorem State.setResetting_cli (s : State) (x : Option ResetKind) : (s.setResetting x).cli = s.cli := rfl
@[simp] theorem State.setResetting_cfs (s : State) (x : Option ResetKind) : (s.setResetting x).cfs = s.cfs := rfl
@[simp] theorem State.setResetting_resetting (s : State) (x : Option ResetKind) : (s.setResetting x).resetting = x := rfl
@[simp] theorem State.setResetting_handed (s : State) (x : Option ResetKind) : (s.setResetting x).handed = s.handed := rfl
@[simp] theorem State.setResetting_freeCount (s : State) (x : Option ResetKind) : (s.setResetting x).freeCount = s.freeCount := rfl
@[simp] theorem State.setResetting_pending (s : State) (x : Option ResetKind) : (s.setResetting x).pending = s.pending := rfl

@[simp] theorem State.setHanded_lic (s : State) (x : List Event) : (s.setHanded x).lic = s.lic := rfl
@[simp] theorem State.setHanded_dsl (s : State) (x : List Event) : (s.setHanded x).dsl = s.dsl := rfl
@[simp] theorem State.setHanded_table (s : State) (x : List Event) : (s.setHanded x).table = s.table := rfl
@[simp] theorem State.setHanded_limits (s : State) (x : List Event) : (s.setHanded x).limits = s.limits := rfl
@[simp] theorem State.setHanded_plan (s : State) (x : List Event) : (s.setHanded x).plan = s.plan := rfl
@[simp] theorem State.setHanded_engines (s : State) (x : List Event) : (s.setHanded x).engines = s.engines := rfl
@[simp] theorem State.setHanded_car (s : State) (x : List Event) : (s.setHanded x).car = s.car := rfl
@[simp] theorem State.setHanded_sensing (s : State) (x : List Event) : (s.setHanded x).sensing = s.sensing := rfl
@[simp] theorem State.setHanded_bsm (s : State) (x : List Event) : (s.setHanded x).bsm = s.bsm := rfl
@[simp] theorem State.setHanded_dct (s : State) (x : List Event) : (s.setHanded x).dct = s.dct := rfl
@[simp] theorem State.setHanded_cli (s : State) (x : List Event) : (s.setHanded x).cli = s.cli := rfl
@[simp] theorem State.setHanded_cfs (s : State) (x : List Event) : (s.setHanded x).cfs = s.cfs := rfl
@[simp] theorem State.setHanded_resetting (s : State) (x : List Event) : (s.setHanded x).resetting = s.resetting := rfl
@[simp] theorem State.setHanded_handed (s : State) (x : List Event) : (s.setHanded x).handed = x := rfl
@[simp] theorem State.setHanded_freeCount (s : State) (x : List Event) : (s.setHanded x).freeCount = s.freeCount := rfl
@[simp] theorem State.setHanded_pending (s : State) (x : List Event) : (s.setHanded x).pending = s.pending := rfl

@[simp] theorem State.setFreeCount_lic (s : State) (x : Nat) : (s.setFreeCount x).lic = s.lic := rfl
@[simp] theorem State.setFreeCount_dsl (s : State) (x : Nat) : (s.setFreeCount x).dsl = s.dsl := rfl
@[simp] theorem State.setFreeCount_table (s : State) (x : Nat) : (s.setFreeCount x).table = s.table := rfl
@[simp] theorem State.setFreeCount_limits (s : State) (x : Nat) : (s.setFreeCount x).limits = s.limits := rfl
@[simp] theorem State.setFreeCount_plan (s : State) (x : Nat) : (s.setFreeCount x).plan = s.plan := rfl
@[simp] theorem State.setFreeCount_engines (s : State) (x : Nat) : (s.setFreeCount x).engines = s.engines := rfl
@[simp] theorem State.setFreeCount_car (s : State) (x : Nat) : (s.setFreeCount x).car = s.car := rfl
@[simp] theorem State.setFreeCount_sensing (s : State) (x : Nat) : (s.setFreeCount x).sensing = s.sensing := rfl
@[simp] theorem State.setFreeCount_bsm (s : State) (x : Nat) : (s.setFreeCount x).bsm = s.bsm := rfl
@[simp] theorem State.setFreeCount_dct (s : State) (x : Nat) : (s.setFreeCount x).dct = s.dct := rfl
@[simp] theorem State.setFreeCount_cli (s : State) (x : Nat) : (s.setFreeCount x).cli = s.cli := rfl
@[simp] theorem State.setFreeCount_cfs (s : State) (x : Nat) : (s.setFreeCount x).cfs = s.cfs := rfl
@[simp] theorem State.setFreeCount_resetting (s : State) (x : Nat) : (s.setFreeCount x).resetting = s.resetting := rfl
@[simp] theorem State.setFreeCount_handed (s : State) (x : Nat) : (s.setFreeCount x).handed = s.handed := rfl
@[simp] theorem State.setFreeCount_freeCount (s : State) (x : Nat) : (s.setFreeCount x).freeCount = x := rfl
@[simp] theorem State.setFreeCount_pending (s : State) (x : Nat) : (s.setFreeCount x).pending = s.pending := rfl

@[simp] theorem State.setPending_lic (s : State) (x : List Instr) : (s.setPending x).lic = s.lic := rfl
@[simp] theorem State.setPending_dsl (s : State) (x : List Instr) : (s.setPending x).dsl = s.dsl := rfl
@[simp] theorem State.setPending_table (s : State) (x : List Instr) : (s.setPending x).table = s.table := rfl
@[simp] theorem State.setPending_limits (s : State) (x : List Instr) : (s.setPending x).limits = s.limits := rfl
@[simp] theorem State.setPending_plan (s : State) (x : List Instr) : (s.setPending x).plan = s.plan := rfl
@[simp] theorem State.setPending_engines (s : State) (x : List Instr) : (s.setPending x).engines = s.engines := rfl
@[simp] theorem State.setPending_car (s : State) (x : List Instr) : (s.setPending x).car = s.car := rfl
@[simp] theorem State.setPending_sensing (s : State) (x : List Instr) : (s.setPending x).sensing = s.sensing := rfl
@[simp] theorem State.setPending_bsm (s : State) (x : List Instr) : (s.setPending x).bsm = s.bsm := rfl
@[simp] theorem State.setPending_dct (s : State) (x : List Instr) : (s.setPending x).dct = s.dct := rfl
@[simp] theorem State.setPending_cli (s : State) (x : List Instr) : (s.setPending x).cli = s.cli := rfl
@[simp] theorem State.setPending_cfs (s : State) (x : List Instr) : (s.setPending x).cfs = s.cfs := rfl
@[simp] theorem State.setPending_resetting (s : State) (x : List Instr) : (s.setPending x).resetting = s.resetting := rfl
@[simp] theorem State.setPending_handed (s : State) (x : List Instr) : (s.setPending x).handed = s.handed := rfl
@[simp] theorem State.setPending_freeCount (s : State) (x : List Instr) : (s.setPending x).freeCount = s.freeCount := rfl
@[simp] theorem State.setPending_pending (s : State) (x : List Instr) : (s.setPending x).pending = x := rfl

end Sys2Proof.Machine
end

