-- ==== Sys2Proof/Laws/Frames.lean ====
section
/-! SUPPORT. What each shared operation leaves unchanged, one lemma per operation: the provers cite these instead of
unfolding the operation. -/

namespace Sys2Proof.Machine

/-- What every engine's turn keeps, a turn for every fitted engine keeps. -/
theorem State.forFitted_keeps {α : Type} (g : State → α) (s : State) (act : Engine → State → State)
    (h : ∀ k t, g (act k t) = g t) : g (s.forFitted act) = g s := by
  unfold State.forFitted
  generalize s.fittedEngines = ks
  induction ks generalizing s with
  | nil => rfl
  | cons k ks ih => rw [List.foldl_cons, ih, h]

@[simp] theorem State.setEng_keeps (s : State) (k : Engine) (r : EngineRec) :
    (s.setEng k r).lic = s.lic ∧ (s.setEng k r).dsl = s.dsl ∧ (s.setEng k r).table = s.table ∧
    (s.setEng k r).limits = s.limits ∧ (s.setEng k r).plan = s.plan ∧ (s.setEng k r).car = s.car ∧
    (s.setEng k r).sensing = s.sensing ∧ (s.setEng k r).bsm = s.bsm ∧ (s.setEng k r).dct = s.dct ∧
    (s.setEng k r).cli = s.cli ∧ (s.setEng k r).cfs = s.cfs ∧ (s.setEng k r).resetting = s.resetting ∧
    (s.setEng k r).handed = s.handed ∧ (s.setEng k r).freeCount = s.freeCount ∧
    (s.setEng k r).pending = s.pending := by
  refine ⟨?_, ?_, ?_, ?_, ?_, ?_, ?_, ?_, ?_, ?_, ?_, ?_, ?_, ?_, ?_⟩ <;> unfold State.setEng <;> simp

@[simp] theorem State.setSense_keeps (s : State) (k : Engine) (x : Sensing) :
    (s.setSense k x).lic = s.lic ∧ (s.setSense k x).dsl = s.dsl ∧ (s.setSense k x).table = s.table ∧
    (s.setSense k x).limits = s.limits ∧ (s.setSense k x).plan = s.plan ∧ (s.setSense k x).engines = s.engines ∧
    (s.setSense k x).car = s.car ∧ (s.setSense k x).bsm = s.bsm ∧ (s.setSense k x).dct = s.dct ∧
    (s.setSense k x).cli = s.cli ∧ (s.setSense k x).cfs = s.cfs ∧ (s.setSense k x).resetting = s.resetting ∧
    (s.setSense k x).handed = s.handed ∧ (s.setSense k x).freeCount = s.freeCount ∧
    (s.setSense k x).pending = s.pending := by
  refine ⟨?_, ?_, ?_, ?_, ?_, ?_, ?_, ?_, ?_, ?_, ?_, ?_, ?_, ?_, ?_⟩ <;> unfold State.setSense <;> simp

@[simp] theorem State.setDuty_keeps (s : State) (k : Engine) (d : Duty) :
    (s.setDuty k d).lic = s.lic ∧ (s.setDuty k d).dsl = s.dsl ∧ (s.setDuty k d).table = s.table ∧
    (s.setDuty k d).limits = s.limits ∧ (s.setDuty k d).plan = s.plan ∧ (s.setDuty k d).engines = s.engines ∧
    (s.setDuty k d).car = s.car ∧ (s.setDuty k d).sensing = s.sensing ∧ (s.setDuty k d).bsm = s.bsm ∧
    (s.setDuty k d).cli = s.cli ∧ (s.setDuty k d).cfs = s.cfs ∧ (s.setDuty k d).resetting = s.resetting ∧
    (s.setDuty k d).handed = s.handed ∧ (s.setDuty k d).freeCount = s.freeCount ∧
    (s.setDuty k d).pending = s.pending := by
  refine ⟨?_, ?_, ?_, ?_, ?_, ?_, ?_, ?_, ?_, ?_, ?_, ?_, ?_, ?_, ?_⟩ <;> unfold State.setDuty <;> (try simp only []) <;> simp

@[simp] theorem State.emitAll_keeps (s : State) (es : List Event) :
    (s.emitAll es).lic = s.lic ∧ (s.emitAll es).dsl = s.dsl ∧ (s.emitAll es).table = s.table ∧
    (s.emitAll es).limits = s.limits ∧ (s.emitAll es).plan = s.plan ∧ (s.emitAll es).engines = s.engines ∧
    (s.emitAll es).car = s.car ∧ (s.emitAll es).sensing = s.sensing ∧ (s.emitAll es).bsm = s.bsm ∧
    (s.emitAll es).dct = s.dct ∧ (s.emitAll es).cli = s.cli ∧ (s.emitAll es).cfs = s.cfs ∧
    (s.emitAll es).resetting = s.resetting ∧ (s.emitAll es).freeCount = s.freeCount ∧
    (s.emitAll es).pending = s.pending := by
  refine ⟨?_, ?_, ?_, ?_, ?_, ?_, ?_, ?_, ?_, ?_, ?_, ?_, ?_, ?_, ?_⟩ <;> unfold State.emitAll <;> simp

@[simp] theorem State.emit_keeps (s : State) (e : Event) :
    (s.emit e).lic = s.lic ∧ (s.emit e).dsl = s.dsl ∧ (s.emit e).table = s.table ∧ (s.emit e).limits = s.limits ∧
    (s.emit e).plan = s.plan ∧ (s.emit e).engines = s.engines ∧ (s.emit e).car = s.car ∧
    (s.emit e).sensing = s.sensing ∧ (s.emit e).bsm = s.bsm ∧ (s.emit e).dct = s.dct ∧ (s.emit e).cli = s.cli ∧
    (s.emit e).cfs = s.cfs ∧ (s.emit e).resetting = s.resetting ∧ (s.emit e).freeCount = s.freeCount ∧
    (s.emit e).pending = s.pending := by
  refine ⟨?_, ?_, ?_, ?_, ?_, ?_, ?_, ?_, ?_, ?_, ?_, ?_, ?_, ?_, ?_⟩ <;> unfold State.emit <;> simp

@[simp] theorem State.recompute_keeps (s : State) :
    (s.recompute).lic = s.lic ∧ (s.recompute).dsl = s.dsl ∧ (s.recompute).table = s.table ∧
    (s.recompute).plan = s.plan ∧ (s.recompute).engines = s.engines ∧ (s.recompute).car = s.car ∧
    (s.recompute).sensing = s.sensing ∧ (s.recompute).bsm = s.bsm ∧ (s.recompute).dct = s.dct ∧
    (s.recompute).cli = s.cli ∧ (s.recompute).cfs = s.cfs ∧ (s.recompute).resetting = s.resetting ∧
    (s.recompute).freeCount = s.freeCount ∧ (s.recompute).pending = s.pending := by
  refine ⟨?_, ?_, ?_, ?_, ?_, ?_, ?_, ?_, ?_, ?_, ?_, ?_, ?_, ?_⟩ <;> unfold State.recompute <;> (repeat' split) <;> simp

@[simp] theorem State.changeTable_keeps (s : State) (t : List Slot) :
    (s.changeTable t).lic = s.lic ∧ (s.changeTable t).dsl = s.dsl ∧ (s.changeTable t).plan = s.plan ∧
    (s.changeTable t).engines = s.engines ∧ (s.changeTable t).car = s.car ∧ (s.changeTable t).sensing = s.sensing ∧
    (s.changeTable t).bsm = s.bsm ∧ (s.changeTable t).dct = s.dct ∧ (s.changeTable t).cli = s.cli ∧
    (s.changeTable t).cfs = s.cfs ∧ (s.changeTable t).resetting = s.resetting ∧
    (s.changeTable t).freeCount = s.freeCount ∧ (s.changeTable t).pending = s.pending := by
  refine ⟨?_, ?_, ?_, ?_, ?_, ?_, ?_, ?_, ?_, ?_, ?_, ?_, ?_⟩ <;> unfold State.changeTable <;> simp

@[simp] theorem State.postInternal_keeps (s : State) (c : Condition) (k : Engine) :
    (s.postInternal c k).lic = s.lic ∧ (s.postInternal c k).dsl = s.dsl ∧ (s.postInternal c k).plan = s.plan ∧
    (s.postInternal c k).engines = s.engines ∧ (s.postInternal c k).car = s.car ∧
    (s.postInternal c k).sensing = s.sensing ∧ (s.postInternal c k).bsm = s.bsm ∧ (s.postInternal c k).dct = s.dct ∧
    (s.postInternal c k).cli = s.cli ∧ (s.postInternal c k).cfs = s.cfs ∧
    (s.postInternal c k).resetting = s.resetting ∧ (s.postInternal c k).freeCount = s.freeCount ∧
    (s.postInternal c k).pending = s.pending := by
  refine ⟨?_, ?_, ?_, ?_, ?_, ?_, ?_, ?_, ?_, ?_, ?_, ?_, ?_⟩ <;> unfold State.postInternal <;> (repeat' split) <;> simp

@[simp] theorem State.retireInternal_keeps (s : State) (c : Condition) (k : Engine) :
    (s.retireInternal c k).lic = s.lic ∧ (s.retireInternal c k).dsl = s.dsl ∧ (s.retireInternal c k).plan = s.plan ∧
    (s.retireInternal c k).engines = s.engines ∧ (s.retireInternal c k).car = s.car ∧
    (s.retireInternal c k).sensing = s.sensing ∧ (s.retireInternal c k).bsm = s.bsm ∧
    (s.retireInternal c k).dct = s.dct ∧ (s.retireInternal c k).cli = s.cli ∧ (s.retireInternal c k).cfs = s.cfs ∧
    (s.retireInternal c k).resetting = s.resetting ∧ (s.retireInternal c k).freeCount = s.freeCount ∧
    (s.retireInternal c k).pending = s.pending := by
  refine ⟨?_, ?_, ?_, ?_, ?_, ?_, ?_, ?_, ?_, ?_, ?_, ?_, ?_⟩ <;> unfold State.retireInternal <;> (repeat' split) <;> simp

@[simp] theorem State.setNotices_keeps (s : State) (n : Notices) :
    (s.setNotices n).lic = s.lic ∧ (s.setNotices n).dsl = s.dsl ∧ (s.setNotices n).table = s.table ∧
    (s.setNotices n).limits = s.limits ∧ (s.setNotices n).plan = s.plan ∧ (s.setNotices n).engines = s.engines ∧
    (s.setNotices n).car = s.car ∧ (s.setNotices n).sensing = s.sensing ∧ (s.setNotices n).bsm = s.bsm ∧
    (s.setNotices n).dct = s.dct ∧ (s.setNotices n).cfs = s.cfs ∧ (s.setNotices n).resetting = s.resetting ∧
    (s.setNotices n).handed = s.handed ∧ (s.setNotices n).freeCount = s.freeCount ∧
    (s.setNotices n).pending = s.pending := by
  refine ⟨?_, ?_, ?_, ?_, ?_, ?_, ?_, ?_, ?_, ?_, ?_, ?_, ?_, ?_, ?_⟩ <;> unfold State.setNotices <;> (try simp only []) <;> simp

@[simp] theorem State.flagChanged_keeps (s : State) (k : Engine) :
    (s.flagChanged k).lic = s.lic ∧ (s.flagChanged k).dsl = s.dsl ∧ (s.flagChanged k).table = s.table ∧
    (s.flagChanged k).limits = s.limits ∧ (s.flagChanged k).plan = s.plan ∧ (s.flagChanged k).engines = s.engines ∧
    (s.flagChanged k).car = s.car ∧ (s.flagChanged k).sensing = s.sensing ∧ (s.flagChanged k).bsm = s.bsm ∧
    (s.flagChanged k).dct = s.dct ∧ (s.flagChanged k).cfs = s.cfs ∧ (s.flagChanged k).resetting = s.resetting ∧
    (s.flagChanged k).handed = s.handed ∧ (s.flagChanged k).freeCount = s.freeCount ∧
    (s.flagChanged k).pending = s.pending := by
  refine ⟨?_, ?_, ?_, ?_, ?_, ?_, ?_, ?_, ?_, ?_, ?_, ?_, ?_, ?_, ?_⟩ <;> unfold State.flagChanged <;> (try simp only []) <;> simp

@[simp] theorem State.clearChanged_keeps (s : State) (k : Engine) :
    (s.clearChanged k).lic = s.lic ∧ (s.clearChanged k).dsl = s.dsl ∧ (s.clearChanged k).table = s.table ∧
    (s.clearChanged k).limits = s.limits ∧ (s.clearChanged k).plan = s.plan ∧
    (s.clearChanged k).engines = s.engines ∧ (s.clearChanged k).car = s.car ∧
    (s.clearChanged k).sensing = s.sensing ∧ (s.clearChanged k).bsm = s.bsm ∧ (s.clearChanged k).dct = s.dct ∧
    (s.clearChanged k).cfs = s.cfs ∧ (s.clearChanged k).resetting = s.resetting ∧
    (s.clearChanged k).handed = s.handed ∧ (s.clearChanged k).freeCount = s.freeCount ∧
    (s.clearChanged k).pending = s.pending := by
  refine ⟨?_, ?_, ?_, ?_, ?_, ?_, ?_, ?_, ?_, ?_, ?_, ?_, ?_, ?_, ?_⟩ <;> unfold State.clearChanged <;> (try simp only []) <;> simp

@[simp] theorem State.flagExpired_keeps (s : State) :
    (s.flagExpired).lic = s.lic ∧ (s.flagExpired).dsl = s.dsl ∧ (s.flagExpired).table = s.table ∧
    (s.flagExpired).limits = s.limits ∧ (s.flagExpired).plan = s.plan ∧ (s.flagExpired).engines = s.engines ∧
    (s.flagExpired).car = s.car ∧ (s.flagExpired).sensing = s.sensing ∧ (s.flagExpired).bsm = s.bsm ∧
    (s.flagExpired).dct = s.dct ∧ (s.flagExpired).cfs = s.cfs ∧ (s.flagExpired).resetting = s.resetting ∧
    (s.flagExpired).handed = s.handed ∧ (s.flagExpired).freeCount = s.freeCount ∧
    (s.flagExpired).pending = s.pending := by
  refine ⟨?_, ?_, ?_, ?_, ?_, ?_, ?_, ?_, ?_, ?_, ?_, ?_, ?_, ?_, ?_⟩ <;> unfold State.flagExpired <;> (try simp only []) <;> simp

@[simp] theorem State.flagTrainlineFault_keeps (s : State) :
    (s.flagTrainlineFault).lic = s.lic ∧ (s.flagTrainlineFault).dsl = s.dsl ∧
    (s.flagTrainlineFault).table = s.table ∧ (s.flagTrainlineFault).limits = s.limits ∧
    (s.flagTrainlineFault).plan = s.plan ∧ (s.flagTrainlineFault).engines = s.engines ∧
    (s.flagTrainlineFault).car = s.car ∧ (s.flagTrainlineFault).sensing = s.sensing ∧
    (s.flagTrainlineFault).bsm = s.bsm ∧ (s.flagTrainlineFault).dct = s.dct ∧ (s.flagTrainlineFault).cfs = s.cfs ∧
    (s.flagTrainlineFault).resetting = s.resetting ∧ (s.flagTrainlineFault).handed = s.handed ∧
    (s.flagTrainlineFault).freeCount = s.freeCount ∧ (s.flagTrainlineFault).pending = s.pending := by
  refine ⟨?_, ?_, ?_, ?_, ?_, ?_, ?_, ?_, ?_, ?_, ?_, ?_, ?_, ?_, ?_⟩ <;> unfold State.flagTrainlineFault <;> (try simp only []) <;> simp

@[simp] theorem State.flagDemandLapsed_keeps (s : State) :
    (s.flagDemandLapsed).lic = s.lic ∧ (s.flagDemandLapsed).dsl = s.dsl ∧ (s.flagDemandLapsed).table = s.table ∧
    (s.flagDemandLapsed).limits = s.limits ∧ (s.flagDemandLapsed).plan = s.plan ∧
    (s.flagDemandLapsed).engines = s.engines ∧ (s.flagDemandLapsed).car = s.car ∧
    (s.flagDemandLapsed).sensing = s.sensing ∧ (s.flagDemandLapsed).bsm = s.bsm ∧ (s.flagDemandLapsed).dct = s.dct ∧
    (s.flagDemandLapsed).cfs = s.cfs ∧ (s.flagDemandLapsed).resetting = s.resetting ∧
    (s.flagDemandLapsed).handed = s.handed ∧ (s.flagDemandLapsed).freeCount = s.freeCount ∧
    (s.flagDemandLapsed).pending = s.pending := by
  refine ⟨?_, ?_, ?_, ?_, ?_, ?_, ?_, ?_, ?_, ?_, ?_, ?_, ?_, ?_, ?_⟩ <;> unfold State.flagDemandLapsed <;> (try simp only []) <;> simp

@[simp] theorem State.flagPowerShort_keeps (s : State) :
    (s.flagPowerShort).lic = s.lic ∧ (s.flagPowerShort).dsl = s.dsl ∧ (s.flagPowerShort).table = s.table ∧
    (s.flagPowerShort).limits = s.limits ∧ (s.flagPowerShort).plan = s.plan ∧
    (s.flagPowerShort).engines = s.engines ∧ (s.flagPowerShort).car = s.car ∧
    (s.flagPowerShort).sensing = s.sensing ∧ (s.flagPowerShort).bsm = s.bsm ∧ (s.flagPowerShort).dct = s.dct ∧
    (s.flagPowerShort).cfs = s.cfs ∧ (s.flagPowerShort).resetting = s.resetting ∧
    (s.flagPowerShort).handed = s.handed ∧ (s.flagPowerShort).freeCount = s.freeCount ∧
    (s.flagPowerShort).pending = s.pending := by
  refine ⟨?_, ?_, ?_, ?_, ?_, ?_, ?_, ?_, ?_, ?_, ?_, ?_, ?_, ?_, ?_⟩ <;> unfold State.flagPowerShort <;> (try simp only []) <;> simp

@[simp] theorem State.clearStatusNotices_keeps (s : State) :
    (s.clearStatusNotices).lic = s.lic ∧ (s.clearStatusNotices).dsl = s.dsl ∧
    (s.clearStatusNotices).table = s.table ∧ (s.clearStatusNotices).limits = s.limits ∧
    (s.clearStatusNotices).plan = s.plan ∧ (s.clearStatusNotices).engines = s.engines ∧
    (s.clearStatusNotices).car = s.car ∧ (s.clearStatusNotices).sensing = s.sensing ∧
    (s.clearStatusNotices).bsm = s.bsm ∧ (s.clearStatusNotices).dct = s.dct ∧ (s.clearStatusNotices).cfs = s.cfs ∧
    (s.clearStatusNotices).resetting = s.resetting ∧ (s.clearStatusNotices).handed = s.handed ∧
    (s.clearStatusNotices).freeCount = s.freeCount ∧ (s.clearStatusNotices).pending = s.pending := by
  refine ⟨?_, ?_, ?_, ?_, ?_, ?_, ?_, ?_, ?_, ?_, ?_, ?_, ?_, ?_, ?_⟩ <;> unfold State.clearStatusNotices <;> simp

@[simp] theorem State.setAnswer_keeps (s : State) (r : Request) (rep : Reply) (placed : Bool) :
    (s.setAnswer r rep placed).lic = s.lic ∧ (s.setAnswer r rep placed).dsl = s.dsl ∧
    (s.setAnswer r rep placed).table = s.table ∧ (s.setAnswer r rep placed).limits = s.limits ∧
    (s.setAnswer r rep placed).plan = s.plan ∧ (s.setAnswer r rep placed).engines = s.engines ∧
    (s.setAnswer r rep placed).car = s.car ∧ (s.setAnswer r rep placed).sensing = s.sensing ∧
    (s.setAnswer r rep placed).bsm = s.bsm ∧ (s.setAnswer r rep placed).dct = s.dct ∧
    (s.setAnswer r rep placed).cfs = s.cfs ∧ (s.setAnswer r rep placed).resetting = s.resetting ∧
    (s.setAnswer r rep placed).handed = s.handed ∧ (s.setAnswer r rep placed).freeCount = s.freeCount ∧
    (s.setAnswer r rep placed).pending = s.pending := by
  refine ⟨?_, ?_, ?_, ?_, ?_, ?_, ?_, ?_, ?_, ?_, ?_, ?_, ?_, ?_, ?_⟩ <;> unfold State.setAnswer <;> (try simp only []) <;> simp

@[simp] theorem State.respond_keeps (s : State) (r : Request) (rep : Reply) :
    (s.respond r rep).lic = s.lic ∧ (s.respond r rep).dsl = s.dsl ∧ (s.respond r rep).table = s.table ∧
    (s.respond r rep).limits = s.limits ∧ (s.respond r rep).plan = s.plan ∧ (s.respond r rep).engines = s.engines ∧
    (s.respond r rep).car = s.car ∧ (s.respond r rep).sensing = s.sensing ∧ (s.respond r rep).bsm = s.bsm ∧
    (s.respond r rep).dct = s.dct ∧ (s.respond r rep).cfs = s.cfs ∧ (s.respond r rep).resetting = s.resetting ∧
    (s.respond r rep).handed = s.handed ∧ (s.respond r rep).freeCount = s.freeCount ∧
    (s.respond r rep).pending = s.pending := by
  refine ⟨?_, ?_, ?_, ?_, ?_, ?_, ?_, ?_, ?_, ?_, ?_, ?_, ?_, ?_, ?_⟩ <;> unfold State.respond <;> (try simp only []) <;> simp

@[simp] theorem State.setPhase_keeps (s : State) (p : Phase) (h : Option Engine) :
    (s.setPhase p h).lic = s.lic ∧ (s.setPhase p h).dsl = s.dsl ∧ (s.setPhase p h).table = s.table ∧
    (s.setPhase p h).limits = s.limits ∧ (s.setPhase p h).plan = s.plan ∧ (s.setPhase p h).engines = s.engines ∧
    (s.setPhase p h).sensing = s.sensing ∧ (s.setPhase p h).bsm = s.bsm ∧ (s.setPhase p h).dct = s.dct ∧
    (s.setPhase p h).cli = s.cli ∧ (s.setPhase p h).cfs = s.cfs ∧ (s.setPhase p h).resetting = s.resetting ∧
    (s.setPhase p h).freeCount = s.freeCount ∧ (s.setPhase p h).pending = s.pending := by
  refine ⟨?_, ?_, ?_, ?_, ?_, ?_, ?_, ?_, ?_, ?_, ?_, ?_, ?_, ?_⟩ <;> unfold State.setPhase <;> (try simp only []) <;> simp

@[simp] theorem State.deassert_keeps (s : State) :
    (s.deassert).lic = s.lic ∧ (s.deassert).dsl = s.dsl ∧ (s.deassert).table = s.table ∧
    (s.deassert).limits = s.limits ∧ (s.deassert).plan = s.plan ∧ (s.deassert).engines = s.engines ∧
    (s.deassert).sensing = s.sensing ∧ (s.deassert).bsm = s.bsm ∧ (s.deassert).dct = s.dct ∧
    (s.deassert).cli = s.cli ∧ (s.deassert).cfs = s.cfs ∧ (s.deassert).resetting = s.resetting ∧
    (s.deassert).handed = s.handed ∧ (s.deassert).freeCount = s.freeCount ∧ (s.deassert).pending = s.pending := by
  refine ⟨?_, ?_, ?_, ?_, ?_, ?_, ?_, ?_, ?_, ?_, ?_, ?_, ?_, ?_, ?_⟩ <;> unfold State.deassert <;> (try simp only []) <;> simp

@[simp] theorem State.formWish_keeps (s : State) :
    (s.formWish).lic = s.lic ∧ (s.formWish).dsl = s.dsl ∧ (s.formWish).table = s.table ∧
    (s.formWish).limits = s.limits ∧ (s.formWish).plan = s.plan ∧ (s.formWish).engines = s.engines ∧
    (s.formWish).sensing = s.sensing ∧ (s.formWish).bsm = s.bsm ∧ (s.formWish).dct = s.dct ∧
    (s.formWish).cli = s.cli ∧ (s.formWish).cfs = s.cfs ∧ (s.formWish).resetting = s.resetting ∧
    (s.formWish).handed = s.handed ∧ (s.formWish).freeCount = s.freeCount ∧ (s.formWish).pending = s.pending := by
  refine ⟨?_, ?_, ?_, ?_, ?_, ?_, ?_, ?_, ?_, ?_, ?_, ?_, ?_, ?_, ?_⟩ <;> unfold State.formWish <;> (try simp only []) <;> (repeat' split) <;> simp

@[simp] theorem State.dropSags_keeps (s : State) (k : Engine) :
    (s.dropSags k).lic = s.lic ∧ (s.dropSags k).dsl = s.dsl ∧ (s.dropSags k).table = s.table ∧
    (s.dropSags k).limits = s.limits ∧ (s.dropSags k).plan = s.plan ∧ (s.dropSags k).engines = s.engines ∧
    (s.dropSags k).car = s.car ∧ (s.dropSags k).sensing = s.sensing ∧ (s.dropSags k).bsm = s.bsm ∧
    (s.dropSags k).dct = s.dct ∧ (s.dropSags k).cli = s.cli ∧ (s.dropSags k).cfs = s.cfs ∧
    (s.dropSags k).resetting = s.resetting ∧ (s.dropSags k).freeCount = s.freeCount ∧ (s.dropSags k).pending = s.pending :=
  ⟨rfl, rfl, rfl, rfl, rfl, rfl, rfl, rfl, rfl, rfl, rfl, rfl, rfl, rfl, rfl⟩

@[simp] theorem State.decideGrant_keeps (s : State) :
    (s.decideGrant).lic = s.lic ∧ (s.decideGrant).dsl = s.dsl ∧ (s.decideGrant).table = s.table ∧
    (s.decideGrant).limits = s.limits ∧ (s.decideGrant).plan = s.plan ∧ (s.decideGrant).engines = s.engines ∧
    (s.decideGrant).sensing = s.sensing ∧ (s.decideGrant).bsm = s.bsm ∧ (s.decideGrant).dct = s.dct ∧
    (s.decideGrant).cli = s.cli ∧ (s.decideGrant).cfs = s.cfs ∧ (s.decideGrant).resetting = s.resetting ∧
    (s.decideGrant).freeCount = s.freeCount ∧ (s.decideGrant).pending = s.pending := by
  refine ⟨?_, ?_, ?_, ?_, ?_, ?_, ?_, ?_, ?_, ?_, ?_, ?_, ?_, ?_⟩ <;> unfold State.decideGrant <;> (try simp only []) <;> (repeat' split) <;> simp

@[simp] theorem State.join_keeps (s : State) (k : Engine) :
    (s.join k).lic = s.lic ∧ (s.join k).dsl = s.dsl ∧ (s.join k).table = s.table ∧ (s.join k).limits = s.limits ∧
    (s.join k).plan = s.plan ∧ (s.join k).engines = s.engines ∧ (s.join k).sensing = s.sensing ∧
    (s.join k).bsm = s.bsm ∧ (s.join k).dct = s.dct ∧ (s.join k).cli = s.cli ∧ (s.join k).cfs = s.cfs ∧
    (s.join k).resetting = s.resetting ∧ (s.join k).handed = s.handed ∧ (s.join k).freeCount = s.freeCount ∧
    (s.join k).pending = s.pending := by
  refine ⟨?_, ?_, ?_, ?_, ?_, ?_, ?_, ?_, ?_, ?_, ?_, ?_, ?_, ?_, ?_⟩ <;> unfold State.join <;> (try simp only []) <;> (repeat' split) <;> simp

@[simp] theorem State.leave_keeps (s : State) (k : Engine) :
    (s.leave k).lic = s.lic ∧ (s.leave k).dsl = s.dsl ∧ (s.leave k).table = s.table ∧ (s.leave k).limits = s.limits ∧
    (s.leave k).plan = s.plan ∧ (s.leave k).engines = s.engines ∧ (s.leave k).sensing = s.sensing ∧
    (s.leave k).bsm = s.bsm ∧ (s.leave k).dct = s.dct ∧ (s.leave k).cli = s.cli ∧ (s.leave k).cfs = s.cfs ∧
    (s.leave k).resetting = s.resetting ∧ (s.leave k).handed = s.handed ∧ (s.leave k).freeCount = s.freeCount ∧
    (s.leave k).pending = s.pending := by
  refine ⟨?_, ?_, ?_, ?_, ?_, ?_, ?_, ?_, ?_, ?_, ?_, ?_, ?_, ?_, ?_⟩ <;> unfold State.leave <;> (try simp only []) <;> simp

@[simp] theorem State.giveUpIfWithdrawn_keeps (s : State) :
    (s.giveUpIfWithdrawn).lic = s.lic ∧ (s.giveUpIfWithdrawn).dsl = s.dsl ∧ (s.giveUpIfWithdrawn).table = s.table ∧
    (s.giveUpIfWithdrawn).limits = s.limits ∧ (s.giveUpIfWithdrawn).plan = s.plan ∧
    (s.giveUpIfWithdrawn).engines = s.engines ∧ (s.giveUpIfWithdrawn).sensing = s.sensing ∧
    (s.giveUpIfWithdrawn).bsm = s.bsm ∧ (s.giveUpIfWithdrawn).dct = s.dct ∧ (s.giveUpIfWithdrawn).cli = s.cli ∧
    (s.giveUpIfWithdrawn).cfs = s.cfs ∧ (s.giveUpIfWithdrawn).resetting = s.resetting ∧
    (s.giveUpIfWithdrawn).handed = s.handed ∧ (s.giveUpIfWithdrawn).freeCount = s.freeCount ∧
    (s.giveUpIfWithdrawn).pending = s.pending := by
  refine ⟨?_, ?_, ?_, ?_, ?_, ?_, ?_, ?_, ?_, ?_, ?_, ?_, ?_, ?_, ?_⟩ <;> unfold State.giveUpIfWithdrawn <;> (repeat' split) <;> simp

@[simp] theorem State.releaseUsed_keeps (s : State) (k : Engine) :
    (s.releaseUsed k).lic = s.lic ∧ (s.releaseUsed k).dsl = s.dsl ∧ (s.releaseUsed k).table = s.table ∧
    (s.releaseUsed k).limits = s.limits ∧ (s.releaseUsed k).plan = s.plan ∧ (s.releaseUsed k).engines = s.engines ∧
    (s.releaseUsed k).sensing = s.sensing ∧ (s.releaseUsed k).bsm = s.bsm ∧ (s.releaseUsed k).dct = s.dct ∧
    (s.releaseUsed k).cli = s.cli ∧ (s.releaseUsed k).cfs = s.cfs ∧ (s.releaseUsed k).resetting = s.resetting ∧
    (s.releaseUsed k).freeCount = s.freeCount ∧ (s.releaseUsed k).pending = s.pending := by
  refine ⟨?_, ?_, ?_, ?_, ?_, ?_, ?_, ?_, ?_, ?_, ?_, ?_, ?_, ?_⟩ <;> unfold State.releaseUsed <;> (try simp only []) <;> (repeat' split) <;> simp

@[simp] theorem State.releaseUnused_keeps (s : State) (k : Engine) :
    (s.releaseUnused k).lic = s.lic ∧ (s.releaseUnused k).dsl = s.dsl ∧ (s.releaseUnused k).table = s.table ∧
    (s.releaseUnused k).limits = s.limits ∧ (s.releaseUnused k).plan = s.plan ∧
    (s.releaseUnused k).engines = s.engines ∧ (s.releaseUnused k).sensing = s.sensing ∧
    (s.releaseUnused k).bsm = s.bsm ∧ (s.releaseUnused k).dct = s.dct ∧ (s.releaseUnused k).cli = s.cli ∧
    (s.releaseUnused k).cfs = s.cfs ∧ (s.releaseUnused k).resetting = s.resetting ∧
    (s.releaseUnused k).freeCount = s.freeCount ∧ (s.releaseUnused k).pending = s.pending := by
  refine ⟨?_, ?_, ?_, ?_, ?_, ?_, ?_, ?_, ?_, ?_, ?_, ?_, ?_, ?_⟩ <;> unfold State.releaseUnused <;> (try simp only []) <;> (repeat' split) <;> simp

@[simp] theorem State.arbiterOnChange_keeps (s : State) (k : Engine) (old new : EState) :
    (s.arbiterOnChange k old new).lic = s.lic ∧ (s.arbiterOnChange k old new).dsl = s.dsl ∧
    (s.arbiterOnChange k old new).table = s.table ∧ (s.arbiterOnChange k old new).limits = s.limits ∧
    (s.arbiterOnChange k old new).plan = s.plan ∧ (s.arbiterOnChange k old new).engines = s.engines ∧
    (s.arbiterOnChange k old new).sensing = s.sensing ∧ (s.arbiterOnChange k old new).bsm = s.bsm ∧
    (s.arbiterOnChange k old new).dct = s.dct ∧ (s.arbiterOnChange k old new).cli = s.cli ∧
    (s.arbiterOnChange k old new).cfs = s.cfs ∧ (s.arbiterOnChange k old new).resetting = s.resetting ∧
    (s.arbiterOnChange k old new).freeCount = s.freeCount ∧ (s.arbiterOnChange k old new).pending = s.pending := by
  refine ⟨?_, ?_, ?_, ?_, ?_, ?_, ?_, ?_, ?_, ?_, ?_, ?_, ?_, ?_⟩ <;> unfold State.arbiterOnChange <;> (try simp only []) <;> (repeat' split) <;> simp

@[simp] theorem State.externalGrant_keeps (s : State) (b : Bool) :
    (s.externalGrant b).lic = s.lic ∧ (s.externalGrant b).dsl = s.dsl ∧ (s.externalGrant b).table = s.table ∧
    (s.externalGrant b).limits = s.limits ∧ (s.externalGrant b).plan = s.plan ∧
    (s.externalGrant b).engines = s.engines ∧ (s.externalGrant b).sensing = s.sensing ∧
    (s.externalGrant b).bsm = s.bsm ∧ (s.externalGrant b).dct = s.dct ∧ (s.externalGrant b).cli = s.cli ∧
    (s.externalGrant b).cfs = s.cfs ∧ (s.externalGrant b).resetting = s.resetting ∧
    (s.externalGrant b).freeCount = s.freeCount ∧ (s.externalGrant b).pending = s.pending := by
  refine ⟨?_, ?_, ?_, ?_, ?_, ?_, ?_, ?_, ?_, ?_, ?_, ?_, ?_, ?_⟩ <;> unfold State.externalGrant <;> (try simp only []) <;> (repeat' split) <;> simp

@[simp] theorem State.gapEnd_keeps (s : State) :
    (s.gapEnd).lic = s.lic ∧ (s.gapEnd).dsl = s.dsl ∧ (s.gapEnd).table = s.table ∧ (s.gapEnd).limits = s.limits ∧
    (s.gapEnd).plan = s.plan ∧ (s.gapEnd).engines = s.engines ∧ (s.gapEnd).sensing = s.sensing ∧
    (s.gapEnd).bsm = s.bsm ∧ (s.gapEnd).dct = s.dct ∧ (s.gapEnd).cli = s.cli ∧ (s.gapEnd).cfs = s.cfs ∧
    (s.gapEnd).resetting = s.resetting ∧ (s.gapEnd).freeCount = s.freeCount ∧ (s.gapEnd).pending = s.pending := by
  refine ⟨?_, ?_, ?_, ?_, ?_, ?_, ?_, ?_, ?_, ?_, ?_, ?_, ?_, ?_⟩ <;> unfold State.gapEnd <;> (try simp only []) <;> (repeat' split) <;> simp

@[simp] theorem State.rerequestEnd_keeps (s : State) :
    (s.rerequestEnd).lic = s.lic ∧ (s.rerequestEnd).dsl = s.dsl ∧ (s.rerequestEnd).table = s.table ∧
    (s.rerequestEnd).limits = s.limits ∧ (s.rerequestEnd).plan = s.plan ∧ (s.rerequestEnd).engines = s.engines ∧
    (s.rerequestEnd).sensing = s.sensing ∧ (s.rerequestEnd).bsm = s.bsm ∧ (s.rerequestEnd).dct = s.dct ∧
    (s.rerequestEnd).cli = s.cli ∧ (s.rerequestEnd).cfs = s.cfs ∧ (s.rerequestEnd).resetting = s.resetting ∧
    (s.rerequestEnd).handed = s.handed ∧ (s.rerequestEnd).freeCount = s.freeCount ∧
    (s.rerequestEnd).pending = s.pending := by
  refine ⟨?_, ?_, ?_, ?_, ?_, ?_, ?_, ?_, ?_, ?_, ?_, ?_, ?_, ?_, ?_⟩ <;> unfold State.rerequestEnd <;> (try simp only []) <;> (repeat' split) <;> simp

@[simp] theorem State.modEng_keeps (s : State) (k : Engine) (f : EngineRec → EngineRec) :
    (s.modEng k f).lic = s.lic ∧ (s.modEng k f).dsl = s.dsl ∧ (s.modEng k f).table = s.table ∧
    (s.modEng k f).limits = s.limits ∧ (s.modEng k f).plan = s.plan ∧ (s.modEng k f).car = s.car ∧
    (s.modEng k f).sensing = s.sensing ∧ (s.modEng k f).bsm = s.bsm ∧ (s.modEng k f).dct = s.dct ∧
    (s.modEng k f).cli = s.cli ∧ (s.modEng k f).cfs = s.cfs ∧ (s.modEng k f).resetting = s.resetting ∧
    (s.modEng k f).handed = s.handed ∧ (s.modEng k f).freeCount = s.freeCount ∧
    (s.modEng k f).pending = s.pending := by
  refine ⟨?_, ?_, ?_, ?_, ?_, ?_, ?_, ?_, ?_, ?_, ?_, ?_, ?_, ?_, ?_⟩ <;> unfold State.modEng <;> simp

@[simp] theorem State.enter_keeps (s : State) (k : Engine) (new : EState) (c : List CountedEvent) (f : EngineRec → EngineRec) :
    (s.enter k new c f).lic = s.lic ∧ (s.enter k new c f).dsl = s.dsl ∧ (s.enter k new c f).plan = s.plan ∧
    (s.enter k new c f).sensing = s.sensing ∧ (s.enter k new c f).bsm = s.bsm ∧ (s.enter k new c f).dct = s.dct ∧
    (s.enter k new c f).cfs = s.cfs ∧ (s.enter k new c f).resetting = s.resetting ∧
    (s.enter k new c f).freeCount = s.freeCount ∧ (s.enter k new c f).pending = s.pending := by
  refine ⟨?_, ?_, ?_, ?_, ?_, ?_, ?_, ?_, ?_, ?_⟩ <;> unfold State.enter <;> (try simp only []) <;> (repeat' split) <;> simp

@[simp] theorem State.hold_keeps (s : State) (k : Engine) :
    (s.hold k).lic = s.lic ∧ (s.hold k).dsl = s.dsl ∧ (s.hold k).table = s.table ∧ (s.hold k).limits = s.limits ∧
    (s.hold k).plan = s.plan ∧ (s.hold k).car = s.car ∧ (s.hold k).sensing = s.sensing ∧ (s.hold k).bsm = s.bsm ∧
    (s.hold k).dct = s.dct ∧ (s.hold k).cfs = s.cfs ∧ (s.hold k).resetting = s.resetting ∧
    (s.hold k).handed = s.handed ∧ (s.hold k).freeCount = s.freeCount ∧ (s.hold k).pending = s.pending := by
  refine ⟨?_, ?_, ?_, ?_, ?_, ?_, ?_, ?_, ?_, ?_, ?_, ?_, ?_, ?_⟩ <;> unfold State.hold <;> (try simp only []) <;> simp

@[simp] theorem State.enterCrankWait_keeps (s : State) (k : Engine) :
    (s.enterCrankWait k).lic = s.lic ∧ (s.enterCrankWait k).dsl = s.dsl ∧ (s.enterCrankWait k).plan = s.plan ∧
    (s.enterCrankWait k).sensing = s.sensing ∧ (s.enterCrankWait k).bsm = s.bsm ∧ (s.enterCrankWait k).dct = s.dct ∧
    (s.enterCrankWait k).cfs = s.cfs ∧ (s.enterCrankWait k).resetting = s.resetting ∧
    (s.enterCrankWait k).freeCount = s.freeCount ∧ (s.enterCrankWait k).pending = s.pending := by
  refine ⟨?_, ?_, ?_, ?_, ?_, ?_, ?_, ?_, ?_, ?_⟩ <;> unfold State.enterCrankWait <;> (try simp only []) <;> simp

@[simp] theorem State.prelubeStep_keeps (s : State) (k : Engine) :
    (s.prelubeStep k).lic = s.lic ∧ (s.prelubeStep k).dsl = s.dsl ∧ (s.prelubeStep k).plan = s.plan ∧
    (s.prelubeStep k).sensing = s.sensing ∧ (s.prelubeStep k).bsm = s.bsm ∧ (s.prelubeStep k).dct = s.dct ∧
    (s.prelubeStep k).cfs = s.cfs ∧ (s.prelubeStep k).resetting = s.resetting ∧
    (s.prelubeStep k).freeCount = s.freeCount ∧ (s.prelubeStep k).pending = s.pending := by
  refine ⟨?_, ?_, ?_, ?_, ?_, ?_, ?_, ?_, ?_, ?_⟩ <;> unfold State.prelubeStep <;> (repeat' split) <;> simp

@[simp] theorem State.admit_keeps (s : State) (k : Engine) (r : StartReason) :
    (s.admitStart k r).lic = s.lic ∧ (s.admitStart k r).dsl = s.dsl ∧ (s.admitStart k r).plan = s.plan ∧ (s.admitStart k r).bsm = s.bsm ∧
    (s.admitStart k r).dct = s.dct ∧ (s.admitStart k r).cfs = s.cfs ∧ (s.admitStart k r).resetting = s.resetting ∧
    (s.admitStart k r).freeCount = s.freeCount ∧ (s.admitStart k r).pending = s.pending := by
  refine ⟨?_, ?_, ?_, ?_, ?_, ?_, ?_, ?_, ?_⟩ <;> unfold State.admitStart <;> (try simp only []) <;> (repeat' split) <;> simp

@[simp] theorem State.takeStart_keeps (s : State) (k : Engine) (r : StartReason) :
    (s.takeStart k r).lic = s.lic ∧ (s.takeStart k r).dsl = s.dsl ∧ (s.takeStart k r).plan = s.plan ∧
    (s.takeStart k r).bsm = s.bsm ∧ (s.takeStart k r).dct = s.dct ∧ (s.takeStart k r).cfs = s.cfs ∧
    (s.takeStart k r).resetting = s.resetting ∧ (s.takeStart k r).freeCount = s.freeCount ∧
    (s.takeStart k r).pending = s.pending := by
  refine ⟨?_, ?_, ?_, ?_, ?_, ?_, ?_, ?_, ?_⟩ <;> unfold State.takeStart <;> (repeat' split) <;> simp

@[simp] theorem State.runDemandStart_keeps (s : State) (k : Engine) :
    (s.runDemandStart k).lic = s.lic ∧ (s.runDemandStart k).dsl = s.dsl ∧ (s.runDemandStart k).plan = s.plan ∧
    (s.runDemandStart k).bsm = s.bsm ∧ (s.runDemandStart k).dct = s.dct ∧ (s.runDemandStart k).cfs = s.cfs ∧
    (s.runDemandStart k).resetting = s.resetting ∧ (s.runDemandStart k).freeCount = s.freeCount ∧
    (s.runDemandStart k).pending = s.pending := by
  refine ⟨?_, ?_, ?_, ?_, ?_, ?_, ?_, ?_, ?_⟩ <;> unfold State.runDemandStart <;> (repeat' split) <;> simp

@[simp] theorem State.enterOnline_keeps (s : State) (k : Engine) :
    (s.enterOnline k).lic = s.lic ∧ (s.enterOnline k).dsl = s.dsl ∧ (s.enterOnline k).plan = s.plan ∧
    (s.enterOnline k).sensing = s.sensing ∧ (s.enterOnline k).bsm = s.bsm ∧ (s.enterOnline k).dct = s.dct ∧
    (s.enterOnline k).cfs = s.cfs ∧ (s.enterOnline k).resetting = s.resetting ∧
    (s.enterOnline k).freeCount = s.freeCount ∧ (s.enterOnline k).pending = s.pending := by
  refine ⟨?_, ?_, ?_, ?_, ?_, ?_, ?_, ?_, ?_, ?_⟩ <;> unfold State.enterOnline <;> (try simp only []) <;> simp

@[simp] theorem State.tryOnline_keeps (s : State) (k : Engine) :
    (s.tryOnline k).lic = s.lic ∧ (s.tryOnline k).dsl = s.dsl ∧ (s.tryOnline k).plan = s.plan ∧
    (s.tryOnline k).sensing = s.sensing ∧ (s.tryOnline k).bsm = s.bsm ∧ (s.tryOnline k).dct = s.dct ∧
    (s.tryOnline k).cfs = s.cfs ∧ (s.tryOnline k).resetting = s.resetting ∧ (s.tryOnline k).freeCount = s.freeCount ∧
    (s.tryOnline k).pending = s.pending := by
  refine ⟨?_, ?_, ?_, ?_, ?_, ?_, ?_, ?_, ?_, ?_⟩ <;> unfold State.tryOnline <;> (repeat' split) <;> simp

@[simp] theorem State.warmupAtFire_keeps (s : State) (k : Engine) :
    (s.warmupAtFire k).lic = s.lic ∧ (s.warmupAtFire k).dsl = s.dsl ∧ (s.warmupAtFire k).plan = s.plan ∧
    (s.warmupAtFire k).engines = s.engines ∧ (s.warmupAtFire k).car = s.car ∧ (s.warmupAtFire k).bsm = s.bsm ∧
    (s.warmupAtFire k).dct = s.dct ∧ (s.warmupAtFire k).cli = s.cli ∧ (s.warmupAtFire k).cfs = s.cfs ∧
    (s.warmupAtFire k).resetting = s.resetting ∧ (s.warmupAtFire k).freeCount = s.freeCount ∧
    (s.warmupAtFire k).pending = s.pending := by
  refine ⟨?_, ?_, ?_, ?_, ?_, ?_, ?_, ?_, ?_, ?_, ?_, ?_⟩ <;> unfold State.warmupAtFire <;> (try simp only []) <;> (repeat' split) <;> simp

@[simp] theorem State.fire_keeps (s : State) (k : Engine) :
    (s.fire k).lic = s.lic ∧ (s.fire k).dsl = s.dsl ∧ (s.fire k).plan = s.plan ∧ (s.fire k).bsm = s.bsm ∧
    (s.fire k).dct = s.dct ∧ (s.fire k).cfs = s.cfs ∧ (s.fire k).resetting = s.resetting ∧
    (s.fire k).freeCount = s.freeCount ∧ (s.fire k).pending = s.pending := by
  refine ⟨?_, ?_, ?_, ?_, ?_, ?_, ?_, ?_, ?_⟩ <;> unfold State.fire <;> (try simp only []) <;> simp

@[simp] theorem State.trip_keeps (s : State) (k : Engine) (c : TripCause) (also : List CountedEvent) :
    (s.trip k c also).lic = s.lic ∧ (s.trip k c also).dsl = s.dsl ∧ (s.trip k c also).plan = s.plan ∧
    (s.trip k c also).sensing = s.sensing ∧ (s.trip k c also).bsm = s.bsm ∧ (s.trip k c also).dct = s.dct ∧
    (s.trip k c also).cfs = s.cfs ∧ (s.trip k c also).resetting = s.resetting ∧
    (s.trip k c also).freeCount = s.freeCount ∧ (s.trip k c also).pending = s.pending := by
  refine ⟨?_, ?_, ?_, ?_, ?_, ?_, ?_, ?_, ?_, ?_⟩ <;> unfold State.trip <;> (try simp only []) <;> simp

@[simp] theorem State.enterStopping_keeps (s : State) (k : Engine) (c : List CountedEvent) :
    (s.enterStopping k c).lic = s.lic ∧ (s.enterStopping k c).dsl = s.dsl ∧ (s.enterStopping k c).plan = s.plan ∧
    (s.enterStopping k c).sensing = s.sensing ∧ (s.enterStopping k c).bsm = s.bsm ∧
    (s.enterStopping k c).dct = s.dct ∧ (s.enterStopping k c).cfs = s.cfs ∧
    (s.enterStopping k c).resetting = s.resetting ∧ (s.enterStopping k c).freeCount = s.freeCount ∧
    (s.enterStopping k c).pending = s.pending := by
  refine ⟨?_, ?_, ?_, ?_, ?_, ?_, ?_, ?_, ?_, ?_⟩ <;> unfold State.enterStopping <;> (try simp only []) <;> simp

@[simp] theorem State.enterRest_keeps (s : State) (k : Engine) (c : List CountedEvent) :
    (s.enterRest k c).lic = s.lic ∧ (s.enterRest k c).dsl = s.dsl ∧ (s.enterRest k c).plan = s.plan ∧
    (s.enterRest k c).bsm = s.bsm ∧ (s.enterRest k c).dct = s.dct ∧ (s.enterRest k c).cfs = s.cfs ∧
    (s.enterRest k c).resetting = s.resetting ∧ (s.enterRest k c).freeCount = s.freeCount ∧
    (s.enterRest k c).pending = s.pending := by
  refine ⟨?_, ?_, ?_, ?_, ?_, ?_, ?_, ?_, ?_⟩ <;> unfold State.enterRest <;> (try simp only []) <;> (repeat' split) <;> simp

@[simp] theorem State.failAttempt_keeps (s : State) (k : Engine) (c : AttemptCause) :
    (s.failAttempt k c).lic = s.lic ∧ (s.failAttempt k c).dsl = s.dsl ∧ (s.failAttempt k c).plan = s.plan ∧
    (s.failAttempt k c).sensing = s.sensing ∧ (s.failAttempt k c).bsm = s.bsm ∧ (s.failAttempt k c).dct = s.dct ∧
    (s.failAttempt k c).cfs = s.cfs ∧ (s.failAttempt k c).resetting = s.resetting ∧
    (s.failAttempt k c).freeCount = s.freeCount ∧ (s.failAttempt k c).pending = s.pending := by
  refine ⟨?_, ?_, ?_, ?_, ?_, ?_, ?_, ?_, ?_, ?_⟩ <;> unfold State.failAttempt <;> (try simp only []) <;> (repeat' split) <;> simp

@[simp] theorem State.pendStop_keeps (s : State) (k : Engine) (r : StopReason) :
    (s.pendStop k r).lic = s.lic ∧ (s.pendStop k r).dsl = s.dsl ∧ (s.pendStop k r).table = s.table ∧
    (s.pendStop k r).limits = s.limits ∧ (s.pendStop k r).plan = s.plan ∧ (s.pendStop k r).car = s.car ∧
    (s.pendStop k r).sensing = s.sensing ∧ (s.pendStop k r).bsm = s.bsm ∧ (s.pendStop k r).dct = s.dct ∧
    (s.pendStop k r).cli = s.cli ∧ (s.pendStop k r).cfs = s.cfs ∧ (s.pendStop k r).resetting = s.resetting ∧
    (s.pendStop k r).freeCount = s.freeCount ∧ (s.pendStop k r).pending = s.pending := by
  refine ⟨?_, ?_, ?_, ?_, ?_, ?_, ?_, ?_, ?_, ?_, ?_, ?_, ?_, ?_⟩ <;> unfold State.pendStop <;> simp

@[simp] theorem State.restateStop_keeps (s : State) (k : Engine) (r : StopReason) :
    (s.restateStop k r).lic = s.lic ∧ (s.restateStop k r).dsl = s.dsl ∧ (s.restateStop k r).table = s.table ∧
    (s.restateStop k r).limits = s.limits ∧ (s.restateStop k r).plan = s.plan ∧ (s.restateStop k r).car = s.car ∧
    (s.restateStop k r).sensing = s.sensing ∧ (s.restateStop k r).bsm = s.bsm ∧ (s.restateStop k r).dct = s.dct ∧
    (s.restateStop k r).cli = s.cli ∧ (s.restateStop k r).cfs = s.cfs ∧ (s.restateStop k r).resetting = s.resetting ∧
    (s.restateStop k r).handed = s.handed ∧ (s.restateStop k r).freeCount = s.freeCount ∧
    (s.restateStop k r).pending = s.pending := by
  refine ⟨?_, ?_, ?_, ?_, ?_, ?_, ?_, ?_, ?_, ?_, ?_, ?_, ?_, ?_, ?_⟩ <;> unfold State.restateStop <;> (repeat' split) <;> simp

@[simp] theorem State.takeStop_keeps (s : State) (k : Engine) (r : StopReason) :
    (s.takeStop k r).lic = s.lic ∧ (s.takeStop k r).dsl = s.dsl ∧ (s.takeStop k r).plan = s.plan ∧
    (s.takeStop k r).bsm = s.bsm ∧ (s.takeStop k r).dct = s.dct ∧ (s.takeStop k r).cfs = s.cfs ∧
    (s.takeStop k r).resetting = s.resetting ∧ (s.takeStop k r).freeCount = s.freeCount ∧
    (s.takeStop k r).pending = s.pending := by
  refine ⟨?_, ?_, ?_, ?_, ?_, ?_, ?_, ?_, ?_⟩ <;> unfold State.takeStop <;> (try simp only []) <;> (repeat' split) <;> simp

@[simp] theorem State.takeRecall_keeps (s : State) (k : Engine) :
    (s.takeRecall k).lic = s.lic ∧ (s.takeRecall k).dsl = s.dsl ∧ (s.takeRecall k).plan = s.plan ∧
    (s.takeRecall k).sensing = s.sensing ∧ (s.takeRecall k).bsm = s.bsm ∧ (s.takeRecall k).dct = s.dct ∧
    (s.takeRecall k).cfs = s.cfs ∧ (s.takeRecall k).resetting = s.resetting ∧
    (s.takeRecall k).freeCount = s.freeCount ∧ (s.takeRecall k).pending = s.pending := by
  refine ⟨?_, ?_, ?_, ?_, ?_, ?_, ?_, ?_, ?_, ?_⟩ <;> unfold State.takeRecall <;> (try simp only []) <;> (repeat' split) <;> simp

@[simp] theorem State.stepDownComplete_keeps (s : State) (k : Engine) :
    (s.stepDownComplete k).lic = s.lic ∧ (s.stepDownComplete k).dsl = s.dsl ∧ (s.stepDownComplete k).plan = s.plan ∧
    (s.stepDownComplete k).sensing = s.sensing ∧ (s.stepDownComplete k).bsm = s.bsm ∧
    (s.stepDownComplete k).dct = s.dct ∧ (s.stepDownComplete k).cfs = s.cfs ∧
    (s.stepDownComplete k).resetting = s.resetting ∧ (s.stepDownComplete k).freeCount = s.freeCount ∧
    (s.stepDownComplete k).pending = s.pending := by
  refine ⟨?_, ?_, ?_, ?_, ?_, ?_, ?_, ?_, ?_, ?_⟩ <;> unfold State.stepDownComplete <;> (try simp only []) <;> (repeat' split) <;> simp

@[simp] theorem State.passHold_keeps (s : State) (k : Engine) :
    (s.passHold k).lic = s.lic ∧ (s.passHold k).dsl = s.dsl ∧ (s.passHold k).plan = s.plan ∧
    (s.passHold k).sensing = s.sensing ∧ (s.passHold k).bsm = s.bsm ∧ (s.passHold k).dct = s.dct ∧
    (s.passHold k).cfs = s.cfs ∧ (s.passHold k).resetting = s.resetting ∧ (s.passHold k).freeCount = s.freeCount ∧
    (s.passHold k).pending = s.pending := by
  refine ⟨?_, ?_, ?_, ?_, ?_, ?_, ?_, ?_, ?_, ?_⟩ <;> unfold State.passHold <;> (repeat' split) <;> simp

@[simp] theorem State.releaseHold_keeps (s : State) (k : Engine) :
    (s.releaseHold k).lic = s.lic ∧ (s.releaseHold k).dsl = s.dsl ∧ (s.releaseHold k).plan = s.plan ∧
    (s.releaseHold k).sensing = s.sensing ∧ (s.releaseHold k).bsm = s.bsm ∧ (s.releaseHold k).dct = s.dct ∧
    (s.releaseHold k).cfs = s.cfs ∧ (s.releaseHold k).resetting = s.resetting ∧
    (s.releaseHold k).freeCount = s.freeCount ∧ (s.releaseHold k).pending = s.pending := by
  refine ⟨?_, ?_, ?_, ?_, ?_, ?_, ?_, ?_, ?_, ?_⟩ <;> unfold State.releaseHold <;> (repeat' split) <;> simp

@[simp] theorem State.reviewIsolation_keeps (s : State) (k : Engine) :
    (s.reviewIsolation k).lic = s.lic ∧ (s.reviewIsolation k).dsl = s.dsl ∧ (s.reviewIsolation k).plan = s.plan ∧
    (s.reviewIsolation k).bsm = s.bsm ∧ (s.reviewIsolation k).dct = s.dct ∧ (s.reviewIsolation k).cfs = s.cfs ∧
    (s.reviewIsolation k).resetting = s.resetting ∧ (s.reviewIsolation k).freeCount = s.freeCount ∧
    (s.reviewIsolation k).pending = s.pending := by
  refine ⟨?_, ?_, ?_, ?_, ?_, ?_, ?_, ?_, ?_⟩ <;> unfold State.reviewIsolation <;> (try simp only []) <;> (repeat' split) <;> simp

@[simp] theorem State.lubeClosed_keeps (s : State) (k : Engine) :
    (s.lubeClosed k).lic = s.lic ∧ (s.lubeClosed k).dsl = s.dsl ∧ (s.lubeClosed k).plan = s.plan ∧
    (s.lubeClosed k).sensing = s.sensing ∧ (s.lubeClosed k).bsm = s.bsm ∧ (s.lubeClosed k).dct = s.dct ∧
    (s.lubeClosed k).cfs = s.cfs ∧ (s.lubeClosed k).resetting = s.resetting ∧
    (s.lubeClosed k).freeCount = s.freeCount ∧ (s.lubeClosed k).pending = s.pending := by
  refine ⟨?_, ?_, ?_, ?_, ?_, ?_, ?_, ?_, ?_, ?_⟩ <;> unfold State.lubeClosed <;> (try simp only []) <;> (repeat' split) <;> simp

@[simp] theorem State.lubeOpened_keeps (s : State) (k : Engine) :
    (s.lubeOpened k).lic = s.lic ∧ (s.lubeOpened k).dsl = s.dsl ∧ (s.lubeOpened k).plan = s.plan ∧
    (s.lubeOpened k).sensing = s.sensing ∧ (s.lubeOpened k).bsm = s.bsm ∧ (s.lubeOpened k).dct = s.dct ∧
    (s.lubeOpened k).cfs = s.cfs ∧ (s.lubeOpened k).resetting = s.resetting ∧
    (s.lubeOpened k).freeCount = s.freeCount ∧ (s.lubeOpened k).pending = s.pending := by
  refine ⟨?_, ?_, ?_, ?_, ?_, ?_, ?_, ?_, ?_, ?_⟩ <;> unfold State.lubeOpened <;> (try simp only []) <;> (repeat' split) <;> simp

@[simp] theorem State.emergencyTrip_keeps (s : State) (k : Engine) :
    (s.emergencyTrip k).lic = s.lic ∧ (s.emergencyTrip k).dsl = s.dsl ∧ (s.emergencyTrip k).plan = s.plan ∧
    (s.emergencyTrip k).sensing = s.sensing ∧ (s.emergencyTrip k).bsm = s.bsm ∧ (s.emergencyTrip k).dct = s.dct ∧
    (s.emergencyTrip k).cfs = s.cfs ∧ (s.emergencyTrip k).resetting = s.resetting ∧
    (s.emergencyTrip k).freeCount = s.freeCount ∧ (s.emergencyTrip k).pending = s.pending := by
  refine ⟨?_, ?_, ?_, ?_, ?_, ?_, ?_, ?_, ?_, ?_⟩ <;> unfold State.emergencyTrip <;> (try simp only []) <;> (repeat' split) <;> simp

@[simp] theorem State.lockoutTest_keeps (s : State) (k : Engine) :
    (s.lockoutTest k).lic = s.lic ∧ (s.lockoutTest k).dsl = s.dsl ∧ (s.lockoutTest k).plan = s.plan ∧
    (s.lockoutTest k).engines = s.engines ∧ (s.lockoutTest k).car = s.car ∧ (s.lockoutTest k).sensing = s.sensing ∧
    (s.lockoutTest k).bsm = s.bsm ∧ (s.lockoutTest k).dct = s.dct ∧ (s.lockoutTest k).cli = s.cli ∧
    (s.lockoutTest k).cfs = s.cfs ∧ (s.lockoutTest k).resetting = s.resetting ∧
    (s.lockoutTest k).freeCount = s.freeCount ∧ (s.lockoutTest k).pending = s.pending := by
  refine ⟨?_, ?_, ?_, ?_, ?_, ?_, ?_, ?_, ?_, ?_, ?_, ?_, ?_⟩ <;> unfold State.lockoutTest <;> (repeat' split) <;> simp

@[simp] theorem State.requestSave_keeps (s : State) (k : Engine) :
    (s.requestSave k).lic = s.lic ∧ (s.requestSave k).dsl = s.dsl ∧ (s.requestSave k).table = s.table ∧
    (s.requestSave k).limits = s.limits ∧ (s.requestSave k).plan = s.plan ∧ (s.requestSave k).engines = s.engines ∧
    (s.requestSave k).car = s.car ∧ (s.requestSave k).sensing = s.sensing ∧ (s.requestSave k).bsm = s.bsm ∧
    (s.requestSave k).cli = s.cli ∧ (s.requestSave k).cfs = s.cfs ∧ (s.requestSave k).resetting = s.resetting ∧
    (s.requestSave k).handed = s.handed ∧ (s.requestSave k).freeCount = s.freeCount ∧
    (s.requestSave k).pending = s.pending := by
  refine ⟨?_, ?_, ?_, ?_, ?_, ?_, ?_, ?_, ?_, ?_, ?_, ?_, ?_, ?_, ?_⟩ <;> unfold State.requestSave <;> (try simp only []) <;> (repeat' split) <;> simp

@[simp] theorem State.countEvents_keeps (s : State) (k : Engine) (es : List CountedEvent) :
    (s.countEvents k es).lic = s.lic ∧ (s.countEvents k es).dsl = s.dsl ∧ (s.countEvents k es).plan = s.plan ∧
    (s.countEvents k es).engines = s.engines ∧ (s.countEvents k es).car = s.car ∧
    (s.countEvents k es).sensing = s.sensing ∧ (s.countEvents k es).bsm = s.bsm ∧ (s.countEvents k es).cli = s.cli ∧
    (s.countEvents k es).cfs = s.cfs ∧ (s.countEvents k es).resetting = s.resetting ∧
    (s.countEvents k es).freeCount = s.freeCount ∧ (s.countEvents k es).pending = s.pending := by
  refine ⟨?_, ?_, ?_, ?_, ?_, ?_, ?_, ?_, ?_, ?_, ?_, ?_⟩ <;> unfold State.countEvents <;> (try simp only []) <;> (repeat' split) <;> simp

@[simp] theorem State.saveBegin_keeps (s : State) :
    (s.saveBegin).lic = s.lic ∧ (s.saveBegin).dsl = s.dsl ∧ (s.saveBegin).table = s.table ∧
    (s.saveBegin).limits = s.limits ∧ (s.saveBegin).plan = s.plan ∧ (s.saveBegin).engines = s.engines ∧
    (s.saveBegin).car = s.car ∧ (s.saveBegin).sensing = s.sensing ∧ (s.saveBegin).bsm = s.bsm ∧
    (s.saveBegin).cli = s.cli ∧ (s.saveBegin).cfs = s.cfs ∧ (s.saveBegin).resetting = s.resetting ∧
    (s.saveBegin).handed = s.handed ∧ (s.saveBegin).freeCount = s.freeCount ∧ (s.saveBegin).pending = s.pending := by
  refine ⟨?_, ?_, ?_, ?_, ?_, ?_, ?_, ?_, ?_, ?_, ?_, ?_, ?_, ?_, ?_⟩ <;> unfold State.saveBegin <;> (try simp only []) <;> (repeat' split) <;> simp

@[simp] theorem State.saveEnd_keeps (s : State) :
    (s.saveEnd).lic = s.lic ∧ (s.saveEnd).dsl = s.dsl ∧ (s.saveEnd).table = s.table ∧ (s.saveEnd).limits = s.limits ∧
    (s.saveEnd).plan = s.plan ∧ (s.saveEnd).engines = s.engines ∧ (s.saveEnd).car = s.car ∧
    (s.saveEnd).sensing = s.sensing ∧ (s.saveEnd).bsm = s.bsm ∧ (s.saveEnd).cli = s.cli ∧ (s.saveEnd).cfs = s.cfs ∧
    (s.saveEnd).resetting = s.resetting ∧ (s.saveEnd).handed = s.handed ∧ (s.saveEnd).freeCount = s.freeCount ∧
    (s.saveEnd).pending = s.pending := by
  refine ⟨?_, ?_, ?_, ?_, ?_, ?_, ?_, ?_, ?_, ?_, ?_, ?_, ?_, ?_, ?_⟩ <;> unfold State.saveEnd <;> (try simp only []) <;> (repeat' split) <;> simp

@[simp] theorem State.inputSample_keeps (s : State) (raw : Lines Bool) :
    (s.inputSample raw).table = s.table ∧ (s.inputSample raw).limits = s.limits ∧ (s.inputSample raw).plan = s.plan ∧
    (s.inputSample raw).engines = s.engines ∧ (s.inputSample raw).car = s.car ∧
    (s.inputSample raw).sensing = s.sensing ∧ (s.inputSample raw).bsm = s.bsm ∧ (s.inputSample raw).dct = s.dct ∧
    (s.inputSample raw).cli = s.cli ∧ (s.inputSample raw).cfs = s.cfs ∧ (s.inputSample raw).resetting = s.resetting ∧
    (s.inputSample raw).freeCount = s.freeCount ∧ (s.inputSample raw).pending = s.pending := by
  refine ⟨?_, ?_, ?_, ?_, ?_, ?_, ?_, ?_, ?_, ?_, ?_, ?_, ?_⟩ <;> unfold State.inputSample <;> (try simp only []) <;> simp

@[simp] theorem State.demandStep_keeps (s : State) (d : Dsl) :
    (s.demandStep d).lic = s.lic ∧ (s.demandStep d).table = s.table ∧ (s.demandStep d).limits = s.limits ∧
    (s.demandStep d).plan = s.plan ∧ (s.demandStep d).engines = s.engines ∧ (s.demandStep d).car = s.car ∧
    (s.demandStep d).sensing = s.sensing ∧ (s.demandStep d).bsm = s.bsm ∧ (s.demandStep d).dct = s.dct ∧
    (s.demandStep d).cli = s.cli ∧ (s.demandStep d).cfs = s.cfs ∧ (s.demandStep d).resetting = s.resetting ∧
    (s.demandStep d).freeCount = s.freeCount ∧ (s.demandStep d).pending = s.pending := by
  refine ⟨?_, ?_, ?_, ?_, ?_, ?_, ?_, ?_, ?_, ?_, ?_, ?_, ?_, ?_⟩ <;> unfold State.demandStep <;> (repeat' split) <;> simp

@[simp] theorem State.codeAccepted_keeps (s : State) :
    (s.codeAccepted).lic = s.lic ∧ (s.codeAccepted).table = s.table ∧ (s.codeAccepted).limits = s.limits ∧
    (s.codeAccepted).plan = s.plan ∧ (s.codeAccepted).engines = s.engines ∧ (s.codeAccepted).car = s.car ∧
    (s.codeAccepted).sensing = s.sensing ∧ (s.codeAccepted).bsm = s.bsm ∧ (s.codeAccepted).dct = s.dct ∧
    (s.codeAccepted).cfs = s.cfs ∧ (s.codeAccepted).resetting = s.resetting ∧
    (s.codeAccepted).freeCount = s.freeCount ∧ (s.codeAccepted).pending = s.pending := by
  refine ⟨?_, ?_, ?_, ?_, ?_, ?_, ?_, ?_, ?_, ?_, ?_, ?_, ?_⟩ <;> unfold State.codeAccepted <;> (try simp only []) <;> (repeat' split) <;> simp

@[simp] theorem State.invalidTimeout_keeps (s : State) :
    (s.invalidTimeout).lic = s.lic ∧ (s.invalidTimeout).table = s.table ∧ (s.invalidTimeout).limits = s.limits ∧
    (s.invalidTimeout).plan = s.plan ∧ (s.invalidTimeout).engines = s.engines ∧ (s.invalidTimeout).car = s.car ∧
    (s.invalidTimeout).sensing = s.sensing ∧ (s.invalidTimeout).bsm = s.bsm ∧ (s.invalidTimeout).dct = s.dct ∧
    (s.invalidTimeout).cfs = s.cfs ∧ (s.invalidTimeout).resetting = s.resetting ∧
    (s.invalidTimeout).freeCount = s.freeCount ∧ (s.invalidTimeout).pending = s.pending := by
  refine ⟨?_, ?_, ?_, ?_, ?_, ?_, ?_, ?_, ?_, ?_, ?_, ?_, ?_⟩ <;> unfold State.invalidTimeout <;> (try simp only []) <;> (repeat' split) <;> simp

@[simp] theorem State.demandLapse_keeps (s : State) :
    (s.demandLapse).lic = s.lic ∧ (s.demandLapse).table = s.table ∧ (s.demandLapse).limits = s.limits ∧
    (s.demandLapse).plan = s.plan ∧ (s.demandLapse).engines = s.engines ∧ (s.demandLapse).car = s.car ∧
    (s.demandLapse).sensing = s.sensing ∧ (s.demandLapse).bsm = s.bsm ∧ (s.demandLapse).dct = s.dct ∧
    (s.demandLapse).cfs = s.cfs ∧ (s.demandLapse).resetting = s.resetting ∧ (s.demandLapse).freeCount = s.freeCount ∧
    (s.demandLapse).pending = s.pending := by
  refine ⟨?_, ?_, ?_, ?_, ?_, ?_, ?_, ?_, ?_, ?_, ?_, ?_, ?_⟩ <;> unfold State.demandLapse <;> (try simp only []) <;> (repeat' split) <;> simp

@[simp] theorem State.runLineSeen_keeps (s : State) (k : Engine) (b : Bool) :
    (s.runLineSeen k b).lic = s.lic ∧ (s.runLineSeen k b).dsl = s.dsl ∧ (s.runLineSeen k b).plan = s.plan ∧
    (s.runLineSeen k b).bsm = s.bsm ∧ (s.runLineSeen k b).dct = s.dct ∧ (s.runLineSeen k b).cfs = s.cfs ∧
    (s.runLineSeen k b).resetting = s.resetting ∧ (s.runLineSeen k b).freeCount = s.freeCount ∧
    (s.runLineSeen k b).pending = s.pending := by
  refine ⟨?_, ?_, ?_, ?_, ?_, ?_, ?_, ?_, ?_⟩ <;> unfold State.runLineSeen <;> (repeat' split) <;> simp

@[simp] theorem State.emergencySeen_keeps (s : State) (k : Engine) (b : Bool) :
    (s.emergencySeen k b).lic = s.lic ∧ (s.emergencySeen k b).dsl = s.dsl ∧ (s.emergencySeen k b).plan = s.plan ∧
    (s.emergencySeen k b).bsm = s.bsm ∧ (s.emergencySeen k b).dct = s.dct ∧ (s.emergencySeen k b).cfs = s.cfs ∧
    (s.emergencySeen k b).resetting = s.resetting ∧ (s.emergencySeen k b).freeCount = s.freeCount ∧
    (s.emergencySeen k b).pending = s.pending := by
  refine ⟨?_, ?_, ?_, ?_, ?_, ?_, ?_, ?_, ?_⟩ <;> unfold State.emergencySeen <;> (repeat' split) <;> simp

@[simp] theorem State.levelSeen_keeps (s : State) (i : Input) (b : Block) (v : Bool) :
    (s.levelSeen i b v).lic = s.lic ∧ (s.levelSeen i b v).dsl = s.dsl ∧ (s.levelSeen i b v).plan = s.plan ∧
    (s.levelSeen i b v).bsm = s.bsm ∧ (s.levelSeen i b v).dct = s.dct ∧ (s.levelSeen i b v).cfs = s.cfs ∧
    (s.levelSeen i b v).resetting = s.resetting ∧ (s.levelSeen i b v).freeCount = s.freeCount ∧
    (s.levelSeen i b v).pending = s.pending := by
  refine ⟨?_, ?_, ?_, ?_, ?_, ?_, ?_, ?_, ?_⟩ <;> unfold State.levelSeen <;> (repeat' split) <;> simp

@[simp] theorem State.limitsSeen_keeps (s : State) (k : Engine) (p q : Bool) :
    (s.limitsSeen k p q).lic = s.lic ∧ (s.limitsSeen k p q).dsl = s.dsl ∧ (s.limitsSeen k p q).plan = s.plan ∧
    (s.limitsSeen k p q).bsm = s.bsm ∧ (s.limitsSeen k p q).dct = s.dct ∧ (s.limitsSeen k p q).cfs = s.cfs ∧
    (s.limitsSeen k p q).resetting = s.resetting ∧ (s.limitsSeen k p q).freeCount = s.freeCount ∧
    (s.limitsSeen k p q).pending = s.pending := by
  refine ⟨?_, ?_, ?_, ?_, ?_, ?_, ?_, ?_, ?_⟩ <;> unfold State.limitsSeen <;> (try simp only []) <;> (repeat' split) <;> simp

@[simp] theorem State.limitsChanged_keeps (s : State) (b : Block) (p q : Bool) :
    (s.limitsChanged b p q).lic = s.lic ∧ (s.limitsChanged b p q).dsl = s.dsl ∧
    (s.limitsChanged b p q).plan = s.plan ∧ (s.limitsChanged b p q).bsm = s.bsm ∧
    (s.limitsChanged b p q).dct = s.dct ∧ (s.limitsChanged b p q).cfs = s.cfs ∧
    (s.limitsChanged b p q).resetting = s.resetting ∧ (s.limitsChanged b p q).freeCount = s.freeCount ∧
    (s.limitsChanged b p q).pending = s.pending := by
  refine ⟨?_, ?_, ?_, ?_, ?_, ?_, ?_, ?_, ?_⟩ <;> unfold State.limitsChanged <;> (repeat' split) <;> simp

@[simp] theorem State.modPlan_keeps (s : State) (f : Plan → Plan) :
    (s.modPlan f).lic = s.lic ∧ (s.modPlan f).dsl = s.dsl ∧ (s.modPlan f).table = s.table ∧
    (s.modPlan f).limits = s.limits ∧ (s.modPlan f).engines = s.engines ∧ (s.modPlan f).car = s.car ∧
    (s.modPlan f).sensing = s.sensing ∧ (s.modPlan f).bsm = s.bsm ∧ (s.modPlan f).dct = s.dct ∧
    (s.modPlan f).cli = s.cli ∧ (s.modPlan f).cfs = s.cfs ∧ (s.modPlan f).resetting = s.resetting ∧
    (s.modPlan f).handed = s.handed ∧ (s.modPlan f).freeCount = s.freeCount ∧ (s.modPlan f).pending = s.pending := by
  refine ⟨?_, ?_, ?_, ?_, ?_, ?_, ?_, ?_, ?_, ?_, ?_, ?_, ?_, ?_, ?_⟩ <;> unfold State.modPlan <;> simp

@[simp] theorem State.decideStart_keeps (s : State) (b : Bool) :
    (s.decideStart b).lic = s.lic ∧ (s.decideStart b).dsl = s.dsl ∧ (s.decideStart b).table = s.table ∧
    (s.decideStart b).limits = s.limits ∧ (s.decideStart b).engines = s.engines ∧ (s.decideStart b).car = s.car ∧
    (s.decideStart b).sensing = s.sensing ∧ (s.decideStart b).bsm = s.bsm ∧ (s.decideStart b).dct = s.dct ∧
    (s.decideStart b).cli = s.cli ∧ (s.decideStart b).cfs = s.cfs ∧ (s.decideStart b).resetting = s.resetting ∧
    (s.decideStart b).freeCount = s.freeCount ∧ (s.decideStart b).pending = s.pending := by
  refine ⟨?_, ?_, ?_, ?_, ?_, ?_, ?_, ?_, ?_, ?_, ?_, ?_, ?_, ?_⟩ <;> unfold State.decideStart <;> (try simp only []) <;> (repeat' split) <;> simp

@[simp] theorem State.decideShed_keeps (s : State) (b : Bool) :
    (s.decideShed b).lic = s.lic ∧ (s.decideShed b).dsl = s.dsl ∧ (s.decideShed b).table = s.table ∧
    (s.decideShed b).limits = s.limits ∧ (s.decideShed b).engines = s.engines ∧ (s.decideShed b).car = s.car ∧
    (s.decideShed b).sensing = s.sensing ∧ (s.decideShed b).bsm = s.bsm ∧ (s.decideShed b).dct = s.dct ∧
    (s.decideShed b).cli = s.cli ∧ (s.decideShed b).cfs = s.cfs ∧ (s.decideShed b).resetting = s.resetting ∧
    (s.decideShed b).freeCount = s.freeCount ∧ (s.decideShed b).pending = s.pending := by
  refine ⟨?_, ?_, ?_, ?_, ?_, ?_, ?_, ?_, ?_, ?_, ?_, ?_, ?_, ?_⟩ <;> unfold State.decideShed <;> (try simp only []) <;> (repeat' split) <;> simp

@[simp] theorem State.chooseCandidate_keeps (s : State) (c : ReplanCause) :
    (s.chooseCandidate c).lic = s.lic ∧ (s.chooseCandidate c).dsl = s.dsl ∧ (s.chooseCandidate c).table = s.table ∧
    (s.chooseCandidate c).limits = s.limits ∧ (s.chooseCandidate c).engines = s.engines ∧
    (s.chooseCandidate c).car = s.car ∧ (s.chooseCandidate c).sensing = s.sensing ∧
    (s.chooseCandidate c).bsm = s.bsm ∧ (s.chooseCandidate c).dct = s.dct ∧ (s.chooseCandidate c).cli = s.cli ∧
    (s.chooseCandidate c).cfs = s.cfs ∧ (s.chooseCandidate c).resetting = s.resetting ∧
    (s.chooseCandidate c).handed = s.handed ∧ (s.chooseCandidate c).freeCount = s.freeCount ∧
    (s.chooseCandidate c).pending = s.pending := by
  refine ⟨?_, ?_, ?_, ?_, ?_, ?_, ?_, ?_, ?_, ?_, ?_, ?_, ?_, ?_, ?_⟩ <;> unfold State.chooseCandidate <;> (try simp only []) <;> (repeat' split) <;> simp

@[simp] theorem State.handPairs_keeps (s : State) :
    (s.handPairs).lic = s.lic ∧ (s.handPairs).dsl = s.dsl ∧ (s.handPairs).table = s.table ∧
    (s.handPairs).limits = s.limits ∧ (s.handPairs).engines = s.engines ∧ (s.handPairs).car = s.car ∧
    (s.handPairs).sensing = s.sensing ∧ (s.handPairs).bsm = s.bsm ∧ (s.handPairs).dct = s.dct ∧
    (s.handPairs).cli = s.cli ∧ (s.handPairs).cfs = s.cfs ∧ (s.handPairs).resetting = s.resetting ∧
    (s.handPairs).freeCount = s.freeCount ∧ (s.handPairs).pending = s.pending := by
  refine ⟨?_, ?_, ?_, ?_, ?_, ?_, ?_, ?_, ?_, ?_, ?_, ?_, ?_, ?_⟩ <;> unfold State.handPairs <;> (try simp only []) <;> (repeat' split) <;> simp

@[simp] theorem State.formShort_keeps (s : State) :
    (s.formShort).lic = s.lic ∧ (s.formShort).dsl = s.dsl ∧ (s.formShort).table = s.table ∧
    (s.formShort).limits = s.limits ∧ (s.formShort).engines = s.engines ∧ (s.formShort).car = s.car ∧
    (s.formShort).sensing = s.sensing ∧ (s.formShort).bsm = s.bsm ∧ (s.formShort).dct = s.dct ∧
    (s.formShort).cfs = s.cfs ∧ (s.formShort).resetting = s.resetting ∧ (s.formShort).handed = s.handed ∧
    (s.formShort).freeCount = s.freeCount ∧ (s.formShort).pending = s.pending := by
  refine ⟨?_, ?_, ?_, ?_, ?_, ?_, ?_, ?_, ?_, ?_, ?_, ?_, ?_, ?_⟩ <;> unfold State.formShort <;> (repeat' split) <;> simp

@[simp] theorem State.formDemand_keeps (s : State) :
    (s.formDemand).lic = s.lic ∧ (s.formDemand).dsl = s.dsl ∧ (s.formDemand).table = s.table ∧
    (s.formDemand).limits = s.limits ∧ (s.formDemand).engines = s.engines ∧ (s.formDemand).car = s.car ∧
    (s.formDemand).sensing = s.sensing ∧ (s.formDemand).bsm = s.bsm ∧ (s.formDemand).dct = s.dct ∧
    (s.formDemand).cli = s.cli ∧ (s.formDemand).cfs = s.cfs ∧ (s.formDemand).resetting = s.resetting ∧
    (s.formDemand).handed = s.handed ∧ (s.formDemand).freeCount = s.freeCount ∧
    (s.formDemand).pending = s.pending := by
  refine ⟨?_, ?_, ?_, ?_, ?_, ?_, ?_, ?_, ?_, ?_, ?_, ?_, ?_, ?_, ?_⟩ <;> unfold State.formDemand <;> (try simp only []) <;> simp

@[simp] theorem State.replan_keeps (s : State) (c : ReplanCause) :
    (s.replan c).lic = s.lic ∧ (s.replan c).dsl = s.dsl ∧ (s.replan c).table = s.table ∧
    (s.replan c).limits = s.limits ∧ (s.replan c).engines = s.engines ∧ (s.replan c).car = s.car ∧
    (s.replan c).sensing = s.sensing ∧ (s.replan c).bsm = s.bsm ∧ (s.replan c).dct = s.dct ∧
    (s.replan c).cfs = s.cfs ∧ (s.replan c).resetting = s.resetting ∧ (s.replan c).freeCount = s.freeCount ∧
    (s.replan c).pending = s.pending := by
  refine ⟨?_, ?_, ?_, ?_, ?_, ?_, ?_, ?_, ?_, ?_, ?_, ?_, ?_⟩ <;> unfold State.replan <;> simp

@[simp] theorem State.plannerCount_keeps (s : State) :
    (s.plannerCount).lic = s.lic ∧ (s.plannerCount).dsl = s.dsl ∧ (s.plannerCount).table = s.table ∧
    (s.plannerCount).limits = s.limits ∧ (s.plannerCount).engines = s.engines ∧ (s.plannerCount).car = s.car ∧
    (s.plannerCount).sensing = s.sensing ∧ (s.plannerCount).bsm = s.bsm ∧ (s.plannerCount).dct = s.dct ∧
    (s.plannerCount).cli = s.cli ∧ (s.plannerCount).cfs = s.cfs ∧ (s.plannerCount).resetting = s.resetting ∧
    (s.plannerCount).freeCount = s.freeCount ∧ (s.plannerCount).pending = s.pending := by
  refine ⟨?_, ?_, ?_, ?_, ?_, ?_, ?_, ?_, ?_, ?_, ?_, ?_, ?_, ?_⟩ <;> unfold State.plannerCount <;> (try simp only []) <;> simp

@[simp] theorem State.startDwellComplete_keeps (s : State) :
    (s.startDwellComplete).lic = s.lic ∧ (s.startDwellComplete).dsl = s.dsl ∧
    (s.startDwellComplete).table = s.table ∧ (s.startDwellComplete).limits = s.limits ∧
    (s.startDwellComplete).engines = s.engines ∧ (s.startDwellComplete).car = s.car ∧
    (s.startDwellComplete).sensing = s.sensing ∧ (s.startDwellComplete).bsm = s.bsm ∧
    (s.startDwellComplete).dct = s.dct ∧ (s.startDwellComplete).cli = s.cli ∧ (s.startDwellComplete).cfs = s.cfs ∧
    (s.startDwellComplete).resetting = s.resetting ∧ (s.startDwellComplete).freeCount = s.freeCount ∧
    (s.startDwellComplete).pending = s.pending := by
  refine ⟨?_, ?_, ?_, ?_, ?_, ?_, ?_, ?_, ?_, ?_, ?_, ?_, ?_, ?_⟩ <;> unfold State.startDwellComplete <;> (repeat' split) <;> simp

@[simp] theorem State.shedDwellComplete_keeps (s : State) :
    (s.shedDwellComplete).lic = s.lic ∧ (s.shedDwellComplete).dsl = s.dsl ∧ (s.shedDwellComplete).table = s.table ∧
    (s.shedDwellComplete).limits = s.limits ∧ (s.shedDwellComplete).engines = s.engines ∧
    (s.shedDwellComplete).car = s.car ∧ (s.shedDwellComplete).sensing = s.sensing ∧
    (s.shedDwellComplete).bsm = s.bsm ∧ (s.shedDwellComplete).dct = s.dct ∧ (s.shedDwellComplete).cli = s.cli ∧
    (s.shedDwellComplete).cfs = s.cfs ∧ (s.shedDwellComplete).resetting = s.resetting ∧
    (s.shedDwellComplete).freeCount = s.freeCount ∧ (s.shedDwellComplete).pending = s.pending := by
  refine ⟨?_, ?_, ?_, ?_, ?_, ?_, ?_, ?_, ?_, ?_, ?_, ?_, ?_, ?_⟩ <;> unfold State.shedDwellComplete <;> (repeat' split) <;> simp

@[simp] theorem State.takePairs_keeps (s : State) (h : PerEngine (Option Pair)) :
    (s.takePairs h).lic = s.lic ∧ (s.takePairs h).dsl = s.dsl ∧ (s.takePairs h).table = s.table ∧
    (s.takePairs h).limits = s.limits ∧ (s.takePairs h).plan = s.plan ∧ (s.takePairs h).car = s.car ∧
    (s.takePairs h).sensing = s.sensing ∧ (s.takePairs h).bsm = s.bsm ∧ (s.takePairs h).dct = s.dct ∧
    (s.takePairs h).cli = s.cli ∧ (s.takePairs h).cfs = s.cfs ∧ (s.takePairs h).resetting = s.resetting ∧
    (s.takePairs h).handed = s.handed ∧ (s.takePairs h).freeCount = s.freeCount ∧
    (s.takePairs h).pending = s.pending := by
  refine ⟨?_, ?_, ?_, ?_, ?_, ?_, ?_, ?_, ?_, ?_, ?_, ?_, ?_, ?_, ?_⟩ <;> unfold State.takePairs <;> (try simp only []) <;> simp

@[simp] theorem State.setpointUpdate_keeps (s : State) (k : Engine) :
    (s.setpointUpdate k).lic = s.lic ∧ (s.setpointUpdate k).dsl = s.dsl ∧ (s.setpointUpdate k).plan = s.plan ∧
    (s.setpointUpdate k).sensing = s.sensing ∧ (s.setpointUpdate k).bsm = s.bsm ∧ (s.setpointUpdate k).dct = s.dct ∧
    (s.setpointUpdate k).cfs = s.cfs ∧ (s.setpointUpdate k).resetting = s.resetting ∧
    (s.setpointUpdate k).freeCount = s.freeCount ∧ (s.setpointUpdate k).pending = s.pending := by
  refine ⟨?_, ?_, ?_, ?_, ?_, ?_, ?_, ?_, ?_, ?_⟩ <;> unfold State.setpointUpdate <;> (try simp only []) <;> (repeat' split) <;> simp

/-- The ramp changes the setpoint and the settling alone. -/
theorem State.ramped_keeps (s : State) (r : EngineRec) :
    (s.ramped r).state = r.state ∧ (s.ramped r).stopPending = r.stopPending ∧ (s.ramped r).notch = r.notch ∧
      (s.ramped r).pairInUse = r.pairInUse := by
  unfold State.ramped EngineRec.pairInUse EngineRec.inO
  split
  · simp
  · simp only []
    split <;> simp

/-- A step is due only on an ONLINE engine, and never on one with a stop pending at notch 0. -/
theorem State.stepDue_online (s : State) (r : EngineRec) (h : (s.stepDue r).isSome) :
    r.state = .online ∧ ¬ (r.stopPending = true ∧ r.notch = 0) := by
  unfold State.stepDue at h
  by_cases hr : r.state = .online ∧ r.settled = true
  · refine ⟨hr.1, fun hs => ?_⟩
    simp [hr, hs, EngineRec.pairInUse, EngineRec.inO] at h
  · simp [hr] at h

/-- NOTCH_STEP leaves the record ramped and stepped when a step is due at this update, and nothing changed when none is. -/
theorem State.notchStep_eq (s : State) (k : Engine) :
    s.notchStep k =
      if (s.stepDue (s.ramped (s.eng k))).isSome then s.setEng k (s.compared (s.ramped (s.eng k))) else s := by
  unfold State.notchStep
  split
  · rename_i h
    obtain ⟨h1, h2⟩ := s.stepDue_online _ h
    have ho : (s.eng k).state = .online := by rw [← h1]; exact (s.ramped_keeps _).1.symm
    have hn : ¬ ((s.ramped (s.eng k)).stopPending = true ∧ (s.ramped (s.eng k)).settled = true ∧
        (s.ramped (s.eng k)).notch = 0) := fun x => h2 ⟨x.1, x.2.2⟩
    simp only [State.setpointUpdate, if_pos ho, if_neg hn]
  · rfl

@[simp] theorem State.notchStep_keeps (s : State) (k : Engine) :
    (s.notchStep k).lic = s.lic ∧ (s.notchStep k).dsl = s.dsl ∧ (s.notchStep k).table = s.table ∧
    (s.notchStep k).limits = s.limits ∧ (s.notchStep k).plan = s.plan ∧ (s.notchStep k).car = s.car ∧
    (s.notchStep k).sensing = s.sensing ∧ (s.notchStep k).bsm = s.bsm ∧ (s.notchStep k).dct = s.dct ∧
    (s.notchStep k).cli = s.cli ∧ (s.notchStep k).cfs = s.cfs ∧ (s.notchStep k).resetting = s.resetting ∧
    (s.notchStep k).handed = s.handed ∧ (s.notchStep k).freeCount = s.freeCount ∧
    (s.notchStep k).pending = s.pending := by
  refine ⟨?_, ?_, ?_, ?_, ?_, ?_, ?_, ?_, ?_, ?_, ?_, ?_, ?_, ?_, ?_⟩ <;> rw [State.notchStep_eq] <;> split <;> simp

@[simp] theorem State.expiryCount_keeps (s : State) :
    (s.expiryCount).lic = s.lic ∧ (s.expiryCount).dsl = s.dsl ∧ (s.expiryCount).plan = s.plan ∧
    (s.expiryCount).engines = s.engines ∧ (s.expiryCount).car = s.car ∧ (s.expiryCount).sensing = s.sensing ∧
    (s.expiryCount).bsm = s.bsm ∧ (s.expiryCount).dct = s.dct ∧ (s.expiryCount).cfs = s.cfs ∧
    (s.expiryCount).resetting = s.resetting ∧ (s.expiryCount).freeCount = s.freeCount ∧
    (s.expiryCount).pending = s.pending := by
  refine ⟨?_, ?_, ?_, ?_, ?_, ?_, ?_, ?_, ?_, ?_, ?_, ?_⟩ <;> unfold State.expiryCount <;> split <;> simp

@[simp] theorem State.prelubeTimeout_keeps (s : State) (k : Engine) :
    (s.prelubeTimeout k).lic = s.lic ∧ (s.prelubeTimeout k).dsl = s.dsl ∧ (s.prelubeTimeout k).plan = s.plan ∧
    (s.prelubeTimeout k).sensing = s.sensing ∧ (s.prelubeTimeout k).bsm = s.bsm ∧ (s.prelubeTimeout k).dct = s.dct ∧
    (s.prelubeTimeout k).cfs = s.cfs ∧ (s.prelubeTimeout k).resetting = s.resetting ∧
    (s.prelubeTimeout k).freeCount = s.freeCount ∧ (s.prelubeTimeout k).pending = s.pending := by
  refine ⟨?_, ?_, ?_, ?_, ?_, ?_, ?_, ?_, ?_, ?_⟩ <;> unfold State.prelubeTimeout <;> (repeat' split) <;> simp

@[simp] theorem State.crankTimeout_keeps (s : State) (k : Engine) :
    (s.crankTimeout k).lic = s.lic ∧ (s.crankTimeout k).dsl = s.dsl ∧ (s.crankTimeout k).plan = s.plan ∧
    (s.crankTimeout k).sensing = s.sensing ∧ (s.crankTimeout k).bsm = s.bsm ∧ (s.crankTimeout k).dct = s.dct ∧
    (s.crankTimeout k).cfs = s.cfs ∧ (s.crankTimeout k).resetting = s.resetting ∧
    (s.crankTimeout k).freeCount = s.freeCount ∧ (s.crankTimeout k).pending = s.pending := by
  refine ⟨?_, ?_, ?_, ?_, ?_, ?_, ?_, ?_, ?_, ?_⟩ <;> unfold State.crankTimeout <;> (repeat' split) <;> simp

@[simp] theorem State.restEnd_keeps (s : State) (k : Engine) :
    (s.restEnd k).lic = s.lic ∧ (s.restEnd k).dsl = s.dsl ∧ (s.restEnd k).plan = s.plan ∧
    (s.restEnd k).sensing = s.sensing ∧ (s.restEnd k).bsm = s.bsm ∧ (s.restEnd k).dct = s.dct ∧
    (s.restEnd k).cfs = s.cfs ∧ (s.restEnd k).resetting = s.resetting ∧ (s.restEnd k).freeCount = s.freeCount ∧
    (s.restEnd k).pending = s.pending := by
  refine ⟨?_, ?_, ?_, ?_, ?_, ?_, ?_, ?_, ?_, ?_⟩ <;> unfold State.restEnd <;> (repeat' split) <;> simp

@[simp] theorem State.runupTimeout_keeps (s : State) (k : Engine) :
    (s.runupTimeout k).lic = s.lic ∧ (s.runupTimeout k).dsl = s.dsl ∧ (s.runupTimeout k).plan = s.plan ∧
    (s.runupTimeout k).sensing = s.sensing ∧ (s.runupTimeout k).bsm = s.bsm ∧ (s.runupTimeout k).dct = s.dct ∧
    (s.runupTimeout k).cfs = s.cfs ∧ (s.runupTimeout k).resetting = s.resetting ∧
    (s.runupTimeout k).freeCount = s.freeCount ∧ (s.runupTimeout k).pending = s.pending := by
  refine ⟨?_, ?_, ?_, ?_, ?_, ?_, ?_, ?_, ?_, ?_⟩ <;> unfold State.runupTimeout <;> (repeat' split) <;> simp

@[simp] theorem State.cooldownEnd_keeps (s : State) (k : Engine) :
    (s.cooldownEnd k).lic = s.lic ∧ (s.cooldownEnd k).dsl = s.dsl ∧ (s.cooldownEnd k).plan = s.plan ∧
    (s.cooldownEnd k).sensing = s.sensing ∧ (s.cooldownEnd k).bsm = s.bsm ∧ (s.cooldownEnd k).dct = s.dct ∧
    (s.cooldownEnd k).cfs = s.cfs ∧ (s.cooldownEnd k).resetting = s.resetting ∧
    (s.cooldownEnd k).freeCount = s.freeCount ∧ (s.cooldownEnd k).pending = s.pending := by
  refine ⟨?_, ?_, ?_, ?_, ?_, ?_, ?_, ?_, ?_, ?_⟩ <;> unfold State.cooldownEnd <;> (repeat' split) <;> simp

@[simp] theorem State.stopFail_keeps (s : State) (k : Engine) :
    (s.stopFail k).lic = s.lic ∧ (s.stopFail k).dsl = s.dsl ∧ (s.stopFail k).plan = s.plan ∧
    (s.stopFail k).sensing = s.sensing ∧ (s.stopFail k).bsm = s.bsm ∧ (s.stopFail k).dct = s.dct ∧
    (s.stopFail k).cfs = s.cfs ∧ (s.stopFail k).resetting = s.resetting ∧ (s.stopFail k).freeCount = s.freeCount ∧
    (s.stopFail k).pending = s.pending := by
  refine ⟨?_, ?_, ?_, ?_, ?_, ?_, ?_, ?_, ?_, ?_⟩ <;> unfold State.stopFail <;> (repeat' split) <;> simp

@[simp] theorem State.takeGrant_keeps (s : State) (k : Engine) :
    (s.takeGrant k).lic = s.lic ∧ (s.takeGrant k).dsl = s.dsl ∧ (s.takeGrant k).plan = s.plan ∧
    (s.takeGrant k).sensing = s.sensing ∧ (s.takeGrant k).bsm = s.bsm ∧ (s.takeGrant k).dct = s.dct ∧
    (s.takeGrant k).cfs = s.cfs ∧ (s.takeGrant k).resetting = s.resetting ∧ (s.takeGrant k).freeCount = s.freeCount ∧
    (s.takeGrant k).pending = s.pending := by
  refine ⟨?_, ?_, ?_, ?_, ?_, ?_, ?_, ?_, ?_, ?_⟩ <;> unfold State.takeGrant <;> (try simp only []) <;> (repeat' split) <;> simp

@[simp] theorem State.speedReport_keeps (s : State) (k : Engine) :
    (s.speedReport k).lic = s.lic ∧ (s.speedReport k).dsl = s.dsl ∧ (s.speedReport k).plan = s.plan ∧
    (s.speedReport k).bsm = s.bsm ∧ (s.speedReport k).dct = s.dct ∧ (s.speedReport k).cfs = s.cfs ∧
    (s.speedReport k).resetting = s.resetting ∧ (s.speedReport k).freeCount = s.freeCount ∧
    (s.speedReport k).pending = s.pending := by
  refine ⟨?_, ?_, ?_, ?_, ?_, ?_, ?_, ?_, ?_⟩ <;> unfold State.speedReport <;> (try simp only []) <;> (repeat' split) <;> simp

@[simp] theorem State.speedUpdate_keeps (s : State) (k : Engine) :
    (s.speedUpdate k).lic = s.lic ∧ (s.speedUpdate k).dsl = s.dsl ∧ (s.speedUpdate k).plan = s.plan ∧
    (s.speedUpdate k).bsm = s.bsm ∧ (s.speedUpdate k).dct = s.dct ∧ (s.speedUpdate k).cfs = s.cfs ∧
    (s.speedUpdate k).resetting = s.resetting ∧ (s.speedUpdate k).pending = s.pending := by
  refine ⟨?_, ?_, ?_, ?_, ?_, ?_, ?_, ?_⟩ <;> unfold State.speedUpdate <;> (try simp only []) <;> (repeat' split) <;> simp

@[simp] theorem State.pickupPulse_keeps (s : State) (k : Engine) (p : Pickup) :
    (s.pickupPulse k p).lic = s.lic ∧ (s.pickupPulse k p).dsl = s.dsl ∧ (s.pickupPulse k p).table = s.table ∧
    (s.pickupPulse k p).limits = s.limits ∧ (s.pickupPulse k p).plan = s.plan ∧
    (s.pickupPulse k p).engines = s.engines ∧ (s.pickupPulse k p).car = s.car ∧ (s.pickupPulse k p).bsm = s.bsm ∧
    (s.pickupPulse k p).dct = s.dct ∧ (s.pickupPulse k p).cli = s.cli ∧ (s.pickupPulse k p).cfs = s.cfs ∧
    (s.pickupPulse k p).resetting = s.resetting ∧ (s.pickupPulse k p).handed = s.handed ∧
    (s.pickupPulse k p).freeCount = s.freeCount ∧ (s.pickupPulse k p).pending = s.pending := by
  refine ⟨?_, ?_, ?_, ?_, ?_, ?_, ?_, ?_, ?_, ?_, ?_, ?_, ?_, ?_, ?_⟩ <;> unfold State.pickupPulse <;> (try simp only []) <;> simp

@[simp] theorem State.coolantSample_keeps (s : State) (k : Engine) (c : Int) :
    (s.coolantSample k c).lic = s.lic ∧ (s.coolantSample k c).dsl = s.dsl ∧ (s.coolantSample k c).plan = s.plan ∧
    (s.coolantSample k c).engines = s.engines ∧ (s.coolantSample k c).car = s.car ∧
    (s.coolantSample k c).bsm = s.bsm ∧ (s.coolantSample k c).dct = s.dct ∧ (s.coolantSample k c).cli = s.cli ∧
    (s.coolantSample k c).cfs = s.cfs ∧ (s.coolantSample k c).resetting = s.resetting ∧
    (s.coolantSample k c).freeCount = s.freeCount ∧ (s.coolantSample k c).pending = s.pending := by
  refine ⟨?_, ?_, ?_, ?_, ?_, ?_, ?_, ?_, ?_, ?_, ?_, ?_⟩ <;> unfold State.coolantSample <;> (try simp only []) <;> (repeat' split) <;> simp

@[simp] theorem State.hotPosted_keeps (s : State) (k : Engine) :
    (s.hotPosted k).lic = s.lic ∧ (s.hotPosted k).dsl = s.dsl ∧ (s.hotPosted k).plan = s.plan ∧
    (s.hotPosted k).engines = s.engines ∧ (s.hotPosted k).car = s.car ∧ (s.hotPosted k).sensing = s.sensing ∧
    (s.hotPosted k).bsm = s.bsm ∧ (s.hotPosted k).dct = s.dct ∧ (s.hotPosted k).cli = s.cli ∧
    (s.hotPosted k).cfs = s.cfs ∧ (s.hotPosted k).resetting = s.resetting ∧ (s.hotPosted k).freeCount = s.freeCount ∧
    (s.hotPosted k).pending = s.pending := by
  refine ⟨?_, ?_, ?_, ?_, ?_, ?_, ?_, ?_, ?_, ?_, ?_, ?_, ?_⟩ <;> unfold State.hotPosted <;> (repeat' split) <;> simp

@[simp] theorem State.hotRetired_keeps (s : State) (k : Engine) :
    (s.hotRetired k).lic = s.lic ∧ (s.hotRetired k).dsl = s.dsl ∧ (s.hotRetired k).plan = s.plan ∧
    (s.hotRetired k).engines = s.engines ∧ (s.hotRetired k).car = s.car ∧ (s.hotRetired k).sensing = s.sensing ∧
    (s.hotRetired k).bsm = s.bsm ∧ (s.hotRetired k).dct = s.dct ∧ (s.hotRetired k).cli = s.cli ∧
    (s.hotRetired k).cfs = s.cfs ∧ (s.hotRetired k).resetting = s.resetting ∧
    (s.hotRetired k).freeCount = s.freeCount ∧ (s.hotRetired k).pending = s.pending := by
  refine ⟨?_, ?_, ?_, ?_, ?_, ?_, ?_, ?_, ?_, ?_, ?_, ?_, ?_⟩ <;> unfold State.hotRetired <;> (repeat' split) <;> simp

@[simp] theorem State.warmupRetired_keeps (s : State) (k : Engine) :
    (s.warmupRetired k).lic = s.lic ∧ (s.warmupRetired k).dsl = s.dsl ∧ (s.warmupRetired k).plan = s.plan ∧
    (s.warmupRetired k).engines = s.engines ∧ (s.warmupRetired k).car = s.car ∧ (s.warmupRetired k).bsm = s.bsm ∧
    (s.warmupRetired k).dct = s.dct ∧ (s.warmupRetired k).cli = s.cli ∧ (s.warmupRetired k).cfs = s.cfs ∧
    (s.warmupRetired k).resetting = s.resetting ∧ (s.warmupRetired k).freeCount = s.freeCount ∧
    (s.warmupRetired k).pending = s.pending := by
  refine ⟨?_, ?_, ?_, ?_, ?_, ?_, ?_, ?_, ?_, ?_, ?_, ?_⟩ <;> unfold State.warmupRetired <;> (try simp only []) <;> (repeat' split) <;> simp

@[simp] theorem State.overheatSeen_keeps (s : State) (k : Engine) :
    (s.overheatSeen k).lic = s.lic ∧ (s.overheatSeen k).dsl = s.dsl ∧ (s.overheatSeen k).plan = s.plan ∧
    (s.overheatSeen k).sensing = s.sensing ∧ (s.overheatSeen k).bsm = s.bsm ∧ (s.overheatSeen k).dct = s.dct ∧
    (s.overheatSeen k).cfs = s.cfs ∧ (s.overheatSeen k).resetting = s.resetting ∧
    (s.overheatSeen k).freeCount = s.freeCount ∧ (s.overheatSeen k).pending = s.pending := by
  refine ⟨?_, ?_, ?_, ?_, ?_, ?_, ?_, ?_, ?_, ?_⟩ <;> unfold State.overheatSeen <;> (repeat' split) <;> simp

@[simp] theorem State.batterySample_keeps (s : State) (v : Int) :
    (s.batterySample v).lic = s.lic ∧ (s.batterySample v).dsl = s.dsl ∧ (s.batterySample v).table = s.table ∧
    (s.batterySample v).limits = s.limits ∧ (s.batterySample v).plan = s.plan ∧
    (s.batterySample v).engines = s.engines ∧ (s.batterySample v).car = s.car ∧
    (s.batterySample v).sensing = s.sensing ∧ (s.batterySample v).dct = s.dct ∧ (s.batterySample v).cli = s.cli ∧
    (s.batterySample v).cfs = s.cfs ∧ (s.batterySample v).resetting = s.resetting ∧
    (s.batterySample v).freeCount = s.freeCount ∧ (s.batterySample v).pending = s.pending := by
  refine ⟨?_, ?_, ?_, ?_, ?_, ?_, ?_, ?_, ?_, ?_, ?_, ?_, ?_, ?_⟩ <;> unfold State.batterySample <;> (try simp only []) <;> (repeat' split) <;> simp

@[simp] theorem State.batteryLowPosted_keeps (s : State) :
    (s.batteryLowPosted).lic = s.lic ∧ (s.batteryLowPosted).dsl = s.dsl ∧ (s.batteryLowPosted).plan = s.plan ∧
    (s.batteryLowPosted).engines = s.engines ∧ (s.batteryLowPosted).car = s.car ∧
    (s.batteryLowPosted).sensing = s.sensing ∧ (s.batteryLowPosted).bsm = s.bsm ∧ (s.batteryLowPosted).dct = s.dct ∧
    (s.batteryLowPosted).cli = s.cli ∧ (s.batteryLowPosted).cfs = s.cfs ∧
    (s.batteryLowPosted).resetting = s.resetting ∧ (s.batteryLowPosted).freeCount = s.freeCount ∧
    (s.batteryLowPosted).pending = s.pending := by
  refine ⟨?_, ?_, ?_, ?_, ?_, ?_, ?_, ?_, ?_, ?_, ?_, ?_, ?_⟩ <;> unfold State.batteryLowPosted <;> (repeat' split) <;> simp

@[simp] theorem State.batteryLowRetired_keeps (s : State) :
    (s.batteryLowRetired).lic = s.lic ∧ (s.batteryLowRetired).dsl = s.dsl ∧ (s.batteryLowRetired).plan = s.plan ∧
    (s.batteryLowRetired).engines = s.engines ∧ (s.batteryLowRetired).car = s.car ∧
    (s.batteryLowRetired).sensing = s.sensing ∧ (s.batteryLowRetired).bsm = s.bsm ∧
    (s.batteryLowRetired).dct = s.dct ∧ (s.batteryLowRetired).cli = s.cli ∧ (s.batteryLowRetired).cfs = s.cfs ∧
    (s.batteryLowRetired).resetting = s.resetting ∧ (s.batteryLowRetired).freeCount = s.freeCount ∧
    (s.batteryLowRetired).pending = s.pending := by
  refine ⟨?_, ?_, ?_, ?_, ?_, ?_, ?_, ?_, ?_, ?_, ?_, ?_, ?_⟩ <;> unfold State.batteryLowRetired <;> (repeat' split) <;> simp

@[simp] theorem State.sagSeen_keeps (s : State) (k : Engine) :
    (s.sagSeen k).lic = s.lic ∧ (s.sagSeen k).dsl = s.dsl ∧ (s.sagSeen k).plan = s.plan ∧
    (s.sagSeen k).sensing = s.sensing ∧ (s.sagSeen k).bsm = s.bsm ∧ (s.sagSeen k).dct = s.dct ∧
    (s.sagSeen k).cfs = s.cfs ∧ (s.sagSeen k).resetting = s.resetting ∧ (s.sagSeen k).freeCount = s.freeCount ∧
    (s.sagSeen k).pending = s.pending := by
  refine ⟨?_, ?_, ?_, ?_, ?_, ?_, ?_, ?_, ?_, ?_⟩ <;> unfold State.sagSeen <;> (repeat' split) <;> simp

@[simp] theorem State.raiseReset_keeps (s : State) (k : ResetKind) :
    (s.raiseReset k).lic = s.lic ∧ (s.raiseReset k).dsl = s.dsl ∧ (s.raiseReset k).table = s.table ∧
    (s.raiseReset k).limits = s.limits ∧ (s.raiseReset k).plan = s.plan ∧ (s.raiseReset k).engines = s.engines ∧
    (s.raiseReset k).car = s.car ∧ (s.raiseReset k).sensing = s.sensing ∧ (s.raiseReset k).bsm = s.bsm ∧
    (s.raiseReset k).dct = s.dct ∧ (s.raiseReset k).cli = s.cli ∧ (s.raiseReset k).freeCount = s.freeCount ∧
    (s.raiseReset k).pending = s.pending := by
  refine ⟨?_, ?_, ?_, ?_, ?_, ?_, ?_, ?_, ?_, ?_, ?_, ?_, ?_⟩ <;> unfold State.raiseReset <;> simp

@[simp] theorem State.loseRetained_keeps (s : State) :
    (s.loseRetained).lic = s.lic ∧ (s.loseRetained).dsl = s.dsl ∧ (s.loseRetained).table = s.table ∧
    (s.loseRetained).limits = s.limits ∧ (s.loseRetained).plan = s.plan ∧ (s.loseRetained).engines = s.engines ∧
    (s.loseRetained).car = s.car ∧ (s.loseRetained).sensing = s.sensing ∧ (s.loseRetained).bsm = s.bsm ∧
    (s.loseRetained).cli = s.cli ∧ (s.loseRetained).resetting = s.resetting ∧ (s.loseRetained).handed = s.handed ∧
    (s.loseRetained).freeCount = s.freeCount ∧ (s.loseRetained).pending = s.pending := by
  refine ⟨?_, ?_, ?_, ?_, ?_, ?_, ?_, ?_, ?_, ?_, ?_, ?_, ?_, ?_⟩ <;> unfold State.loseRetained <;> (try simp only []) <;> simp

@[simp] theorem State.restartWhenSent_keeps (s : State) :
    (s.restartWhenSent).lic = s.lic ∧ (s.restartWhenSent).dsl = s.dsl ∧ (s.restartWhenSent).table = s.table ∧
    (s.restartWhenSent).limits = s.limits ∧ (s.restartWhenSent).plan = s.plan ∧
    (s.restartWhenSent).engines = s.engines ∧ (s.restartWhenSent).car = s.car ∧
    (s.restartWhenSent).sensing = s.sensing ∧ (s.restartWhenSent).bsm = s.bsm ∧ (s.restartWhenSent).dct = s.dct ∧
    (s.restartWhenSent).cli = s.cli ∧ (s.restartWhenSent).freeCount = s.freeCount ∧
    (s.restartWhenSent).pending = s.pending := by
  refine ⟨?_, ?_, ?_, ?_, ?_, ?_, ?_, ?_, ?_, ?_, ?_, ?_, ?_⟩ <;> unfold State.restartWhenSent <;> (repeat' split) <;> simp

@[simp] theorem State.characterReceived_keeps (s : State) (ch : Byte) (e : Bool) :
    (s.characterReceived ch e).lic = s.lic ∧ (s.characterReceived ch e).dsl = s.dsl ∧
    (s.characterReceived ch e).table = s.table ∧ (s.characterReceived ch e).limits = s.limits ∧
    (s.characterReceived ch e).plan = s.plan ∧ (s.characterReceived ch e).engines = s.engines ∧
    (s.characterReceived ch e).car = s.car ∧ (s.characterReceived ch e).sensing = s.sensing ∧
    (s.characterReceived ch e).bsm = s.bsm ∧ (s.characterReceived ch e).dct = s.dct ∧
    (s.characterReceived ch e).cfs = s.cfs ∧ (s.characterReceived ch e).resetting = s.resetting ∧
    (s.characterReceived ch e).handed = s.handed ∧ (s.characterReceived ch e).freeCount = s.freeCount ∧
    (s.characterReceived ch e).pending = s.pending := by
  refine ⟨?_, ?_, ?_, ?_, ?_, ?_, ?_, ?_, ?_, ?_, ?_, ?_, ?_, ?_, ?_⟩ <;> unfold State.characterReceived <;> (try simp only []) <;> (repeat' split) <;> simp

@[simp] theorem State.takeIn_keeps (s : State) (r : Request) :
    (s.takeIn r).lic = s.lic ∧ (s.takeIn r).dsl = s.dsl ∧ (s.takeIn r).table = s.table ∧
    (s.takeIn r).limits = s.limits ∧ (s.takeIn r).plan = s.plan ∧ (s.takeIn r).engines = s.engines ∧
    (s.takeIn r).car = s.car ∧ (s.takeIn r).sensing = s.sensing ∧ (s.takeIn r).bsm = s.bsm ∧
    (s.takeIn r).dct = s.dct ∧ (s.takeIn r).cfs = s.cfs ∧ (s.takeIn r).resetting = s.resetting ∧
    (s.takeIn r).handed = s.handed ∧ (s.takeIn r).freeCount = s.freeCount ∧ (s.takeIn r).pending = s.pending := by
  refine ⟨?_, ?_, ?_, ?_, ?_, ?_, ?_, ?_, ?_, ?_, ?_, ?_, ?_, ?_, ?_⟩ <;> unfold State.takeIn <;> (try simp only []) <;> (repeat' split) <;> simp

@[simp] theorem State.frameComplete_keeps (s : State) :
    (s.frameComplete).lic = s.lic ∧ (s.frameComplete).dsl = s.dsl ∧ (s.frameComplete).table = s.table ∧
    (s.frameComplete).limits = s.limits ∧ (s.frameComplete).plan = s.plan ∧ (s.frameComplete).engines = s.engines ∧
    (s.frameComplete).car = s.car ∧ (s.frameComplete).sensing = s.sensing ∧ (s.frameComplete).bsm = s.bsm ∧
    (s.frameComplete).dct = s.dct ∧ (s.frameComplete).cfs = s.cfs ∧ (s.frameComplete).resetting = s.resetting ∧
    (s.frameComplete).handed = s.handed ∧ (s.frameComplete).freeCount = s.freeCount ∧
    (s.frameComplete).pending = s.pending := by
  refine ⟨?_, ?_, ?_, ?_, ?_, ?_, ?_, ?_, ?_, ?_, ?_, ?_, ?_, ?_, ?_⟩ <;> unfold State.frameComplete <;> (try simp only []) <;> (repeat' split) <;> simp

@[simp] theorem State.gapTimeout_keeps (s : State) :
    (s.gapTimeout).lic = s.lic ∧ (s.gapTimeout).dsl = s.dsl ∧ (s.gapTimeout).table = s.table ∧
    (s.gapTimeout).limits = s.limits ∧ (s.gapTimeout).plan = s.plan ∧ (s.gapTimeout).engines = s.engines ∧
    (s.gapTimeout).car = s.car ∧ (s.gapTimeout).sensing = s.sensing ∧ (s.gapTimeout).bsm = s.bsm ∧
    (s.gapTimeout).dct = s.dct ∧ (s.gapTimeout).cfs = s.cfs ∧ (s.gapTimeout).resetting = s.resetting ∧
    (s.gapTimeout).handed = s.handed ∧ (s.gapTimeout).freeCount = s.freeCount ∧
    (s.gapTimeout).pending = s.pending := by
  refine ⟨?_, ?_, ?_, ?_, ?_, ?_, ?_, ?_, ?_, ?_, ?_, ?_, ?_, ?_, ?_⟩ <;> unfold State.gapTimeout <;> (try simp only []) <;> simp

@[simp] theorem State.serveRequest_keeps (s : State) :
    (s.serveRequest).lic = s.lic ∧ (s.serveRequest).dsl = s.dsl ∧ (s.serveRequest).table = s.table ∧
    (s.serveRequest).limits = s.limits ∧ (s.serveRequest).plan = s.plan ∧ (s.serveRequest).engines = s.engines ∧
    (s.serveRequest).car = s.car ∧ (s.serveRequest).sensing = s.sensing ∧ (s.serveRequest).bsm = s.bsm ∧
    (s.serveRequest).dct = s.dct ∧ (s.serveRequest).cfs = s.cfs ∧ (s.serveRequest).resetting = s.resetting ∧
    (s.serveRequest).handed = s.handed ∧ (s.serveRequest).freeCount = s.freeCount ∧
    (s.serveRequest).pending = s.pending := by
  refine ⟨?_, ?_, ?_, ?_, ?_, ?_, ?_, ?_, ?_, ?_, ?_, ?_, ?_, ?_, ?_⟩ <;> unfold State.serveRequest <;> (try simp only []) <;> (repeat' split) <;> simp

@[simp] theorem State.responseSent_keeps (s : State) :
    (s.responseSent).lic = s.lic ∧ (s.responseSent).dsl = s.dsl ∧ (s.responseSent).table = s.table ∧
    (s.responseSent).limits = s.limits ∧ (s.responseSent).plan = s.plan ∧ (s.responseSent).engines = s.engines ∧
    (s.responseSent).car = s.car ∧ (s.responseSent).sensing = s.sensing ∧ (s.responseSent).bsm = s.bsm ∧
    (s.responseSent).dct = s.dct ∧ (s.responseSent).freeCount = s.freeCount ∧
    (s.responseSent).pending = s.pending := by
  refine ⟨?_, ?_, ?_, ?_, ?_, ?_, ?_, ?_, ?_, ?_, ?_, ?_⟩ <;> unfold State.responseSent <;> (try simp only []) <;> (repeat' split) <;> simp

@[simp] theorem State.supplyDip_keeps (s : State) :
    (s.supplyDip).lic = s.lic ∧ (s.supplyDip).dsl = s.dsl ∧ (s.supplyDip).table = s.table ∧
    (s.supplyDip).limits = s.limits ∧ (s.supplyDip).plan = s.plan ∧ (s.supplyDip).engines = s.engines ∧
    (s.supplyDip).car = s.car ∧ (s.supplyDip).sensing = s.sensing ∧ (s.supplyDip).dct = s.dct ∧
    (s.supplyDip).cli = s.cli ∧ (s.supplyDip).freeCount = s.freeCount ∧ (s.supplyDip).pending = s.pending := by
  refine ⟨?_, ?_, ?_, ?_, ?_, ?_, ?_, ?_, ?_, ?_, ?_, ?_⟩ <;> unfold State.supplyDip <;> (try simp only []) <;> (repeat' split) <;> simp

@[simp] theorem State.retentionLoss_keeps (s : State) :
    (s.retentionLoss).lic = s.lic ∧ (s.retentionLoss).dsl = s.dsl ∧ (s.retentionLoss).table = s.table ∧
    (s.retentionLoss).limits = s.limits ∧ (s.retentionLoss).plan = s.plan ∧ (s.retentionLoss).engines = s.engines ∧
    (s.retentionLoss).car = s.car ∧ (s.retentionLoss).sensing = s.sensing ∧ (s.retentionLoss).bsm = s.bsm ∧
    (s.retentionLoss).cli = s.cli ∧ (s.retentionLoss).handed = s.handed ∧ (s.retentionLoss).freeCount = s.freeCount ∧
    (s.retentionLoss).pending = s.pending := by
  refine ⟨?_, ?_, ?_, ?_, ?_, ?_, ?_, ?_, ?_, ?_, ?_, ?_, ?_⟩ <;> unfold State.retentionLoss <;> (repeat' split) <;> simp

@[simp] theorem State.powerOn_keeps (s : State) :
    (s.powerOn).lic = s.lic ∧ (s.powerOn).dsl = s.dsl ∧ (s.powerOn).table = s.table ∧ (s.powerOn).limits = s.limits ∧
    (s.powerOn).plan = s.plan ∧ (s.powerOn).engines = s.engines ∧ (s.powerOn).car = s.car ∧
    (s.powerOn).sensing = s.sensing ∧ (s.powerOn).cli = s.cli ∧ (s.powerOn).freeCount = s.freeCount ∧
    (s.powerOn).pending = s.pending := by
  refine ⟨?_, ?_, ?_, ?_, ?_, ?_, ?_, ?_, ?_, ?_, ?_⟩ <;> unfold State.powerOn <;> (try simp only []) <;> simp

@[simp] theorem State.releaseCrossed_keeps (s : State) (b : Bool) :
    (s.releaseCrossed b).lic = s.lic ∧ (s.releaseCrossed b).dsl = s.dsl ∧ (s.releaseCrossed b).table = s.table ∧
    (s.releaseCrossed b).limits = s.limits ∧ (s.releaseCrossed b).plan = s.plan ∧
    (s.releaseCrossed b).engines = s.engines ∧ (s.releaseCrossed b).car = s.car ∧
    (s.releaseCrossed b).sensing = s.sensing ∧ (s.releaseCrossed b).dct = s.dct ∧ (s.releaseCrossed b).cli = s.cli ∧
    (s.releaseCrossed b).cfs = s.cfs ∧ (s.releaseCrossed b).resetting = s.resetting ∧
    (s.releaseCrossed b).handed = s.handed ∧ (s.releaseCrossed b).freeCount = s.freeCount ∧
    (s.releaseCrossed b).pending = s.pending := by
  refine ⟨?_, ?_, ?_, ?_, ?_, ?_, ?_, ?_, ?_, ?_, ?_, ?_, ?_, ?_, ?_⟩ <;> unfold State.releaseCrossed <;> (try simp only []) <;> (repeat' split) <;> simp

@[simp] theorem State.applyLic_keeps (s : State) (c : Engine → Bool) :
    (s.applyLic c).dsl = s.dsl ∧ (s.applyLic c).table = s.table ∧ (s.applyLic c).limits = s.limits ∧
    (s.applyLic c).plan = s.plan ∧ (s.applyLic c).engines = s.engines ∧ (s.applyLic c).car = s.car ∧
    (s.applyLic c).sensing = s.sensing ∧ (s.applyLic c).bsm = s.bsm ∧ (s.applyLic c).dct = s.dct ∧
    (s.applyLic c).cli = s.cli ∧ (s.applyLic c).cfs = s.cfs ∧ (s.applyLic c).resetting = s.resetting ∧
    (s.applyLic c).handed = s.handed ∧ (s.applyLic c).freeCount = s.freeCount ∧
    (s.applyLic c).pending = s.pending := by
  refine ⟨?_, ?_, ?_, ?_, ?_, ?_, ?_, ?_, ?_, ?_, ?_, ?_, ?_, ?_, ?_⟩ <;> unfold State.applyLic <;> (try simp only []) <;> simp

@[simp] theorem State.applyPlan_keeps (s : State) :
    (s.applyPlan).lic = s.lic ∧ (s.applyPlan).dsl = s.dsl ∧ (s.applyPlan).table = s.table ∧
    (s.applyPlan).limits = s.limits ∧ (s.applyPlan).engines = s.engines ∧ (s.applyPlan).car = s.car ∧
    (s.applyPlan).sensing = s.sensing ∧ (s.applyPlan).bsm = s.bsm ∧ (s.applyPlan).dct = s.dct ∧
    (s.applyPlan).cli = s.cli ∧ (s.applyPlan).cfs = s.cfs ∧ (s.applyPlan).resetting = s.resetting ∧
    (s.applyPlan).handed = s.handed ∧ (s.applyPlan).freeCount = s.freeCount ∧ (s.applyPlan).pending = s.pending := by
  refine ⟨?_, ?_, ?_, ?_, ?_, ?_, ?_, ?_, ?_, ?_, ?_, ?_, ?_, ?_, ?_⟩ <;> unfold State.applyPlan <;> simp

@[simp] theorem State.applyEngines_keeps (s : State) (c : Engine → Bool) :
    (s.applyEngines c).lic = s.lic ∧ (s.applyEngines c).dsl = s.dsl ∧ (s.applyEngines c).table = s.table ∧
    (s.applyEngines c).limits = s.limits ∧ (s.applyEngines c).plan = s.plan ∧ (s.applyEngines c).car = s.car ∧
    (s.applyEngines c).sensing = s.sensing ∧ (s.applyEngines c).bsm = s.bsm ∧ (s.applyEngines c).dct = s.dct ∧
    (s.applyEngines c).cfs = s.cfs ∧ (s.applyEngines c).resetting = s.resetting ∧
    (s.applyEngines c).handed = s.handed ∧ (s.applyEngines c).freeCount = s.freeCount ∧
    (s.applyEngines c).pending = s.pending := by
  refine ⟨?_, ?_, ?_, ?_, ?_, ?_, ?_, ?_, ?_, ?_, ?_, ?_, ?_, ?_⟩ <;> unfold State.applyEngines <;> (try simp only []) <;> simp

@[simp] theorem State.applyCar_keeps (s : State) (o : Sharing) :
    (s.applyCar o).lic = s.lic ∧ (s.applyCar o).dsl = s.dsl ∧ (s.applyCar o).table = s.table ∧
    (s.applyCar o).limits = s.limits ∧ (s.applyCar o).plan = s.plan ∧ (s.applyCar o).engines = s.engines ∧
    (s.applyCar o).sensing = s.sensing ∧ (s.applyCar o).bsm = s.bsm ∧ (s.applyCar o).dct = s.dct ∧
    (s.applyCar o).cli = s.cli ∧ (s.applyCar o).cfs = s.cfs ∧ (s.applyCar o).resetting = s.resetting ∧
    (s.applyCar o).handed = s.handed ∧ (s.applyCar o).freeCount = s.freeCount ∧
    (s.applyCar o).pending = s.pending := by
  refine ⟨?_, ?_, ?_, ?_, ?_, ?_, ?_, ?_, ?_, ?_, ?_, ?_, ?_, ?_, ?_⟩ <;> unfold State.applyCar <;> (try simp only []) <;> (repeat' split) <;> simp

@[simp] theorem State.applySensing_keeps (s : State) (c : Engine → Bool) :
    (s.applySensing c).lic = s.lic ∧ (s.applySensing c).dsl = s.dsl ∧ (s.applySensing c).table = s.table ∧
    (s.applySensing c).limits = s.limits ∧ (s.applySensing c).plan = s.plan ∧
    (s.applySensing c).engines = s.engines ∧ (s.applySensing c).car = s.car ∧ (s.applySensing c).bsm = s.bsm ∧
    (s.applySensing c).dct = s.dct ∧ (s.applySensing c).cli = s.cli ∧ (s.applySensing c).cfs = s.cfs ∧
    (s.applySensing c).resetting = s.resetting ∧ (s.applySensing c).handed = s.handed ∧
    (s.applySensing c).freeCount = s.freeCount ∧ (s.applySensing c).pending = s.pending := by
  refine ⟨?_, ?_, ?_, ?_, ?_, ?_, ?_, ?_, ?_, ?_, ?_, ?_, ?_, ?_, ?_⟩ <;> unfold State.applySensing <;> simp

@[simp] theorem State.applyBsm_keeps (s : State) :
    (s.applyBsm).lic = s.lic ∧ (s.applyBsm).dsl = s.dsl ∧ (s.applyBsm).table = s.table ∧
    (s.applyBsm).limits = s.limits ∧ (s.applyBsm).plan = s.plan ∧ (s.applyBsm).engines = s.engines ∧
    (s.applyBsm).car = s.car ∧ (s.applyBsm).sensing = s.sensing ∧ (s.applyBsm).dct = s.dct ∧
    (s.applyBsm).cli = s.cli ∧ (s.applyBsm).cfs = s.cfs ∧ (s.applyBsm).resetting = s.resetting ∧
    (s.applyBsm).handed = s.handed ∧ (s.applyBsm).freeCount = s.freeCount ∧ (s.applyBsm).pending = s.pending := by
  refine ⟨?_, ?_, ?_, ?_, ?_, ?_, ?_, ?_, ?_, ?_, ?_, ?_, ?_, ?_, ?_⟩ <;> unfold State.applyBsm <;> (try simp only []) <;> simp

@[simp] theorem State.dropUnfitted_keeps (s : State) :
    (s.dropUnfitted).lic = s.lic ∧ (s.dropUnfitted).dsl = s.dsl ∧ (s.dropUnfitted).table = s.table ∧
    (s.dropUnfitted).limits = s.limits ∧ (s.dropUnfitted).plan = s.plan ∧ (s.dropUnfitted).engines = s.engines ∧
    (s.dropUnfitted).car = s.car ∧ (s.dropUnfitted).sensing = s.sensing ∧ (s.dropUnfitted).bsm = s.bsm ∧
    (s.dropUnfitted).dct = s.dct ∧ (s.dropUnfitted).cli = s.cli ∧ (s.dropUnfitted).cfs = s.cfs ∧
    (s.dropUnfitted).resetting = s.resetting ∧ (s.dropUnfitted).freeCount = s.freeCount ∧
    (s.dropUnfitted).pending = s.pending := by
  refine ⟨?_, ?_, ?_, ?_, ?_, ?_, ?_, ?_, ?_, ?_, ?_, ?_, ?_, ?_, ?_⟩ <;> unfold State.dropUnfitted <;> simp

@[simp] theorem State.applyDct_keeps (s : State) (c : Engine → Bool) :
    (s.applyDct c).lic = s.lic ∧ (s.applyDct c).dsl = s.dsl ∧ (s.applyDct c).plan = s.plan ∧
    (s.applyDct c).engines = s.engines ∧ (s.applyDct c).car = s.car ∧ (s.applyDct c).sensing = s.sensing ∧
    (s.applyDct c).bsm = s.bsm ∧ (s.applyDct c).cli = s.cli ∧ (s.applyDct c).cfs = s.cfs ∧
    (s.applyDct c).resetting = s.resetting ∧ (s.applyDct c).freeCount = s.freeCount ∧
    (s.applyDct c).pending = s.pending := by
  refine ⟨(State.forFitted_keeps State.lic _ _ fun k t => by simp).trans (by simp),
    (State.forFitted_keeps State.dsl _ _ fun k t => by simp).trans (by simp),
    (State.forFitted_keeps State.plan _ _ fun k t => by simp).trans (by simp),
    (State.forFitted_keeps State.engines _ _ fun k t => by simp).trans (by simp),
    (State.forFitted_keeps State.car _ _ fun k t => by simp).trans (by simp),
    (State.forFitted_keeps State.sensing _ _ fun k t => by simp).trans (by simp),
    (State.forFitted_keeps State.bsm _ _ fun k t => by simp).trans (by simp),
    (State.forFitted_keeps State.cli _ _ fun k t => by simp).trans (by simp),
    (State.forFitted_keeps State.cfs _ _ fun k t => by simp).trans (by simp),
    (State.forFitted_keeps State.resetting _ _ fun k t => by simp).trans (by simp),
    (State.forFitted_keeps State.freeCount _ _ fun k t => by simp).trans (by simp),
    (State.forFitted_keeps State.pending _ _ fun k t => by simp).trans (by simp)⟩

@[simp] theorem State.apply_keeps (s : State) (o : Image) :
    (s.apply o).dsl = s.dsl ∧ (s.apply o).cfs = s.cfs ∧ (s.apply o).resetting = s.resetting ∧
    (s.apply o).freeCount = s.freeCount ∧ (s.apply o).pending = s.pending := by
  refine ⟨?_, ?_, ?_, ?_, ?_⟩ <;> unfold State.apply <;> (try simp only []) <;> simp

@[simp] theorem State.writeComplete_keeps (s : State) :
    (s.writeComplete).dsl = s.dsl ∧ (s.writeComplete).resetting = s.resetting ∧
    (s.writeComplete).freeCount = s.freeCount ∧ (s.writeComplete).pending = s.pending := by
  unfold State.writeComplete
  split
  · refine ⟨(State.forFitted_keeps State.dsl _ _ fun k t => by simp).trans (by split <;> simp),
      (State.forFitted_keeps State.resetting _ _ fun k t => by simp).trans (by split <;> simp),
      (State.forFitted_keeps State.freeCount _ _ fun k t => by simp).trans (by split <;> simp),
      (State.forFitted_keeps State.pending _ _ fun k t => by simp).trans (by split <;> simp)⟩
  · simp

@[simp] theorem State.idle_keeps (s : State) :
    (s.idle).lic = s.lic ∧ (s.idle).table = s.table ∧ (s.idle).limits = s.limits ∧ (s.idle).plan = s.plan ∧
    (s.idle).sensing = s.sensing ∧ (s.idle).dct = s.dct ∧ (s.idle).cli = s.cli ∧ (s.idle).cfs = s.cfs ∧
    (s.idle).resetting = s.resetting ∧ (s.idle).handed = s.handed ∧ (s.idle).freeCount = s.freeCount ∧
    (s.idle).pending = s.pending := by
  refine ⟨?_, ?_, ?_, ?_, ?_, ?_, ?_, ?_, ?_, ?_, ?_, ?_⟩ <;> unfold State.idle <;> (repeat' split) <;> simp

@[simp] theorem State.post_keeps (s : State) (o kind scope vp : Byte) (v e : Word16) :
    (s.post o kind scope vp v e).1.lic = s.lic ∧ (s.post o kind scope vp v e).1.dsl = s.dsl ∧
    (s.post o kind scope vp v e).1.plan = s.plan ∧ (s.post o kind scope vp v e).1.engines = s.engines ∧
    (s.post o kind scope vp v e).1.car = s.car ∧ (s.post o kind scope vp v e).1.sensing = s.sensing ∧
    (s.post o kind scope vp v e).1.bsm = s.bsm ∧ (s.post o kind scope vp v e).1.dct = s.dct ∧
    (s.post o kind scope vp v e).1.cli = s.cli ∧ (s.post o kind scope vp v e).1.cfs = s.cfs ∧
    (s.post o kind scope vp v e).1.resetting = s.resetting ∧ (s.post o kind scope vp v e).1.freeCount = s.freeCount ∧
    (s.post o kind scope vp v e).1.pending = s.pending := by
  refine ⟨?_, ?_, ?_, ?_, ?_, ?_, ?_, ?_, ?_, ?_, ?_, ?_, ?_⟩ <;> unfold State.post <;> (try simp only []) <;> (repeat' split) <;> simp

@[simp] theorem State.amend_keeps (s : State) (o slot g vp : Byte) (v e : Word16) :
    (s.amend o slot g vp v e).1.lic = s.lic ∧ (s.amend o slot g vp v e).1.dsl = s.dsl ∧
    (s.amend o slot g vp v e).1.plan = s.plan ∧ (s.amend o slot g vp v e).1.engines = s.engines ∧
    (s.amend o slot g vp v e).1.car = s.car ∧ (s.amend o slot g vp v e).1.sensing = s.sensing ∧
    (s.amend o slot g vp v e).1.bsm = s.bsm ∧ (s.amend o slot g vp v e).1.dct = s.dct ∧
    (s.amend o slot g vp v e).1.cli = s.cli ∧ (s.amend o slot g vp v e).1.cfs = s.cfs ∧
    (s.amend o slot g vp v e).1.resetting = s.resetting ∧ (s.amend o slot g vp v e).1.freeCount = s.freeCount ∧
    (s.amend o slot g vp v e).1.pending = s.pending := by
  refine ⟨?_, ?_, ?_, ?_, ?_, ?_, ?_, ?_, ?_, ?_, ?_, ?_, ?_⟩ <;> unfold State.amend <;> (try simp only []) <;> (repeat' split) <;> simp

@[simp] theorem State.retire_keeps (s : State) (o slot g : Byte) :
    (s.retire o slot g).1.lic = s.lic ∧ (s.retire o slot g).1.dsl = s.dsl ∧ (s.retire o slot g).1.plan = s.plan ∧
    (s.retire o slot g).1.engines = s.engines ∧ (s.retire o slot g).1.car = s.car ∧
    (s.retire o slot g).1.sensing = s.sensing ∧ (s.retire o slot g).1.bsm = s.bsm ∧
    (s.retire o slot g).1.dct = s.dct ∧ (s.retire o slot g).1.cli = s.cli ∧ (s.retire o slot g).1.cfs = s.cfs ∧
    (s.retire o slot g).1.resetting = s.resetting ∧ (s.retire o slot g).1.freeCount = s.freeCount ∧
    (s.retire o slot g).1.pending = s.pending := by
  refine ⟨?_, ?_, ?_, ?_, ?_, ?_, ?_, ?_, ?_, ?_, ?_, ?_, ?_⟩ <;> unfold State.retire <;> (repeat' split) <;> simp

@[simp] theorem State.readEntry_keeps (s : State) (slot g : Byte) :
    (s.readEntry slot g).1.lic = s.lic ∧ (s.readEntry slot g).1.dsl = s.dsl ∧
    (s.readEntry slot g).1.table = s.table ∧ (s.readEntry slot g).1.limits = s.limits ∧
    (s.readEntry slot g).1.plan = s.plan ∧ (s.readEntry slot g).1.engines = s.engines ∧
    (s.readEntry slot g).1.car = s.car ∧ (s.readEntry slot g).1.sensing = s.sensing ∧
    (s.readEntry slot g).1.bsm = s.bsm ∧ (s.readEntry slot g).1.dct = s.dct ∧ (s.readEntry slot g).1.cli = s.cli ∧
    (s.readEntry slot g).1.cfs = s.cfs ∧ (s.readEntry slot g).1.resetting = s.resetting ∧
    (s.readEntry slot g).1.handed = s.handed ∧ (s.readEntry slot g).1.freeCount = s.freeCount ∧
    (s.readEntry slot g).1.pending = s.pending := by
  refine ⟨?_, ?_, ?_, ?_, ?_, ?_, ?_, ?_, ?_, ?_, ?_, ?_, ?_, ?_, ?_, ?_⟩ <;> unfold State.readEntry <;> (repeat' split) <;> simp

@[simp] theorem State.listEntries_keeps (s : State) (a b c d : Byte) :
    (s.listEntries a b c d).1.lic = s.lic ∧ (s.listEntries a b c d).1.dsl = s.dsl ∧
    (s.listEntries a b c d).1.table = s.table ∧ (s.listEntries a b c d).1.limits = s.limits ∧
    (s.listEntries a b c d).1.plan = s.plan ∧ (s.listEntries a b c d).1.engines = s.engines ∧
    (s.listEntries a b c d).1.car = s.car ∧ (s.listEntries a b c d).1.sensing = s.sensing ∧
    (s.listEntries a b c d).1.bsm = s.bsm ∧ (s.listEntries a b c d).1.dct = s.dct ∧
    (s.listEntries a b c d).1.cli = s.cli ∧ (s.listEntries a b c d).1.cfs = s.cfs ∧
    (s.listEntries a b c d).1.resetting = s.resetting ∧ (s.listEntries a b c d).1.handed = s.handed ∧
    (s.listEntries a b c d).1.freeCount = s.freeCount ∧ (s.listEntries a b c d).1.pending = s.pending := by
  refine ⟨?_, ?_, ?_, ?_, ?_, ?_, ?_, ?_, ?_, ?_, ?_, ?_, ?_, ?_, ?_, ?_⟩ <;> unfold State.listEntries <;> (try simp only []) <;> (repeat' split) <;> simp

@[simp] theorem State.readCounters_keeps (s : State) (b : Byte) (k : Engine) :
    (s.readCounters b k).1.lic = s.lic ∧ (s.readCounters b k).1.dsl = s.dsl ∧
    (s.readCounters b k).1.table = s.table ∧ (s.readCounters b k).1.limits = s.limits ∧
    (s.readCounters b k).1.plan = s.plan ∧ (s.readCounters b k).1.engines = s.engines ∧
    (s.readCounters b k).1.car = s.car ∧ (s.readCounters b k).1.sensing = s.sensing ∧
    (s.readCounters b k).1.bsm = s.bsm ∧ (s.readCounters b k).1.cli = s.cli ∧ (s.readCounters b k).1.cfs = s.cfs ∧
    (s.readCounters b k).1.resetting = s.resetting ∧ (s.readCounters b k).1.handed = s.handed ∧
    (s.readCounters b k).1.freeCount = s.freeCount ∧ (s.readCounters b k).1.pending = s.pending := by
  refine ⟨?_, ?_, ?_, ?_, ?_, ?_, ?_, ?_, ?_, ?_, ?_, ?_, ?_, ?_, ?_⟩ <;> unfold State.readCounters <;> (try simp only []) <;> (repeat' split) <;> simp

@[simp] theorem State.clearLockout_keeps (s : State) (k : Engine) :
    (s.clearLockout k).1.lic = s.lic ∧ (s.clearLockout k).1.dsl = s.dsl ∧ (s.clearLockout k).1.plan = s.plan ∧
    (s.clearLockout k).1.engines = s.engines ∧ (s.clearLockout k).1.car = s.car ∧
    (s.clearLockout k).1.sensing = s.sensing ∧ (s.clearLockout k).1.bsm = s.bsm ∧ (s.clearLockout k).1.cli = s.cli ∧
    (s.clearLockout k).1.cfs = s.cfs ∧ (s.clearLockout k).1.resetting = s.resetting ∧
    (s.clearLockout k).1.freeCount = s.freeCount ∧ (s.clearLockout k).1.pending = s.pending := by
  refine ⟨?_, ?_, ?_, ?_, ?_, ?_, ?_, ?_, ?_, ?_, ?_, ?_⟩ <;> unfold State.clearLockout <;> (try simp only []) <;> (repeat' split) <;> simp

@[simp] theorem State.setDemand_keeps (s : State) (n : Byte) :
    (s.setDemand n).1.lic = s.lic ∧ (s.setDemand n).1.table = s.table ∧ (s.setDemand n).1.limits = s.limits ∧
    (s.setDemand n).1.plan = s.plan ∧ (s.setDemand n).1.engines = s.engines ∧ (s.setDemand n).1.car = s.car ∧
    (s.setDemand n).1.sensing = s.sensing ∧ (s.setDemand n).1.bsm = s.bsm ∧ (s.setDemand n).1.dct = s.dct ∧
    (s.setDemand n).1.cli = s.cli ∧ (s.setDemand n).1.cfs = s.cfs ∧ (s.setDemand n).1.resetting = s.resetting ∧
    (s.setDemand n).1.freeCount = s.freeCount ∧ (s.setDemand n).1.pending = s.pending := by
  refine ⟨?_, ?_, ?_, ?_, ?_, ?_, ?_, ?_, ?_, ?_, ?_, ?_, ?_, ?_⟩ <;> unfold State.setDemand <;> (try simp only []) <;> (repeat' split) <;> simp

@[simp] theorem State.selectSource_keeps (s : State) (n : Byte) :
    (s.selectSource n).1.lic = s.lic ∧ (s.selectSource n).1.table = s.table ∧
    (s.selectSource n).1.limits = s.limits ∧ (s.selectSource n).1.plan = s.plan ∧
    (s.selectSource n).1.engines = s.engines ∧ (s.selectSource n).1.car = s.car ∧
    (s.selectSource n).1.sensing = s.sensing ∧ (s.selectSource n).1.bsm = s.bsm ∧ (s.selectSource n).1.dct = s.dct ∧
    (s.selectSource n).1.cli = s.cli ∧ (s.selectSource n).1.cfs = s.cfs ∧
    (s.selectSource n).1.resetting = s.resetting ∧ (s.selectSource n).1.freeCount = s.freeCount ∧
    (s.selectSource n).1.pending = s.pending := by
  refine ⟨?_, ?_, ?_, ?_, ?_, ?_, ?_, ?_, ?_, ?_, ?_, ?_, ?_, ?_⟩ <;> unfold State.selectSource <;> (try simp only []) <;> (repeat' split) <;> simp

@[simp] theorem State.readEngine_keeps (s : State) (k : Engine) :
    (s.readEngine k).1.lic = s.lic ∧ (s.readEngine k).1.dsl = s.dsl ∧ (s.readEngine k).1.table = s.table ∧
    (s.readEngine k).1.limits = s.limits ∧ (s.readEngine k).1.plan = s.plan ∧
    (s.readEngine k).1.engines = s.engines ∧ (s.readEngine k).1.car = s.car ∧
    (s.readEngine k).1.sensing = s.sensing ∧ (s.readEngine k).1.bsm = s.bsm ∧ (s.readEngine k).1.dct = s.dct ∧
    (s.readEngine k).1.cfs = s.cfs ∧ (s.readEngine k).1.resetting = s.resetting ∧
    (s.readEngine k).1.handed = s.handed ∧ (s.readEngine k).1.freeCount = s.freeCount ∧
    (s.readEngine k).1.pending = s.pending := by
  refine ⟨?_, ?_, ?_, ?_, ?_, ?_, ?_, ?_, ?_, ?_, ?_, ?_, ?_, ?_, ?_⟩ <;> unfold State.readEngine <;> (try simp only []) <;> simp

@[simp] theorem State.start_keeps (s : State) (k : Engine) :
    (s.start k).1.lic = s.lic ∧ (s.start k).1.dsl = s.dsl ∧ (s.start k).1.plan = s.plan ∧ (s.start k).1.bsm = s.bsm ∧
    (s.start k).1.dct = s.dct ∧ (s.start k).1.cfs = s.cfs ∧ (s.start k).1.resetting = s.resetting ∧
    (s.start k).1.freeCount = s.freeCount ∧ (s.start k).1.pending = s.pending := by
  refine ⟨?_, ?_, ?_, ?_, ?_, ?_, ?_, ?_, ?_⟩ <;> unfold State.start <;> (try simp only []) <;> (repeat' split) <;> simp

@[simp] theorem State.stop_keeps (s : State) (k : Engine) :
    (s.stop k).1.lic = s.lic ∧ (s.stop k).1.dsl = s.dsl ∧ (s.stop k).1.plan = s.plan ∧ (s.stop k).1.bsm = s.bsm ∧
    (s.stop k).1.dct = s.dct ∧ (s.stop k).1.cfs = s.cfs ∧ (s.stop k).1.resetting = s.resetting ∧
    (s.stop k).1.freeCount = s.freeCount ∧ (s.stop k).1.pending = s.pending := by
  refine ⟨?_, ?_, ?_, ?_, ?_, ?_, ?_, ?_, ?_⟩ <;> unfold State.stop <;> (try simp only []) <;> simp

@[simp] theorem State.setIsolation_keeps (s : State) (k : Engine) (b : Bool) :
    (s.setIsolation k b).1.lic = s.lic ∧ (s.setIsolation k b).1.dsl = s.dsl ∧ (s.setIsolation k b).1.plan = s.plan ∧
    (s.setIsolation k b).1.bsm = s.bsm ∧ (s.setIsolation k b).1.dct = s.dct ∧ (s.setIsolation k b).1.cfs = s.cfs ∧
    (s.setIsolation k b).1.resetting = s.resetting ∧ (s.setIsolation k b).1.freeCount = s.freeCount ∧
    (s.setIsolation k b).1.pending = s.pending := by
  refine ⟨?_, ?_, ?_, ?_, ?_, ?_, ?_, ?_, ?_⟩ <;> unfold State.setIsolation <;> (try simp only []) <;> split <;> simp

/-- On a flag that has the level asked ISOLATE and RESTORE change nothing (R115). -/
theorem State.setIsolation_same (s : State) (k : Engine) : s.setIsolation k (s.eng k).isoRequest = (s, .bare .ok) := by
  simp [State.setIsolation]

@[simp] theorem State.setHold_keeps (s : State) (h : Byte) (k : Engine) :
    (s.setHold h k).1.lic = s.lic ∧ (s.setHold h k).1.dsl = s.dsl ∧ (s.setHold h k).1.plan = s.plan ∧
    (s.setHold h k).1.sensing = s.sensing ∧ (s.setHold h k).1.bsm = s.bsm ∧ (s.setHold h k).1.dct = s.dct ∧
    (s.setHold h k).1.cfs = s.cfs ∧ (s.setHold h k).1.resetting = s.resetting ∧
    (s.setHold h k).1.freeCount = s.freeCount ∧ (s.setHold h k).1.pending = s.pending := by
  refine ⟨?_, ?_, ?_, ?_, ?_, ?_, ?_, ?_, ?_, ?_⟩ <;> unfold State.setHold <;> (try simp only []) <;> (repeat' split) <;> simp

@[simp] theorem State.stepHold_keeps (s : State) (k : Engine) :
    (s.stepHold k).1.lic = s.lic ∧ (s.stepHold k).1.dsl = s.dsl ∧ (s.stepHold k).1.plan = s.plan ∧
    (s.stepHold k).1.sensing = s.sensing ∧ (s.stepHold k).1.bsm = s.bsm ∧ (s.stepHold k).1.dct = s.dct ∧
    (s.stepHold k).1.cfs = s.cfs ∧ (s.stepHold k).1.resetting = s.resetting ∧
    (s.stepHold k).1.freeCount = s.freeCount ∧ (s.stepHold k).1.pending = s.pending := by
  refine ⟨?_, ?_, ?_, ?_, ?_, ?_, ?_, ?_, ?_, ?_⟩ <;> unfold State.stepHold <;> (repeat' split) <;> simp

@[simp] theorem State.ackTrip_keeps (s : State) (k : Engine) :
    (s.ackTrip k).1.lic = s.lic ∧ (s.ackTrip k).1.dsl = s.dsl ∧ (s.ackTrip k).1.plan = s.plan ∧
    (s.ackTrip k).1.bsm = s.bsm ∧ (s.ackTrip k).1.dct = s.dct ∧ (s.ackTrip k).1.cfs = s.cfs ∧
    (s.ackTrip k).1.resetting = s.resetting ∧ (s.ackTrip k).1.freeCount = s.freeCount ∧
    (s.ackTrip k).1.pending = s.pending := by
  refine ⟨?_, ?_, ?_, ?_, ?_, ?_, ?_, ?_, ?_⟩ <;> unfold State.ackTrip <;> (repeat' split) <;> simp

@[simp] theorem State.clearPickupFault_keeps (s : State) (k : Engine) :
    (s.clearPickupFault k).1.lic = s.lic ∧ (s.clearPickupFault k).1.dsl = s.dsl ∧
    (s.clearPickupFault k).1.plan = s.plan ∧ (s.clearPickupFault k).1.engines = s.engines ∧
    (s.clearPickupFault k).1.car = s.car ∧ (s.clearPickupFault k).1.bsm = s.bsm ∧
    (s.clearPickupFault k).1.dct = s.dct ∧ (s.clearPickupFault k).1.cli = s.cli ∧
    (s.clearPickupFault k).1.cfs = s.cfs ∧ (s.clearPickupFault k).1.resetting = s.resetting ∧
    (s.clearPickupFault k).1.freeCount = s.freeCount ∧ (s.clearPickupFault k).1.pending = s.pending := by
  refine ⟨?_, ?_, ?_, ?_, ?_, ?_, ?_, ?_, ?_, ?_, ?_, ?_⟩ <;> unfold State.clearPickupFault <;> (try simp only []) <;> (repeat' split) <;> simp

@[simp] theorem State.readStatus_keeps (s : State) :
    (s.readStatus).1.lic = s.lic ∧ (s.readStatus).1.dsl = s.dsl ∧ (s.readStatus).1.table = s.table ∧
    (s.readStatus).1.limits = s.limits ∧ (s.readStatus).1.plan = s.plan ∧ (s.readStatus).1.engines = s.engines ∧
    (s.readStatus).1.car = s.car ∧ (s.readStatus).1.sensing = s.sensing ∧ (s.readStatus).1.bsm = s.bsm ∧
    (s.readStatus).1.dct = s.dct ∧ (s.readStatus).1.cfs = s.cfs ∧ (s.readStatus).1.resetting = s.resetting ∧
    (s.readStatus).1.handed = s.handed ∧ (s.readStatus).1.freeCount = s.freeCount ∧
    (s.readStatus).1.pending = s.pending := by
  refine ⟨?_, ?_, ?_, ?_, ?_, ?_, ?_, ?_, ?_, ?_, ?_, ?_, ?_, ?_, ?_⟩ <;> unfold State.readStatus <;> (try simp only []) <;> simp

@[simp] theorem State.readPlan_keeps (s : State) :
    (s.readPlan).1.lic = s.lic ∧ (s.readPlan).1.dsl = s.dsl ∧ (s.readPlan).1.table = s.table ∧
    (s.readPlan).1.limits = s.limits ∧ (s.readPlan).1.plan = s.plan ∧ (s.readPlan).1.engines = s.engines ∧
    (s.readPlan).1.car = s.car ∧ (s.readPlan).1.sensing = s.sensing ∧ (s.readPlan).1.bsm = s.bsm ∧
    (s.readPlan).1.dct = s.dct ∧ (s.readPlan).1.cli = s.cli ∧ (s.readPlan).1.cfs = s.cfs ∧
    (s.readPlan).1.resetting = s.resetting ∧ (s.readPlan).1.handed = s.handed ∧
    (s.readPlan).1.freeCount = s.freeCount ∧ (s.readPlan).1.pending = s.pending := by
  refine ⟨?_, ?_, ?_, ?_, ?_, ?_, ?_, ?_, ?_, ?_, ?_, ?_, ?_, ?_, ?_, ?_⟩ <;> unfold State.readPlan <;> (try simp only [])

@[simp] theorem State.readConfig_keeps (s : State) (b : Byte) :
    (s.readConfig b).1.lic = s.lic ∧ (s.readConfig b).1.dsl = s.dsl ∧ (s.readConfig b).1.table = s.table ∧
    (s.readConfig b).1.limits = s.limits ∧ (s.readConfig b).1.plan = s.plan ∧
    (s.readConfig b).1.engines = s.engines ∧ (s.readConfig b).1.car = s.car ∧
    (s.readConfig b).1.sensing = s.sensing ∧ (s.readConfig b).1.bsm = s.bsm ∧ (s.readConfig b).1.dct = s.dct ∧
    (s.readConfig b).1.cli = s.cli ∧ (s.readConfig b).1.cfs = s.cfs ∧ (s.readConfig b).1.resetting = s.resetting ∧
    (s.readConfig b).1.handed = s.handed ∧ (s.readConfig b).1.freeCount = s.freeCount ∧
    (s.readConfig b).1.pending = s.pending := by
  refine ⟨?_, ?_, ?_, ?_, ?_, ?_, ?_, ?_, ?_, ?_, ?_, ?_, ?_, ?_, ?_, ?_⟩ <;> unfold State.readConfig <;> (repeat' split) <;> simp

@[simp] theorem State.writeConfig_keeps (s : State) (b : Byte) (c : List Byte) :
    (s.writeConfig b c).1.lic = s.lic ∧ (s.writeConfig b c).1.dsl = s.dsl ∧ (s.writeConfig b c).1.table = s.table ∧
    (s.writeConfig b c).1.limits = s.limits ∧ (s.writeConfig b c).1.plan = s.plan ∧
    (s.writeConfig b c).1.engines = s.engines ∧ (s.writeConfig b c).1.car = s.car ∧
    (s.writeConfig b c).1.sensing = s.sensing ∧ (s.writeConfig b c).1.bsm = s.bsm ∧
    (s.writeConfig b c).1.dct = s.dct ∧ (s.writeConfig b c).1.cli = s.cli ∧
    (s.writeConfig b c).1.resetting = s.resetting ∧ (s.writeConfig b c).1.freeCount = s.freeCount ∧
    (s.writeConfig b c).1.pending = s.pending := by
  refine ⟨?_, ?_, ?_, ?_, ?_, ?_, ?_, ?_, ?_, ?_, ?_, ?_, ?_, ?_⟩ <;> unfold State.writeConfig <;> (try simp only []) <;> (repeat' split) <;> simp

@[simp] theorem State.restart_keeps (s : State) :
    (s.restart).1.lic = s.lic ∧ (s.restart).1.dsl = s.dsl ∧ (s.restart).1.table = s.table ∧
    (s.restart).1.limits = s.limits ∧ (s.restart).1.plan = s.plan ∧ (s.restart).1.engines = s.engines ∧
    (s.restart).1.car = s.car ∧ (s.restart).1.sensing = s.sensing ∧ (s.restart).1.bsm = s.bsm ∧
    (s.restart).1.dct = s.dct ∧ (s.restart).1.cfs = s.cfs ∧ (s.restart).1.resetting = s.resetting ∧
    (s.restart).1.handed = s.handed ∧ (s.restart).1.freeCount = s.freeCount ∧ (s.restart).1.pending = s.pending := by
  refine ⟨?_, ?_, ?_, ?_, ?_, ?_, ?_, ?_, ?_, ?_, ?_, ?_, ?_, ?_, ?_⟩ <;> unfold State.restart <;> (try simp only []) <;> (repeat' split) <;> simp

end Sys2Proof.Machine
end

