-- ==== Sys2Proof/Laws/Values.lean ====
section
/-! SUPPORT. One value for each engine and for each input: what reading gives after a replacement. -/

namespace Sys2Proof

theorem Engine.mem_all (k : Engine) : k ∈ Engine.all := by cases k <;> decide

@[simp] theorem PerEngine.get_same {α : Type} (a : α) (k : Engine) : (PerEngine.same a).get k = a := by
  cases k <;> rfl

@[simp] theorem PerEngine.get_of {α : Type} (f : Engine → α) (k : Engine) : (PerEngine.of f).get k = f k := by
  cases k <;> rfl

theorem PerEngine.get_set {α : Type} (p : PerEngine α) (k j : Engine) (a : α) :
    (p.set k a).get j = if j = k then a else p.get j := by cases k <;> cases j <;> rfl

@[simp] theorem PerEngine.get_set_self {α : Type} (p : PerEngine α) (k : Engine) (a : α) : (p.set k a).get k = a := by
  cases k <;> rfl

theorem PerEngine.get_set_other {α : Type} (p : PerEngine α) (k j : Engine) (a : α) (h : j ≠ k) :
    (p.set k a).get j = p.get j := by rw [PerEngine.get_set, if_neg h]

/-- Two tables with the same value for every engine are one. -/
theorem PerEngine.eq_of_get {α : Type} (p q : PerEngine α) (h : ∀ k, p.get k = q.get k) : p = q := by
  have h1 := h .e1
  have h2 := h .e2
  have h3 := h .e3
  have h4 := h .e4
  cases p; cases q
  simp only [PerEngine.get] at h1 h2 h3 h4
  rw [h1, h2, h3, h4]

@[simp] theorem Lines.get_of {α : Type} (f : Input → α) (i : Input) : (Lines.of f).get i = f i := by
  cases i <;> first | rfl | exact PerEngine.get_of _ _

/-- Two sets of lines with the same value for every input are one. -/
theorem Lines.eq_of_get {α : Type} (p q : Lines α) (h : ∀ i, p.get i = q.get i) : p = q := by
  have h1 := h .tl1
  have h2 := h .tl2
  have h3 := h .tl3
  have h4 := h .tl4
  have h5 := h .run
  have h6 := h .emergency
  have h7 := PerEngine.eq_of_get p.iso q.iso fun k => h (.iso k)
  have h8 := PerEngine.eq_of_get p.lube q.lube fun k => h (.lube k)
  have h9 := h .gnt
  cases p; cases q
  simp only [Lines.get] at h1 h2 h3 h4 h5 h6 h7 h8 h9
  rw [h1, h2, h3, h4, h5, h6, h7, h8, h9]

end Sys2Proof
end

