-- ==== Sys2Proof/Laws/Ops.lean ====
section
/-! SUPPORT. What the shared operations do: reading after a replacement, taking an event, changing the table, serving a
request, changing an engine's state. With the frames of Laws/Frames.lean these stand for the definitions. -/

namespace Sys2Proof.Machine

/-! ## Reading after a replacement -/

theorem State.eng_setEng (s : State) (k j : Engine) (r : EngineRec) :
    (s.setEng k r).eng j = if j = k then r else s.eng j := PerEngine.get_set _ _ _ _

@[simp] theorem State.eng_setEng_self (s : State) (k : Engine) (r : EngineRec) : (s.setEng k r).eng k = r :=
  PerEngine.get_set_self _ _ _

theorem State.sense_setSense (s : State) (k j : Engine) (x : Sensing) :
    (s.setSense k x).sense j = if j = k then x else s.sense j := PerEngine.get_set _ _ _ _

@[simp] theorem State.sense_setSense_self (s : State) (k : Engine) (x : Sensing) : (s.setSense k x).sense k = x :=
  PerEngine.get_set_self _ _ _

theorem State.dutyOf_setDuty (s : State) (k j : Engine) (d : Duty) :
    (s.setDuty k d).dutyOf j = if j = k then d else s.dutyOf j := PerEngine.get_set _ _ _ _

theorem State.modEng_eng (s : State) (k j : Engine) (f : EngineRec → EngineRec) :
    (s.modEng k f).eng j = if j = k then f (s.eng k) else s.eng j := PerEngine.get_set _ _ _ _

@[simp] theorem State.emitAll_handed (s : State) (es : List Event) : (s.emitAll es).handed = s.handed ++ es := rfl

@[simp] theorem State.emit_handed (s : State) (e : Event) : (s.emit e).handed = s.handed ++ [e] := rfl

/-! ## Taking an event -/

/-- The first event of a kind is found past events of other kinds. -/
theorem takeFirst_of {α : Type} (p : Event → Option α) (pre post : List Event) (e : Event) (a : α) (he : p e = some a)
    (hpre : ∀ x ∈ pre, p x = none) : takeFirst p (pre ++ e :: post) = some (a, pre ++ post) := by
  induction pre with
  | nil => simp [takeFirst, he]
  | cons x xs ih =>
    have hx := hpre x (by simp)
    have hxs := ih fun y hy => hpre y (by simp [hy])
    simp [takeFirst, hx, hxs]

/-- With no event of a kind handed there is nothing to take. -/
theorem takeFirst_none {α : Type} (p : Event → Option α) (es : List Event) (h : ∀ x ∈ es, p x = none) :
    takeFirst p es = none := by
  induction es with
  | nil => rfl
  | cons x xs ih => simp [takeFirst, h x (by simp), ih fun y hy => h y (by simp [hy])]

/-- Taking the oldest event of a kind acts on the state with that event gone. -/
theorem State.take_of {α : Type} (s : State) (p : Event → Option α) (act : α → State → State) (pre post : List Event)
    (e : Event) (a : α) (hs : s.handed = pre ++ e :: post) (he : p e = some a) (hpre : ∀ x ∈ pre, p x = none) :
    s.take p act = act a (s.setHanded (pre ++ post)) := by
  simp [State.take, hs, takeFirst_of p pre post e a he hpre]

/-- Out of reset a command acts. -/
theorem State.running_of_awake (s : State) (act : State → State) (h : s.awake = true) : s.running act = act s := by
  unfold State.awake at h
  cases hr : s.resetting with
  | none => simp [State.running, hr]
  | some k => simp [hr] at h

/-- Held in reset a command does nothing. -/
theorem State.running_of_reset (s : State) (act : State → State) (h : s.resetting.isSome) : s.running act = s := by
  simp [State.running, h]

/-! ## The Restriction Table -/

theorem slotAt_set (t : List Slot) (n m : Nat) (x : Slot) :
    slotAt (t.set n x) m = if m = n ∧ n < t.length then x else slotAt t m := by
  unfold slotAt
  by_cases h : m = n
  · subst h
    by_cases hl : m < t.length
    · simp [hl]
    · simp [hl]
  · simp [h, Ne.symm h, List.getD]

/-- The CRC of one byte more takes that byte into the register (R173). -/
theorem crc16_append (bytes : List Byte) (b : Byte) : crc16 (bytes ++ [b]) = crcByte (crc16 bytes) b := by
  simp [crc16]

/-- A change of the table leaves the new table, its resolved limits, and hands on limits-changed events only. -/
theorem State.changeTable_spec (s : State) (t : List Slot) :
    (s.changeTable t).table = t ∧ (s.changeTable t).limits = resolve t ∧
      ∃ new, (s.changeTable t).handed = s.handed ++ new ∧ ∀ e ∈ new, ∃ b p q, e = .limits b p q := by
  by_cases h : resolve t = s.limits
  · refine ⟨?_, ?_, [], ?_, ?_⟩ <;> simp [State.changeTable, State.recompute, h]
  · refine ⟨?_, ?_, limitsEvents s.fittedEngines s.limits (resolve t), ?_, ?_⟩
    · simp [State.changeTable, State.recompute, h]
    · simp [State.changeTable, State.recompute, h]
    · have hf : (s.setTable t).fittedEngines = s.fittedEngines := rfl
      simp [State.changeTable, State.recompute, h, hf]
    · intro e he
      simp only [limitsEvents, List.cons_append, List.mem_cons, List.mem_append, List.mem_map, List.not_mem_nil,
        or_false] at he
      rcases he with rfl | ⟨k, -, rfl⟩ | rfl
      · exact ⟨_, _, _, rfl⟩
      · exact ⟨_, _, _, rfl⟩
      · exact ⟨_, _, _, rfl⟩

/-- A change of the table hands on exactly what a change of the limits hands on (R39). -/
theorem State.changeTable_handsLimits (s : State) (t : List Slot) :
    (s.changeTable t).handed = s.handed ++ s.limitsHanded s.limits (resolve t) := by
  have hf : (s.setTable t).fittedEngines = s.fittedEngines := rfl
  by_cases h : resolve t = s.limits
  · simp [State.changeTable, State.recompute, State.limitsHanded, h]
  · simp [State.changeTable, State.recompute, State.limitsHanded, h, hf, limitsEvents]
    rfl

/-- Posting a condition of a fitted engine into a FREE slot: the next generation and the condition's entry there, every
other slot as before. -/
theorem State.postInternal_table (s : State) (c : Condition) (k : Engine) (hf : s.fitted k = true)
    (hs : s.stands c k = false) :
    (s.postInternal c k).table = postAt s.table (internalSlot c k) (s.internalEntry c k) := by
  simp [State.postInternal, hf, hs, (State.changeTable_spec s _).1]

/-- A condition not posted changes nothing. -/
theorem State.postInternal_idle (s : State) (c : Condition) (k : Engine) (h : s.fitted k = false ∨ s.stands c k = true) :
    s.postInternal c k = s := by
  rcases h with h | h <;> simp [State.postInternal, h]

/-- Retiring a standing condition frees its slot, the generation kept. -/
theorem State.retireInternal_table (s : State) (c : Condition) (k : Engine) (hs : s.stands c k = true) :
    (s.retireInternal c k).table = freeAt s.table (internalSlot c k) := by
  simp [State.retireInternal, hs, (State.changeTable_spec s _).1]

/-- A condition already FREE is left. -/
theorem State.retireInternal_idle (s : State) (c : Condition) (k : Engine) (hs : s.stands c k = false) :
    s.retireInternal c k = s := by simp [State.retireInternal, hs]

/-- A slot that is LIVE lies in the table. -/
theorem live_in_table (t : List Slot) (n : Nat) (h : (slotAt t n).live = true) : n < t.length := by
  by_contra hn
  rw [slotAt, List.getD_eq_default _ _ (by omega)] at h
  simp [Slot.live, Slot.blank] at h

/-- After a retirement the condition does not stand. -/
theorem State.retireInternal_stands (s : State) (c : Condition) (k : Engine) :
    (s.retireInternal c k).stands c k = false := by
  cases hs : s.stands c k with
  | false => rw [State.retireInternal_idle s c k hs]; exact hs
  | true =>
    have hl := live_in_table _ _ hs
    unfold State.stands
    rw [State.retireInternal_table s c k hs, freeAt, slotAt_set]
    simp [hl, Slot.live]

/-- After a post of a fitted engine's condition in a table of full length the condition stands. -/
theorem State.postInternal_stands (s : State) (c : Condition) (k : Engine) (hf : s.fitted k = true)
    (hl : s.table.length = Config.slots) : (s.postInternal c k).stands c k = true := by
  cases hs : s.stands c k with
  | true => rw [State.postInternal_idle s c k (.inr hs)]; exact hs
  | false =>
    have hn : internalSlot c k < s.table.length := by rw [hl]; cases c <;> cases k <;> decide
    unfold State.stands
    rw [State.postInternal_table s c k hf hs, postAt, slotAt_set]
    simp [hn, Slot.live]

/-- An expiry count counts every slot; when an entry is spent at it, EXPIRED is set and the limits are those of the table
left, and otherwise nothing but the table changes. -/
theorem State.expiryCount_cases (s : State) :
    (s.expiryCount).table = s.table.map Slot.counted ∧
      (((liveEntries s.table).any Entry.spent = true ∧ (s.expiryCount).limits = resolve (s.expiryCount).table ∧
          (s.expiryCount).cli = { s.cli with notices := { s.cli.notices with expired := true } }) ∨
        ((liveEntries s.table).any Entry.spent = false ∧ s.expiryCount = s.setTable (s.table.map Slot.counted))) := by
  unfold State.expiryCount
  cases h : (liveEntries s.table).any Entry.spent with
  | true =>
    refine ⟨?_, .inl ⟨rfl, ?_, ?_⟩⟩
    · simpa [State.flagExpired, State.setNotices] using (s.changeTable_spec (s.table.map Slot.counted)).1
    · have hs := s.changeTable_spec (s.table.map Slot.counted)
      simp [State.flagExpired, State.setNotices, hs.1, hs.2.1]
    · simp [State.flagExpired, State.setNotices]
  | false => exact ⟨rfl, .inr ⟨rfl, rfl⟩⟩

/-- A good table has the limits of its LIVE entries after any change. -/
theorem State.changeTable_limits (s : State) (t : List Slot) : (s.changeTable t).limits = resolve (s.changeTable t).table := by
  rw [(State.changeTable_spec s t).1, (State.changeTable_spec s t).2.1]

/-! ## Serving a request -/

/-- A request taken is served once: over the link the owner's reply is queued as the response, away from it the reply is
kept as the answer. -/
theorem State.serveCommand_of_takes (s : State) (c : Instr) (owner : State → State × Reply) (h : s.takes c = true) :
    ∃ r, requestOf c = some r ∧
      (s.cli.serving = some r ∧ s.serveCommand c owner = (owner s).1.respond r (owner s).2 ∨
        s.cli.serving = none ∧ s.serveCommand c owner = (owner s).1.setAnswer r (owner s).2 false) := by
  unfold State.takes State.awake at h
  cases hr : requestOf c with
  | none => simp [hr] at h
  | some r =>
    simp only [hr, Bool.and_eq_true, Bool.or_eq_true, Bool.not_eq_true', decide_eq_true_eq, Option.isNone_iff_eq_none] at h
    obtain ⟨⟨ha, hb⟩, hc⟩ := h
    refine ⟨r, rfl, ?_⟩
    rcases hc with hc | ⟨hc, hd⟩
    · exact .inl ⟨hc, by simp [State.serveCommand, State.serve, hr, ha, hb, hc]⟩
    · exact .inr ⟨hc, by simp [State.serveCommand, State.serve, hr, ha, hb, hc, hd]⟩

/-- The requester is told what the owner answers. -/
theorem State.serveCommand_answers (s : State) (c : Instr) (owner : State → State × Reply) (h : s.takes c = true)
    (hr : (owner s).1.cli.responses = s.cli.responses) :
    s.answers (s.serveCommand c owner) c (owner s).2.status (owner s).2.payload := by
  obtain ⟨r, hq, ⟨hs, he⟩ | ⟨hs, he⟩⟩ := s.serveCommand_of_takes c owner h
  · refine ⟨r, ⟨r.code, r.tag, (owner s).2.status, (owner s).2.payload, true⟩, hq, ?_, rfl, rfl, rfl, rfl, fun _ => ?_⟩
    · rw [he]; simp [State.respond, State.setAnswer]
    · rw [he]; simp [State.respond, State.setAnswer, hr]
  · refine ⟨r, ⟨r.code, r.tag, (owner s).2.status, (owner s).2.payload, false⟩, hq, ?_, rfl, rfl, rfl, rfl, fun h => ?_⟩
    · rw [he]; simp [State.setAnswer]
    · rw [hs] at h; exact absurd h (by simp)

/-- Of what the owner leaves, serving touches the link and the answer alone. -/
theorem State.serveCommand_changes (s : State) (c : Instr) (owner : State → State × Reply) (h : s.takes c = true) :
    (owner s).1.onlyChanges (s.serveCommand c owner) answerParts := by
  obtain ⟨r, -, ⟨-, he⟩ | ⟨-, he⟩⟩ := s.serveCommand_of_takes c owner h <;> rw [he] <;> intro p hp <;>
    cases p <;>
      first
      | (simp [answerParts] at hp; done)
      | (simp [Part.same, State.eng, State.sense, State.dutyOf, State.respond, State.setAnswer])

/-! ## Changing an engine's state -/

/-- The arbiter's part touches no engine record. -/
theorem State.enter_engines (s : State) (k : Engine) (new : EState) (c : List CountedEvent) (f : EngineRec → EngineRec) :
    (s.enter k new c f).engines = s.engines.set k { f (s.eng k) with state := new } := by
  unfold State.enter
  by_cases h : new.endsWarmup = true <;> simp [h, State.setEng]

/-- A change of state leaves the engine with the new state and fields, and every other engine as it was. -/
theorem State.enter_eng (s : State) (k j : Engine) (new : EState) (c : List CountedEvent) (f : EngineRec → EngineRec) :
    (s.enter k new c f).eng j = if j = k then { f (s.eng k) with state := new } else s.eng j := by
  unfold State.eng
  rw [State.enter_engines, PerEngine.get_set]
  rfl

/-- The record a trip leaves. -/
theorem State.trip_eng (s : State) (k j : Engine) (cause : TripCause) (also : List CountedEvent) :
    (s.trip k cause also).eng j = if j = k then (s.eng k).afterTrip cause else s.eng j := by
  unfold State.trip
  rw [State.enter_eng]
  rfl

/-- The record an entry into STOPPING leaves. -/
theorem State.enterStopping_eng (s : State) (k j : Engine) (counted : List CountedEvent) :
    (s.enterStopping k counted).eng j = if j = k then (s.eng k).afterStopping else s.eng j := by
  unfold State.enterStopping
  rw [State.enter_eng]
  rfl

/-- The record an entry into ONLINE from RUNUP leaves. -/
theorem State.enterOnline_eng (s : State) (k j : Engine) :
    (s.enterOnline k).eng j = if j = k then (s.eng k).afterOnline (s.enRpm 0) else s.eng j := by
  unfold State.enterOnline
  rw [State.enter_eng]
  rfl

/-- The record a hold leaves. -/
theorem State.hold_eng (s : State) (k j : Engine) :
    (s.hold k).eng j = if j = k then (s.eng k).afterHold else s.eng j := by
  have h := State.modEng_eng s k j fun r => { r.noTimers with held := true }
  unfold State.eng at h ⊢
  unfold State.hold
  rw [(State.flagChanged_keeps _ k).2.2.2.2.2.1]
  exact h

end Sys2Proof.Machine
end

