-- ==== Sys2Proof/Laws/PerInstr.lean ====
section
/-! SUPPORT. The family CommandForm: what holds of every command as syntax. A request command's frame has a code of the
catalogue and, but for WRITE_CONFIG, the length the code requires; an event has no frame. -/

namespace Sys2Proof.Laws

open Sys2Proof.Machine

/-- The two bytes of a field make the field again. -/
theorem wordOf_bytes (w : Word16) : wordOf (w.extractLsb' 8 8) (w.extractLsb' 0 8) = w := by
  unfold wordOf
  ext i hi
  simp only [BitVec.getElem_append, BitVec.getElem_extractLsb']
  split
  · simp [← BitVec.getLsbD_eq_getElem]
  · rename_i h
    have : 8 + (i - 8) = i := by omega
    simp [this, ← BitVec.getLsbD_eq_getElem]

/-- The request a command's frame carries has a row of the catalogue, and the length of that row. -/
def CommandForm.Statement (i : Instr) : Prop :=
  ∀ r, requestOf i = some r →
    ∃ row, catalogueRow r.code = some row ∧ (row.code ≠ writeConfigCode → lengthFits row r.payload = true)

theorem CommandForm.post (c : Caller) (kind scope valuePresent : Byte) (value expiry : Word16) :
    CommandForm.Statement (.post c kind scope valuePresent value expiry) := by
  intro r h
  cases h
  exact ⟨_, rfl, fun _ => rfl⟩

theorem CommandForm.amend (c : Caller) (slot generation valuePresent : Byte) (value expiry : Word16) :
    CommandForm.Statement (.amend c slot generation valuePresent value expiry) := by
  intro r h
  cases h
  exact ⟨_, rfl, fun _ => rfl⟩

theorem CommandForm.retire (c : Caller) (slot generation : Byte) :
    CommandForm.Statement (.retire c slot generation) := by
  intro r h
  cases h
  exact ⟨_, rfl, fun _ => rfl⟩

theorem CommandForm.readEntry (c : Caller) (slot generation : Byte) :
    CommandForm.Statement (.readEntry c slot generation) := by
  intro r h
  cases h
  exact ⟨_, rfl, fun _ => rfl⟩

theorem CommandForm.listEntries (c : Caller) (kind engine origin start : Byte) :
    CommandForm.Statement (.listEntries c kind engine origin start) := by
  intro r h
  cases h
  exact ⟨_, rfl, fun _ => rfl⟩

theorem CommandForm.readEngine (c : Caller) (engine : Byte) : CommandForm.Statement (.readEngine c engine) := by
  intro r h
  cases h
  exact ⟨_, rfl, fun _ => rfl⟩

theorem CommandForm.start (c : Caller) (engine : Byte) : CommandForm.Statement (.start c engine) := by
  intro r h
  cases h
  exact ⟨_, rfl, fun _ => rfl⟩

theorem CommandForm.stop (c : Caller) (engine : Byte) : CommandForm.Statement (.stop c engine) := by
  intro r h
  cases h
  exact ⟨_, rfl, fun _ => rfl⟩

theorem CommandForm.isolate (c : Caller) (engine : Byte) : CommandForm.Statement (.isolate c engine) := by
  intro r h
  cases h
  exact ⟨_, rfl, fun _ => rfl⟩

theorem CommandForm.restore (c : Caller) (engine : Byte) : CommandForm.Statement (.restore c engine) := by
  intro r h
  cases h
  exact ⟨_, rfl, fun _ => rfl⟩

theorem CommandForm.setHold (c : Caller) (engine hold : Byte) : CommandForm.Statement (.setHold c engine hold) := by
  intro r h
  cases h
  exact ⟨_, rfl, fun _ => rfl⟩

theorem CommandForm.step (c : Caller) (engine : Byte) : CommandForm.Statement (.step c engine) := by
  intro r h
  cases h
  exact ⟨_, rfl, fun _ => rfl⟩

theorem CommandForm.ackTrip (c : Caller) (engine : Byte) : CommandForm.Statement (.ackTrip c engine) := by
  intro r h
  cases h
  exact ⟨_, rfl, fun _ => rfl⟩

theorem CommandForm.clearLockout (c : Caller) (engine : Byte) : CommandForm.Statement (.clearLockout c engine) := by
  intro r h
  cases h
  exact ⟨_, rfl, fun _ => rfl⟩

theorem CommandForm.clearPickupFault (c : Caller) (engine : Byte) :
    CommandForm.Statement (.clearPickupFault c engine) := by
  intro r h
  cases h
  exact ⟨_, rfl, fun _ => rfl⟩

theorem CommandForm.readCounters (c : Caller) (engine clear : Byte) :
    CommandForm.Statement (.readCounters c engine clear) := by
  intro r h
  cases h
  exact ⟨_, rfl, fun _ => rfl⟩

theorem CommandForm.setDemand (c : Caller) (notch : Byte) : CommandForm.Statement (.setDemand c notch) := by
  intro r h
  cases h
  exact ⟨_, rfl, fun _ => rfl⟩

theorem CommandForm.selectSource (c : Caller) (source : Byte) : CommandForm.Statement (.selectSource c source) := by
  intro r h
  cases h
  exact ⟨_, rfl, fun _ => rfl⟩

theorem CommandForm.readStatus (c : Caller) : CommandForm.Statement (.readStatus c) := by
  intro r h
  cases h
  exact ⟨_, rfl, fun _ => rfl⟩

theorem CommandForm.readPlan (c : Caller) : CommandForm.Statement (.readPlan c) := by
  intro r h
  cases h
  exact ⟨_, rfl, fun _ => rfl⟩

theorem CommandForm.readConfig (c : Caller) (sec : Byte) : CommandForm.Statement (.readConfig c sec) := by
  intro r h
  cases h
  exact ⟨_, rfl, fun _ => rfl⟩

theorem CommandForm.writeConfig (c : Caller) (sec : Byte) (contents : List Byte) :
    CommandForm.Statement (.writeConfig c sec contents) := by
  intro r h
  cases h
  exact ⟨_, rfl, fun h => absurd rfl h⟩

theorem CommandForm.restart (c : Caller) : CommandForm.Statement (.restart c) := by
  intro r h
  cases h
  exact ⟨_, rfl, fun _ => rfl⟩

theorem CommandForm.requestFrameComplete : CommandForm.Statement .requestFrameComplete := by
  intro r h
  cases h

theorem CommandForm.frameGapTimeout : CommandForm.Statement .frameGapTimeout := by
  intro r h
  cases h

theorem CommandForm.serveRequest : CommandForm.Statement .serveRequest := by
  intro r h
  cases h

theorem CommandForm.responseSent : CommandForm.Statement .responseSent := by
  intro r h
  cases h

theorem CommandForm.inputSample (raw : Lines Bool) : CommandForm.Statement (.inputSample raw) := by
  intro r h
  cases h

theorem CommandForm.levelChange (input : Input) (reader : Block) :
    CommandForm.Statement (.levelChange input reader) := by
  intro r h
  cases h

theorem CommandForm.codeAccepted : CommandForm.Statement .codeAccepted := by
  intro r h
  cases h

theorem CommandForm.invalidTimeout : CommandForm.Statement .invalidTimeout := by
  intro r h
  cases h

theorem CommandForm.demandLapse : CommandForm.Statement .demandLapse := by
  intro r h
  cases h

theorem CommandForm.expiryCount : CommandForm.Statement .expiryCount := by
  intro r h
  cases h

theorem CommandForm.entryExpired : CommandForm.Statement .entryExpired := by
  intro r h
  cases h

theorem CommandForm.limitsChanged (recipient : Block) : CommandForm.Statement (.limitsChanged recipient) := by
  intro r h
  cases h

theorem CommandForm.replan : CommandForm.Statement .replan := by
  intro r h
  cases h

theorem CommandForm.plannerCount : CommandForm.Statement .plannerCount := by
  intro r h
  cases h

theorem CommandForm.startDwellComplete : CommandForm.Statement .startDwellComplete := by
  intro r h
  cases h

theorem CommandForm.shedDwellComplete : CommandForm.Statement .shedDwellComplete := by
  intro r h
  cases h

theorem CommandForm.startOrderTaken (k : Engine) : CommandForm.Statement (.startOrderTaken k) := by
  intro r h
  cases h

theorem CommandForm.recall (k : Engine) : CommandForm.Statement (.recall k) := by
  intro r h
  cases h

theorem CommandForm.stopOrderTaken (k : Engine) : CommandForm.Statement (.stopOrderTaken k) := by
  intro r h
  cases h

theorem CommandForm.pairHanded : CommandForm.Statement .pairHanded := by
  intro r h
  cases h

theorem CommandForm.setpointUpdate (k : Engine) : CommandForm.Statement (.setpointUpdate k) := by
  intro r h
  cases h

theorem CommandForm.notchStep (k : Engine) : CommandForm.Statement (.notchStep k) := by
  intro r h
  cases h

theorem CommandForm.speedUpdate (k : Engine) : CommandForm.Statement (.speedUpdate k) := by
  intro r h
  cases h

theorem CommandForm.prelubeTimeout (k : Engine) : CommandForm.Statement (.prelubeTimeout k) := by
  intro r h
  cases h

theorem CommandForm.crankTimeout (k : Engine) : CommandForm.Statement (.crankTimeout k) := by
  intro r h
  cases h

theorem CommandForm.restEnd (k : Engine) : CommandForm.Statement (.restEnd k) := by
  intro r h
  cases h

theorem CommandForm.runupTimeout (k : Engine) : CommandForm.Statement (.runupTimeout k) := by
  intro r h
  cases h

theorem CommandForm.cooldownEnd (k : Engine) : CommandForm.Statement (.cooldownEnd k) := by
  intro r h
  cases h

theorem CommandForm.stopFail (k : Engine) : CommandForm.Statement (.stopFail k) := by
  intro r h
  cases h

theorem CommandForm.crankGrantTaken (k : Engine) : CommandForm.Statement (.crankGrantTaken k) := by
  intro r h
  cases h

theorem CommandForm.gapEnd : CommandForm.Statement .gapEnd := by
  intro r h
  cases h

theorem CommandForm.rerequestTimerEnd : CommandForm.Statement .rerequestTimerEnd := by
  intro r h
  cases h

theorem CommandForm.phaseChange : CommandForm.Statement .phaseChange := by
  intro r h
  cases h

theorem CommandForm.batterySample (tenths : Int) : CommandForm.Statement (.batterySample tenths) := by
  intro r h
  cases h

theorem CommandForm.batteryLowPosted : CommandForm.Statement .batteryLowPosted := by
  intro r h
  cases h

theorem CommandForm.batteryLowRetired : CommandForm.Statement .batteryLowRetired := by
  intro r h
  cases h

theorem CommandForm.sagReport (k : Engine) : CommandForm.Statement (.sagReport k) := by
  intro r h
  cases h

theorem CommandForm.supplyDip : CommandForm.Statement .supplyDip := by
  intro r h
  cases h

theorem CommandForm.retentionLoss : CommandForm.Statement .retentionLoss := by
  intro r h
  cases h

theorem CommandForm.powerOn : CommandForm.Statement .powerOn := by
  intro r h
  cases h

theorem CommandForm.resetEnd : CommandForm.Statement .resetEnd := by
  intro r h
  cases h

theorem CommandForm.coolantSample (k : Engine) (celsius : Int) : CommandForm.Statement (.coolantSample k celsius) := by
  intro r h
  cases h

theorem CommandForm.hotPosted (k : Engine) : CommandForm.Statement (.hotPosted k) := by
  intro r h
  cases h

theorem CommandForm.hotRetired (k : Engine) : CommandForm.Statement (.hotRetired k) := by
  intro r h
  cases h

theorem CommandForm.overheat (k : Engine) : CommandForm.Statement (.overheat k) := by
  intro r h
  cases h

theorem CommandForm.warmupRetired (k : Engine) : CommandForm.Statement (.warmupRetired k) := by
  intro r h
  cases h

theorem CommandForm.dctCount : CommandForm.Statement .dctCount := by
  intro r h
  cases h

theorem CommandForm.runSinceSaveFull (k : Engine) : CommandForm.Statement (.runSinceSaveFull k) := by
  intro r h
  cases h

theorem CommandForm.countedEvent (k : Engine) : CommandForm.Statement (.countedEvent k) := by
  intro r h
  cases h

theorem CommandForm.saveWriteBegin : CommandForm.Statement .saveWriteBegin := by
  intro r h
  cases h

theorem CommandForm.saveWriteEnd : CommandForm.Statement .saveWriteEnd := by
  intro r h
  cases h

theorem CommandForm.writeComplete : CommandForm.Statement .writeComplete := by
  intro r h
  cases h

theorem CommandForm.characterReceived (ch : Byte) (framingError : Bool) :
    CommandForm.Statement (.characterReceived ch framingError) := by
  intro r h
  cases h

theorem CommandForm.pickupPulse (k : Engine) (p : Pickup) : CommandForm.Statement (.pickupPulse k p) := by
  intro r h
  cases h

theorem CommandForm.releaseLevelCrossed (rising : Bool) : CommandForm.Statement (.releaseLevelCrossed rising) := by
  intro r h
  cases h

end Sys2Proof.Laws
end

