-- ==== Sys2Proof/Laws/Planner.lean ====
section
/-! SUPPORT. What the planner's choices and decisions do, once each: the engine of lowest and of highest run seconds, the start
and the shed decision, the shed candidate chosen, and the pairs handed. -/

namespace Sys2Proof.Machine

/-! ## Choice by run seconds -/

theorem Engine.number_inj {j k : Engine} (h : j.number = k.number) : j = k := by
  cases j <;> cases k <;> first | rfl | (simp [Engine.number] at h)

theorem lowestRun_eq_none (run : Engine → Nat) (ks : List Engine) : lowestRun run ks = none ↔ ks = [] := by
  cases ks with
  | nil => simp [lowestRun]
  | cons k ks =>
    simp only [lowestRun]
    cases lowestRun run ks with
    | none => simp
    | some j => by_cases h : run j < run k <;> simp [h]

theorem highestRun_eq_none (run : Engine → Nat) (ks : List Engine) : highestRun run ks = none ↔ ks = [] := by
  cases ks with
  | nil => simp [highestRun]
  | cons k ks =>
    simp only [highestRun]
    cases highestRun run ks with
    | none => simp
    | some j => by_cases h : run j < run k <;> simp [h]

/-- Of engines in ascending number, lowestRun gives the one with the lowest run seconds, ties to the lowest number (R52,
R53). -/
theorem lowestRun_spec (run : Engine → Nat) (ks : List Engine) (hs : ks.Pairwise fun a b => a.number < b.number)
    (k : Engine) : lowestRun run ks = some k ↔
      k ∈ ks ∧ ∀ j ∈ ks, run k < run j ∨ (run k = run j ∧ k.number ≤ j.number) := by
  induction ks generalizing k with
  | nil => simp [lowestRun]
  | cons a as ih =>
    obtain ⟨ha, hs'⟩ := List.pairwise_cons.mp hs
    have uniq (x : Engine) (hx : x ∈ a :: as ∧ ∀ j ∈ a :: as, run x < run j ∨ (run x = run j ∧ x.number ≤ j.number))
        (y : Engine) (hy : y ∈ a :: as ∧ ∀ j ∈ a :: as, run y < run j ∨ (run y = run j ∧ y.number ≤ j.number)) :
        x = y := by
      have h1 := hx.2 y hy.1
      have h2 := hy.2 x hx.1
      exact Engine.number_inj (by omega)
    have sound : ∃ x, lowestRun run (a :: as) = some x ∧
        x ∈ a :: as ∧ ∀ j ∈ a :: as, run x < run j ∨ (run x = run j ∧ x.number ≤ j.number) := by
      simp only [lowestRun]
      cases hl : lowestRun run as with
      | none =>
        rw [lowestRun_eq_none] at hl
        subst hl
        exact ⟨a, rfl, by simp⟩
      | some j =>
        obtain ⟨hj, hm⟩ := (ih hs' j).mp hl
        by_cases h : run j < run a
        · refine ⟨j, by simp [h], List.mem_cons_of_mem _ hj, ?_⟩
          intro i hi
          rcases List.mem_cons.mp hi with rfl | hi
          · exact .inl h
          · exact hm i hi
        · refine ⟨a, by simp [h], List.mem_cons_self, ?_⟩
          intro i hi
          rcases List.mem_cons.mp hi with rfl | hi
          · exact .inr ⟨rfl, le_refl _⟩
          · have := hm i hi
            have := ha i hi
            omega
    obtain ⟨x, hx, hp⟩ := sound
    rw [hx]
    constructor
    · rintro ⟨rfl⟩; exact hp
    · intro h; rw [uniq x hp k h]

/-- Of engines in ascending number, highestRun gives the one with the highest run seconds, ties to the highest number
(R56). -/
theorem highestRun_spec (run : Engine → Nat) (ks : List Engine) (hs : ks.Pairwise fun a b => a.number < b.number)
    (k : Engine) : highestRun run ks = some k ↔
      k ∈ ks ∧ ∀ j ∈ ks, run j < run k ∨ (run j = run k ∧ j.number ≤ k.number) := by
  induction ks generalizing k with
  | nil => simp [highestRun]
  | cons a as ih =>
    obtain ⟨ha, hs'⟩ := List.pairwise_cons.mp hs
    have uniq (x : Engine) (hx : x ∈ a :: as ∧ ∀ j ∈ a :: as, run j < run x ∨ (run j = run x ∧ j.number ≤ x.number))
        (y : Engine) (hy : y ∈ a :: as ∧ ∀ j ∈ a :: as, run j < run y ∨ (run j = run y ∧ j.number ≤ y.number)) :
        x = y := by
      have h1 := hx.2 y hy.1
      have h2 := hy.2 x hx.1
      exact Engine.number_inj (by omega)
    have sound : ∃ x, highestRun run (a :: as) = some x ∧
        x ∈ a :: as ∧ ∀ j ∈ a :: as, run j < run x ∨ (run j = run x ∧ j.number ≤ x.number) := by
      simp only [highestRun]
      cases hl : highestRun run as with
      | none =>
        rw [highestRun_eq_none] at hl
        subst hl
        exact ⟨a, rfl, by simp⟩
      | some j =>
        obtain ⟨hj, hm⟩ := (ih hs' j).mp hl
        by_cases h : run j < run a
        · refine ⟨a, by simp [h], List.mem_cons_self, ?_⟩
          intro i hi
          rcases List.mem_cons.mp hi with rfl | hi
          · exact .inr ⟨rfl, le_refl _⟩
          · have := hm i hi
            omega
        · refine ⟨j, by simp [h], List.mem_cons_of_mem _ hj, ?_⟩
          intro i hi
          rcases List.mem_cons.mp hi with rfl | hi
          · have := ha j hj
            omega
          · exact hm i hi
    obtain ⟨x, hx, hp⟩ := sound
    rw [hx]
    constructor
    · rintro ⟨rfl⟩; exact hp
    · intro h; rw [uniq x hp k h]

theorem Engine.all_ascending : Engine.all.Pairwise fun a b => a.number < b.number := by decide

/-! ## The decisions -/

/-- What the start decision does (R50, R51): no condition, the timer is STOPPED; an order called for and a candidate there, the
order is handed and the timer restarts; else the timer counts on. -/
theorem State.decideStart_cases (s : State) (onDwell : Bool) :
    (s.startCondition = false ∧ s.decideStart onDwell = s.modPlan fun p => { p with startTimer := none }) ∨
    (s.startCondition = true ∧
      (s.minimumClause = true ∨ (s.capacityClause = true ∧ onDwell = true ∧
        complete (startedAt0 s.plan.startTimer) s.cfg.staging.startDwell = true)) ∧
      s.stagingEngine = none ∧ s.startBlocked = false ∧ ∃ e, s.startOrder = some e ∧
      s.decideStart onDwell = (s.modPlan fun p => { p with startTimer := some 0 }).emit e) ∨
    (s.startCondition = true ∧
      (¬ ((s.minimumClause = true ∨ (s.capacityClause = true ∧ onDwell = true ∧
        complete (startedAt0 s.plan.startTimer) s.cfg.staging.startDwell = true)) ∧
        s.stagingEngine = none ∧ s.startBlocked = false) ∨ s.startOrder = none) ∧
      s.decideStart onDwell = s.modPlan fun p => { p with startTimer := startedAt0 s.plan.startTimer }) := by
  unfold State.decideStart
  cases hc : s.startCondition with
  | false => simp
  | true =>
    right
    simp only [Bool.not_true, Bool.false_eq_true, if_false]
    by_cases h : (s.minimumClause || (s.capacityClause && onDwell &&
        complete (startedAt0 s.plan.startTimer) s.cfg.staging.startDwell)) && s.stagingEngine.isNone && !s.startBlocked
    · rw [if_pos h]
      have h' : (s.minimumClause = true ∨ (s.capacityClause = true ∧ onDwell = true ∧
          complete (startedAt0 s.plan.startTimer) s.cfg.staging.startDwell = true)) ∧
          s.stagingEngine = none ∧ s.startBlocked = false := by simpa [and_assoc] using h
      cases ho : s.startOrder with
      | none => exact .inr ⟨trivial, .inr rfl, rfl⟩
      | some e => exact .inl ⟨trivial, h'.1, h'.2.1, h'.2.2, e, rfl, rfl⟩
    · rw [if_neg h]
      refine .inr ⟨trivial, .inl ?_, rfl⟩
      simpa [and_assoc] using h

/-- What the shed decision does (R58): no condition, the timer is STOPPED; the dwell over and the configuration valid, the order
is handed and the timer STOPPED; else the timer counts on. -/
theorem State.decideShed_cases (s : State) (onDwell : Bool) :
    (s.shedCondition = false ∧ s.decideShed onDwell = s.modPlan fun p => { p with shedTimer := none }) ∨
    ∃ x, s.shedCondition = true ∧ s.plan.candidate = some x ∧
      ((onDwell = true ∧ complete (startedAt0 s.plan.shedTimer) s.cfg.staging.shedDwell = true ∧ s.valid = true ∧
        s.decideShed onDwell = (s.modPlan fun p => { p with shedTimer := none }).emit (.stopOrder x .shed)) ∨
      (¬ (onDwell = true ∧ complete (startedAt0 s.plan.shedTimer) s.cfg.staging.shedDwell = true ∧ s.valid = true) ∧
        s.decideShed onDwell = s.modPlan fun p => { p with shedTimer := startedAt0 s.plan.shedTimer })) := by
  unfold State.decideShed
  cases hc : s.shedCondition with
  | false => simp
  | true =>
    right
    cases hx : s.plan.candidate with
    | none => simp [State.shedCondition, hx] at hc
    | some x =>
      refine ⟨x, rfl, rfl, ?_⟩
      simp only [Bool.not_true, Bool.false_eq_true, if_false]
      by_cases h : (onDwell && complete (startedAt0 s.plan.shedTimer) s.cfg.staging.shedDwell && s.valid) = true
      · rw [if_pos h]
        simp only [Bool.and_eq_true] at h
        exact .inl ⟨h.1.1, h.1.2, h.2, rfl⟩
      · rw [if_neg h]
        refine .inr ⟨fun h' => h ?_, rfl⟩
        simp [h'.1, h'.2.1, h'.2.2]

/-- The shed candidate after a choice (R56, R58): chosen afresh, with the timer restarted for a different engine, or kept. -/
theorem State.chooseCandidate_plan (s : State) (cause : ReplanCause) :
    (s.chooseCandidate cause).plan.candidate =
        (if cause.chooses || s.candidateGone then s.freshCandidate else s.plan.candidate) ∧
      (s.chooseCandidate cause).plan.shedTimer =
        (if (s.chooseCandidate cause).plan.candidate = s.plan.candidate then s.plan.shedTimer
          else s.plan.shedTimer.map fun _ => 0) := by
  unfold State.chooseCandidate
  by_cases h : (cause.chooses || s.candidateGone) = true
  · by_cases hx : s.freshCandidate = s.plan.candidate
    · simp [h, hx]
    · simp [h, hx, State.modPlan]
  · simp [h]

/-- The pairs handed at the end of a re-plan (R62): those that differ, in one event, or nothing where none does. -/
theorem State.handPairs_handed (s : State) (h : PerEngine (Option Pair))
    (hh : h = .of fun k => handPair (s.fitted k) (s.plan.pairs.get k) (s.plannedPair k)) :
    s.handPairs.plan.pairs = .of s.plannedPair ∧
      s.handPairs.handed = s.handed ++ (if h = .same none then [] else [.pairs h]) := by
  have hg (k : Engine) : (PerEngine.of s.plannedPair).get k = s.plannedPair k := by cases k <;> rfl
  unfold State.handPairs
  simp only [hg, ← hh]
  have he : (Engine.all.any fun k => (h.get k).isSome) = true ↔ h ≠ .same none := by
    obtain ⟨a, b, c, d⟩ := h
    cases a <;> cases b <;> cases c <;> cases d <;> simp [Engine.all, PerEngine.get, PerEngine.same]
  by_cases hn : h = .same none
  · rw [if_neg (fun hc => he.mp hc hn)]
    simp [State.modPlan, hn]
  · rw [if_pos (he.mpr hn)]
    simp [State.modPlan, hn]

end Sys2Proof.Machine
end

