-- ==== Sys2Proof/Laws/Sequencer.lean ====
section
/-! SUPPORT. What a change of an engine's state hands on, flags and retires, with the arbiter's part in it, and what a setpoint
update does. -/

namespace Sys2Proof.Machine

/-! ## Events handed are kept: each operation adds to the end of the queue, and a grant drops old sag reports alone -/

/-- Every event of the first list but sag reports is in the second. -/
def eventsKept (a b : List Event) : Prop := ∀ e ∈ a, (∀ k, e ≠ .sag k) → e ∈ b

theorem eventsKept_of_prefix {a b : List Event} (h : a <+: b) : eventsKept a b := fun _ he _ => h.subset he

theorem eventsKept_trans {a b c : List Event} (h : eventsKept a b) (h' : eventsKept b c) : eventsKept a c :=
  fun e he hs => h' e (h e he hs) hs

theorem State.changeTable_handed (s : State) (t : List Slot) : s.handed <+: (s.changeTable t).handed := by
  obtain ⟨-, -, new, h, -⟩ := s.changeTable_spec t
  exact ⟨new, h.symm⟩

theorem State.postInternal_handed (s : State) (c : Condition) (k : Engine) : s.handed <+: (s.postInternal c k).handed := by
  unfold State.postInternal
  split
  · exact s.changeTable_handed _
  · exact List.prefix_refl _

theorem State.retireInternal_handed (s : State) (c : Condition) (k : Engine) :
    s.handed <+: (s.retireInternal c k).handed := by
  unfold State.retireInternal
  split
  · exact s.changeTable_handed _
  · exact List.prefix_refl _

theorem State.setPhase_handed (s : State) (p : Phase) (h : Option Engine) :
    (s.setPhase p h).handed = s.handed ++ [.phase p h] := rfl

@[simp] theorem State.deassert_handed (s : State) : s.deassert.handed = s.handed := rfl

@[simp] theorem State.formWish_handed (s : State) : s.formWish.handed = s.handed := by
  unfold State.formWish
  repeat (first | rfl | split)

@[simp] theorem State.join_handed (s : State) (k : Engine) : (s.join k).handed = s.handed := by
  unfold State.join; split <;> rfl

@[simp] theorem State.leave_handed (s : State) (k : Engine) : (s.leave k).handed = s.handed := rfl

@[simp] theorem State.giveUpIfWithdrawn_handed (s : State) : s.giveUpIfWithdrawn.handed = s.handed := by
  unfold State.giveUpIfWithdrawn; split <;> rfl

/-- The wish of the arbiter is that it wants the supply (R127). -/
theorem State.wish_iff (s : State) : s.wish = true ↔ s.wantsSupply := by
  simp only [State.wish, State.wantsSupply, State.fittedEngines, Bool.or_eq_true, Bool.and_eq_true, List.any_eq_true,
    List.mem_filter, decide_eq_true_eq, Bool.not_eq_true', List.isEmpty_eq_false_iff, or_assoc]
  exact or_congr Iff.rfl (or_congr Iff.rfl (and_congr Iff.rfl
    ⟨fun ⟨k, h, h'⟩ => ⟨k, h.2, h'⟩, fun ⟨k, h, h'⟩ => ⟨k, ⟨k.mem_all, h⟩, h'⟩⟩))

/-- Forming the wish leaves the line, or in SHARED moves it from QUIET to ASKING or from ASKING and HELD to BACKOFF (R127,
R128). -/
theorem State.formWish_cases (s : State) :
    (s.formWish = s ∧ (s.cfg.arbiter.sharing = .exclusive ∨ s.car.line = .withdrawn ∨ s.car.line = .backoff ∨
        (s.car.line = .quiet ∧ s.wish = false) ∨ ((s.car.line = .asking ∨ s.car.line = .held) ∧ s.wish = true))) ∨
      (s.car.line = .quiet ∧ s.wish = true ∧ s.formWish = s.setCar { s.car with line := .asking }) ∨
      ((s.car.line = .asking ∨ s.car.line = .held) ∧ s.wish = false ∧ s.formWish = s.deassert) := by
  unfold State.formWish
  by_cases hx : s.cfg.arbiter.sharing = .exclusive
  · exact .inl ⟨by simp [hx], .inl hx⟩
  · cases hl : s.car.line <;> cases hw : s.wish <;> simp [hx]

/-- A grant decision does nothing, or grants the oldest uninhibited engine of the queue while the supply is held. -/
theorem State.decideGrant_cases (s : State) :
    s.decideGrant = s ∧ (s.car.phase ≠ .idle ∨ s.supplyHeld = false ∨ s.eligible = none) ∨
      ∃ k, s.car.phase = .idle ∧ s.supplyHeld = true ∧ s.eligible = some k ∧
        s.decideGrant.car = { s.car with queue := s.car.queue.erase k, holder := some k, phase := .granted } ∧
        s.decideGrant.handed =
          (s.handed.filter fun e => e ≠ .sag k) ++ [.phase .granted (some k), .grant k] := by
  unfold State.decideGrant
  by_cases h : s.car.phase = .idle ∧ s.supplyHeld = true
  · cases he : s.eligible with
    | none => exact .inl (by simp [h])
    | some k =>
      refine .inr ⟨k, h.1, h.2, rfl, ?_, ?_⟩
      · simp [h, State.setPhase]
      · simp [h, State.setPhase, State.dropSags]
  · refine .inl ⟨by simp [h], ?_⟩
    by_cases hp : s.car.phase = .idle
    · exact .inr (.inl (by simpa [hp] using h))
    · exact .inl hp

theorem State.decideGrant_handed (s : State) : eventsKept s.handed s.decideGrant.handed := by
  rcases s.decideGrant_cases with ⟨h, -⟩ | ⟨k, -, -, -, -, h⟩
  · rw [h]; exact eventsKept_of_prefix (List.prefix_refl _)
  · rw [h]; intro e he hs; simp [he, hs]

/-- A used release by an engine that is not the holder is discarded. -/
theorem State.releaseUsed_other (s : State) (k : Engine) (h : s.car.holder ≠ some k) : s.releaseUsed k = s := by
  simp [State.releaseUsed, h]

/-- A used release leaves no holder, and the phase RECOVERY with the gap timer at 0, or IDLE where there is no gap. -/
theorem State.releaseUsed_car (s : State) (k : Engine) (h : s.car.holder = some k) :
    (s.releaseUsed k).car.holder = none ∧ (s.releaseUsed k).car.queue = s.car.queue ∧
      (0 < s.cfg.arbiter.crankGap → (s.releaseUsed k).car.phase = .recovery ∧ (s.releaseUsed k).car.gapTimer = some 0) ∧
      (s.cfg.arbiter.crankGap = 0 → (s.releaseUsed k).car.phase = .idle ∧ (s.releaseUsed k).car.gapTimer = none) := by
  unfold State.releaseUsed State.giveUpIfWithdrawn
  by_cases hg : s.cfg.arbiter.crankGap = 0 <;> by_cases hl : s.car.line = .withdrawn <;>
    simp [h, hg, hl, State.setPhase, State.deassert]

theorem State.releaseUsed_handed (s : State) (k : Engine) : s.handed <+: (s.releaseUsed k).handed := by
  unfold State.releaseUsed
  by_cases h : s.car.holder = some k
  · by_cases hg : s.cfg.arbiter.crankGap = 0
    · simp [h, hg, State.setPhase_handed]
    · simp [h, hg, State.setPhase_handed]
  · simp [h]

theorem State.arbiterOnChange_handed (s : State) (k : Engine) (old new : EState) :
    eventsKept s.handed (s.arbiterOnChange k old new).handed := by
  have h1 (c : Prop) [Decidable c] : (if c then s.leave k else s).handed = s.handed := by split <;> simp
  have h2 (c : Prop) [Decidable c] (u : State) : u.handed <+: (if c then u.releaseUsed k else u).handed := by
    split
    · exact u.releaseUsed_handed k
    · exact List.prefix_refl _
  have h3 (c : Prop) [Decidable c] (u : State) : (if c then u.join k else u).handed = u.handed := by split <;> simp
  have h4 (c : Prop) [Decidable c] (u : State) : eventsKept u.handed (if c then u.decideGrant else u).handed := by
    split
    · exact u.decideGrant_handed
    · exact eventsKept_of_prefix (List.prefix_refl _)
  unfold State.arbiterOnChange
  refine eventsKept_trans (eventsKept_of_prefix ?_) (h4 _ _)
  rw [State.formWish_handed, h3]
  refine List.IsPrefix.trans ?_ (h2 _ _)
  rw [h1]

/-! ## One change of state -/

/-- A change of state sets the engine's changed flag and no other flag. -/
theorem State.enter_notices (s : State) (k : Engine) (new : EState) (c : List CountedEvent)
    (f : EngineRec → EngineRec) :
    (s.enter k new c f).cli.notices = { s.cli.notices with changed := s.cli.notices.changed.set k true } := by
  unfold State.enter
  by_cases h : new.endsWarmup = true <;> simp [h, State.flagChanged, State.setNotices]

/-- A change of state hands on its re-plan and its counted events, and keeps everything handed before but sag reports. -/
theorem State.enter_handed (s : State) (k : Engine) (new : EState) (c : List CountedEvent) (f : EngineRec → EngineRec) :
    eventsKept (s.handed ++ (.replan (.engine ((s.eng k).inO != EngineRec.inO { f (s.eng k) with state := new })) ::
      if c.isEmpty then [] else [.counted k c])) (s.enter k new c f).handed := by
  unfold State.enter
  simp only []
  refine eventsKept_trans (eventsKept_of_prefix ?_) (State.arbiterOnChange_handed _ _ _ _)
  by_cases h : new.endsWarmup = true
  · rw [if_pos h]
    refine List.IsPrefix.trans ?_ (State.retireInternal_handed _ _ _)
    simp
  · rw [if_neg h]
    simp

/-- Counted events of a change of state are handed. -/
theorem State.enter_counted (s : State) (k : Engine) (new : EState) (c : List CountedEvent) (f : EngineRec → EngineRec)
    (hc : c ≠ []) : .counted k c ∈ (s.enter k new c f).handed := by
  refine s.enter_handed k new c f _ ?_ (fun _ => nofun)
  cases c with
  | nil => exact absurd rfl hc
  | cons x xs => simp

/-- An entry into STOPPING, TRIPPED, STOPPED or ISOLATED leaves no WARMUP entry of the engine. -/
theorem State.enter_warmup (s : State) (k : Engine) (new : EState) (c : List CountedEvent) (f : EngineRec → EngineRec)
    (h : new.endsWarmup = true) : (s.enter k new c f).stands .warmup k = false := by
  unfold State.enter
  simp only [h, if_true]
  have ht := fun (u : State) => (State.arbiterOnChange_keeps u k (s.eng k).state new)
  unfold State.stands
  rw [(ht _).2.2.1]
  exact State.retireInternal_stands _ _ _

/-- Any other entry leaves the table as it was. -/
theorem State.enter_table (s : State) (k : Engine) (new : EState) (c : List CountedEvent) (f : EngineRec → EngineRec)
    (h : new.endsWarmup = false) :
    (s.enter k new c f).table = s.table ∧ (s.enter k new c f).limits = s.limits := by
  unfold State.enter
  simp [h]

/-! ## The setpoint update -/

/-- What one ramp does: a settled record counts its settled time; an unsettled one moves to where R95 moves it, and
settles exactly on EN[n].rpm. -/
theorem State.ramped_cases (s : State) (k : Engine) :
    ((s.eng k).settled = true ∧
      s.ramped (s.eng k) = { s.eng k with settledTime := some (min ((s.eng k).settledTime.getD 0 + 1) 600) }) ∨
    ((s.eng k).settled = false ∧ ∃ v, s.rampsTo k v ∧
      s.ramped (s.eng k) =
        if v = s.enRpm (s.eng k).notch then { s.eng k with setpoint := v, settled := true, settledTime := some 0 }
        else { s.eng k with setpoint := v }) := by
  by_cases h : (s.eng k).settled = true
  · exact .inl ⟨h, by rw [State.ramped, if_pos h]⟩
  · refine .inr ⟨by simpa using h, rampToward (s.eng k).setpoint (s.enRpm (s.eng k).notch)
      (rampStep s.cfg.timing.rateUp) (rampStep s.cfg.timing.rateDown), ⟨fun h1 => ?_, fun h1 => ?_⟩, ?_⟩
    · simp [rampToward, rampStep, h1]
    · simp [rampToward, rampStep, Nat.not_lt.mpr h1]
    · rw [State.ramped, if_neg h]

/-- What one setpoint update does: nothing out of ONLINE; a stop-pending engine that the ramp leaves settled at notch 0
completes its step-down; any other has its record ramped and compared. -/
theorem State.setpointUpdate_cases (s : State) (k : Engine) :
    ((s.eng k).state ≠ .online ∧ s.setpointUpdate k = s) ∨
    ((s.eng k).state = .online ∧ (s.eng k).stopPending = true ∧ (s.ramped (s.eng k)).settled = true ∧
      (s.eng k).notch = 0 ∧ s.setpointUpdate k = (s.setEng k (s.ramped (s.eng k))).stepDownComplete k) ∨
    ((s.eng k).state = .online ∧
      ¬ ((s.eng k).stopPending = true ∧ (s.ramped (s.eng k)).settled = true ∧ (s.eng k).notch = 0) ∧
      s.setpointUpdate k = s.setEng k (s.compared (s.ramped (s.eng k)))) := by
  obtain ⟨-, hp, hn, -⟩ := s.ramped_keeps (s.eng k)
  unfold State.setpointUpdate
  simp only [hp, hn]
  by_cases ho : (s.eng k).state = .online
  · by_cases hd : (s.eng k).stopPending = true ∧ (s.ramped (s.eng k)).settled = true ∧ (s.eng k).notch = 0
    · exact .inr (.inl ⟨ho, hd.1, hd.2.1, hd.2.2, by rw [if_pos ho, if_pos hd]⟩)
    · exact .inr (.inr ⟨ho, hd, by rw [if_pos ho, if_neg hd]⟩)
  · exact .inl ⟨ho, by rw [if_neg ho]⟩

end Sys2Proof.Machine
end

