-- ==== Sys2Proof/Tests/Slice0.lean ====
section
/-! SUPPORT. Tests of single commands against the manual's rules and worked figures, the checks of WellFormed, and for each
statement a state that meets its hypotheses. -/

namespace Sys2Proof.Tests

set_option Elab.async false

open Sys2Proof Sys2Proof.Machine

/-! ## Helpers -/

/-- The state a command leaves. -/
def after (s : State) (c : Instr) : State :=
  match exec c s with
  | .next t => t
  | _ => s

/-- The state some commands leave, one after the other. -/
def run (s : State) (cs : List Instr) : State := cs.foldl after s

/-- What the requester was last told. -/
def told (s : State) : Option (Status × List Byte) := s.cli.answer.map fun a => (a.status, a.payload)

/-- Origin 0, SUPERVISOR in the default role table. -/
def sup : Caller := ⟨0, 1⟩

/-- Origin 3, OPERATOR in the test image. -/
def op : Caller := ⟨3, 2⟩

/-- The default image with origins 3 and 5 OPERATOR (2.11.1). -/
def image : Image := { Image.defaults with origins := ⟨[.supervisor, .none, .none, .operator, .none, .operator]⟩ }

/-- A pickup measured SILENT. -/
def quietPickup : PickupState := ⟨0, 0, 0, 0, 0, .silent⟩

/-- A sensing set with both pickups SILENT. -/
def quiet : Sensing := { Sensing.reset with a := quietPickup, b := quietPickup }

/-- Three engines STOPPED and at rest, the run line asserted, the emergency line clear, nothing handed. -/
def cab : State :=
  ((((State.reset.setCfs { Cfs.factory with working := image }).setEngines (.same .fresh)).setSensing (.same quiet)).setLic
    { licReset with run := ⟨true, 0, false⟩, emergency := ⟨false, 0, false⟩ }).setDct { Dct.factory with queue := [] }

/-- E1 in a state, every other field of its record blank. -/
def e1In (st : EState) : State := cab.setEng .e1 (.blank st)

/-- E1 with a record. -/
def e1As (r : EngineRec) : State := cab.setEng .e1 r

/-- E1 ONLINE, settled at notch 0. -/
def onlineRec : EngineRec := { EngineRec.blank .online with settledTime := some 0, setpoint := 900 }

/-- The link is serving a request. -/
def serving (s : State) (c : Instr) : State :=
  match requestOf c with
  | some r => s.setCli { s.cli with intake := [⟨r, false⟩], serving := some r }
  | none => s

/-- A Boolean form of slotGood. -/
def slotGoodB (n : Nat) (x : Slot) : Bool :=
  match x.entry with
  | none => true
  | some e =>
    decide (x.gen ≠ 0) &&
      match e.owner with
      | .internal c => (Engine.all.any fun k => decide (n = internalSlot c k)) && decide (e.kind = c.kind)
      | .external _ => decide (Config.externalFirst ≤ n)

theorem slotGood_of (n : Nat) (x : Slot) (h : slotGoodB n x = true) : slotGood n x := by
  unfold slotGood
  unfold slotGoodB at h
  cases hx : x.entry with
  | none => trivial
  | some e =>
    simp only [hx, Bool.and_eq_true, decide_eq_true_eq] at h
    refine ⟨h.1, ?_⟩
    cases ho : e.owner with
    | external o => simpa [ho] using h.2
    | internal c =>
      have h2 := h.2
      simp only [ho, Bool.and_eq_true, List.any_eq_true, decide_eq_true_eq] at h2
      exact ⟨⟨h2.1.choose, h2.1.choose_spec.2⟩, h2.2⟩

/-- A table of 49 slots, each checked, with its own limits, is good. -/
theorem tableGood_of (s : State) (hl : s.table.length = Config.slots)
    (hs : (List.range Config.slots).all (fun n => slotGoodB n (slotAt s.table n)) = true) (hr : s.limits = resolve s.table) :
    s.tableGood := by
  refine ⟨hl, fun n => ?_, hr⟩
  by_cases hn : n < Config.slots
  · exact slotGood_of _ _ (List.all_eq_true.mp hs n (List.mem_range.mpr hn))
  · have : slotAt s.table n = .blank := by
      unfold slotAt
      rw [List.getD_eq_default]
      omega
    rw [this]
    trivial

/-- A property of every engine, shown of the four. -/
theorem allEngines {p : Engine → Prop} (h : ∀ k ∈ Engine.all, p k) (k : Engine) : p k := h k k.mem_all

/-! ## Ill-formed commands are refused -/

/-- WRITE_CONFIG needs the length of the section it names. -/
theorem test_wellFormed_writeConfig : wellFormed (.writeConfig sup 1 [3, 120]) = true ∧
    wellFormed (.writeConfig sup 1 [3]) = false ∧ wellFormed (.writeConfig sup 10 [3, 120]) = false := by decide +kernel

/-- Origins above 15 are refused. -/
theorem test_wellFormed_origin : wellFormed (.readStatus ⟨15, 0⟩) = true ∧ wellFormed (.readStatus ⟨16, 0⟩) = false := by
  decide +kernel

/-- An unknown request code and a wrong length are refused. -/
theorem test_wellFormed_request : requestWellFormed ⟨0x33, 0, 0, []⟩ = false ∧
    requestWellFormed ⟨0x11, 0, 0, []⟩ = false ∧ requestWellFormed ⟨0x11, 0, 0, [1]⟩ = true := by decide +kernel

/-- A level change is read only by the blocks that take it. -/
theorem test_wellFormed_levelChange : wellFormed (.levelChange .run .ppl) = true ∧
    wellFormed (.levelChange (.iso .e1) (.esq .e2)) = false ∧ wellFormed (.levelChange .tl1 .ppl) = false := by
  decide +kernel

/-- Every handed event's command and every request of these tests is well formed. -/
theorem test_wellFormed_events : wellFormed .replan = true ∧ wellFormed (.speedUpdate .e4) = true ∧
    wellFormed (.post sup 1 4 1 5 600) = true := by decide +kernel

/-! ## Decode -/

/-- No table word spells a command, so none is put in the queue. -/
theorem test_decodeTableWord : decodeTableWord 0 0 = none ∧ State.reset.withFetchWord 0 0 = State.reset := by
  decide +kernel

/-- The CRC of the standard text 123456789 under R173's generator, start and bit order (the check value of
CRC-16/CCITT-FALSE; worked by hand, the manual gives none). -/
theorem test_crc : crc16 [0x31, 0x32, 0x33, 0x34, 0x35, 0x36, 0x37, 0x38, 0x39] = 0x29B1 := by decide +kernel

/-- A request frame written out by hand: READ_STATUS, tag 4, origin 0 (10.2). -/
theorem test_requestFrame : (requestFrame ⟨0x22, 4, 0, []⟩).take 5 = [0xA5, 0x00, 0x22, 0x04, 0x00] ∧
    (requestFrame ⟨0x22, 4, 0, []⟩).length = 7 := by decide +kernel

/-! ## Inputs and demand (chapter 1) -/

/-- Raw lines: a throttle code, the run and emergency lines, switches and grant clear. -/
def raw (code : BitVec 4) (runOn emergency : Bool) : Lines Bool where
  tl1 := code.getLsbD 0
  tl2 := code.getLsbD 1
  tl3 := code.getLsbD 2
  tl4 := code.getLsbD 3
  run := runOn
  emergency := emergency
  iso := .same false
  lube := .same false
  gnt := false

/-- A cab with an accepted throttle code (1.5). -/
def atCode (code : BitVec 4) (notch : Nat) : State :=
  (cab.setLic { cab.lic with
    tl1 := ⟨code.getLsbD 0, 0, false⟩, tl2 := ⟨code.getLsbD 1, 0, false⟩, tl3 := ⟨code.getLsbD 2, 0, false⟩
    tl4 := ⟨code.getLsbD 3, 0, false⟩ }).setDsl { cab.dsl with code := some code, settle := none, decoded := notch }

/-- A cab on the link source (1.5.3). -/
def linkCab : State := cab.setDsl { cab.dsl with source := .link, code := some 0b0010#4, settle := none, decoded := 3 }

/-- 1.5.1: TL1 dropped for four samples changes the code under test, and D waits. -/
theorem test_inputSample_agrees :
    (run (atCode 0b0111 5) (List.replicate 3 (.inputSample (raw 0b0110 true false)))).dsl.code = some 0b0111#4 ∧
    (run (atCode 0b0111 5) (List.replicate 4 (.inputSample (raw 0b0110 true false)))).dsl.code = some 0b0110#4 ∧
    (run (atCode 0b0111 5) (List.replicate 4 (.inputSample (raw 0b0110 true false)))).dsl.settle = some 0 := by
  decide +kernel

/-- 1.5.2: a wire fault starts the invalid timer at the fourth sample, and the notch is held. -/
theorem test_inputSample_invalid :
    (run (atCode 0b0101 6) (List.replicate 4 (.inputSample (raw 0b1101 true false)))).dsl.invalidTimer = some 0 ∧
    (run (atCode 0b0101 6) (List.replicate 5 (.inputSample (raw 0b1101 true false)))).dsl.invalidTimer = some 1 ∧
    (run (atCode 0b0101 6) (List.replicate 5 (.inputSample (raw 0b1101 true false)))).dsl.decoded = 6 := by decide +kernel

/-- A settled code at 90 ms, its tenth sample still to come. -/
def settling : State := (atCode 0b1100 5).setDsl { (atCode 0b1100 5).dsl with settle := some 9 }

/-- 1.5.1: the code is accepted at the sample at which 100 ms are counted. -/
theorem test_codeAccepted :
    (run settling [.inputSample (raw 0b1100 true false)]).dsl.acceptDue = some 8 ∧
    (run settling [.inputSample (raw 0b1100 true false), .codeAccepted]).dsl.decoded = 8 ∧
    (run settling [.inputSample (raw 0b1100 true false), .codeAccepted]).handed = [.replan .demand] := by decide +kernel

/-- An invalid code at 1.99 s. -/
def nearTimeout : State := (atCode 0b1101 6).setDsl { (atCode 0b1101 6).dsl with invalidTimer := some 199 }

/-- 1.5.2: at 2.0 s the notch is 0, the fault is set and its flag with it. -/
theorem test_invalidTimeout :
    (run nearTimeout [.inputSample (raw 0b1101 true false), .invalidTimeout]).dsl.decoded = 0 ∧
    (run nearTimeout [.inputSample (raw 0b1101 true false), .invalidTimeout]).dsl.fault = true ∧
    (run nearTimeout [.inputSample (raw 0b1101 true false), .invalidTimeout]).cli.notices.trainlineFault = true := by
  decide +kernel

/-- SET_DEMAND 9 is clamped to 8 and starts the hold; on the trainline source it is WRONG_STATE. -/
theorem test_setDemand : told (after linkCab (.setDemand sup 9)) = some (.clamped, []) ∧
    (after linkCab (.setDemand sup 9)).dsl.linkDemand = 8 ∧ (after linkCab (.setDemand sup 9)).dsl.hold = some (0, 50) ∧
    told (after cab (.setDemand sup 4)) = some (.wrongState, []) := by decide +kernel

/-- SELECT_SOURCE to LINK gives demand 0 until a SET_DEMAND; a source byte of 2 names nothing. -/
theorem test_selectSource : (after (atCode 0b0010 3) (.selectSource sup 1)).dsl.demand = 0 ∧
    (after (atCode 0b0010 3) (.selectSource sup 1)).handed = [.replan .demand] ∧
    told (after cab (.selectSource sup 2)) = some (.badValue, []) := by decide +kernel

/-- The link demand with its hold timer at a time. -/
def held (n : Nat) : State := linkCab.setDsl { linkCab.dsl with linkDemand := 4, hold := some (n, 50) }

/-- DEMAND_LAPSE at the hold time and not before it. -/
theorem test_demandLapse : (after (held 50) .demandLapse).dsl.demand = 0 ∧
    (after (held 50) .demandLapse).cli.notices.demandLapsed = true ∧ (after (held 49) .demandLapse).dsl.demand = 4 := by
  decide +kernel

/-- LEVEL_CHANGE: an emergency trips an ONLINE engine; a run line dropped is a stop order. -/
theorem test_levelChange :
    (after ((e1As onlineRec).setHanded [.level .emergency (.esq .e1) true]) (.levelChange .emergency (.esq .e1))).eng .e1 =
      onlineRec.afterTrip .emergency ∧
    ((after ((e1As onlineRec).setHanded [.level .run (.esq .e1) false]) (.levelChange .run (.esq .e1))).eng .e1).stopReason
      = some .runOff := by decide +kernel

/-! ## The Restriction Table (chapter 2) -/

/-- E3 limited to notch 5 by origin 3, as in 2.11.1. -/
def posted : State := after cab (.post op 1 4 1 5 600)

/-- 2.11.1, event 1: handle (17,1), ceiling 5 on E3. -/
theorem test_post : told posted = some (.ok, [17, 1]) ∧ posted.limits.ceiling = ⟨8, 8, 5, 8⟩ ∧
    posted.handed.length = 5 := by decide +kernel

/-- 2.11.1, event 4: E4 dropped and 12 clamped give the one status CLAMPED; no resolved limit differs. -/
theorem test_post_clamped : told (after posted (.post ⟨5, 0⟩ 1 0x0A 1 12 0)) = some (.clamped, [18, 1]) ∧
    (after posted (.post ⟨5, 0⟩ 1 0x0A 1 12 0)).limits = posted.limits := by decide +kernel

/-- AMEND through a stale handle is UNKNOWN_HANDLE (event 9); the owner's AMEND keeps the handle. -/
theorem test_amend : told (after posted (.amend op 17 2 1 6 600)) = some (.unknownHandle, []) ∧
    told (after posted (.amend op 17 1 1 6 600)) = some (.ok, [17, 1]) ∧
    (after posted (.amend op 17 1 1 6 600)).limits.ceiling.e3 = 6 := by decide +kernel

/-- RETIRE by another origin without SUPERVISOR is NOT_PERMITTED (event 6); by the owner the generation is kept. -/
theorem test_retire : told (after posted (.retire ⟨5, 0⟩ 17 1)) = some (.notPermitted, []) ∧
    slotAt (after posted (.retire op 17 1)).table 17 = ⟨1, none⟩ := by decide +kernel

/-- READ_ENTRY of (17,1): origin 3, NOTCH_CEILING on E3 at 5, 600 s left, binding. -/
theorem test_readEntry :
    told (after posted (.readEntry op 17 1)) = some (.ok, [17, 1, 3, 0, 1, 4, 1, 0, 5, 1, 2, 0x58, 1]) := by decide +kernel

/-- LIST_ENTRIES of every entry from slot 0; a start slot of 50 is BAD_VALUE. -/
theorem test_listEntries : told (after posted (.listEntries op 0 0 0xFF 0)) = some (.ok, [1, 17, 1, 49]) ∧
    told (after posted (.listEntries op 0 0 0xFF 50)) = some (.badValue, []) := by decide +kernel

/-- An entry at its last second, and the expiry that retires it (2.11.3). -/
def lastSecond : State := after cab (.post op 1 4 1 5 1)

/-- The count that brings an entry to 0 retires it, its generation kept, and sets EXPIRED; one second earlier it counts. -/
theorem test_expiryCount : slotAt (after lastSecond .expiryCount).table 17 = ⟨1, none⟩ ∧
    (after lastSecond .expiryCount).cli.notices.expired = true ∧ (after lastSecond .expiryCount).limits.ceiling.e3 = 8 ∧
    ((slotAt (after posted .expiryCount).table 17).entry.map Entry.expiry) = some (some 599) := by decide +kernel

/-- ENTRY_EXPIRED is that count where an entry is spent at it, and nothing where none is. -/
theorem test_entryExpired : after lastSecond .entryExpired = after lastSecond .expiryCount ∧
    after posted .entryExpired = posted := by decide +kernel

/-- LIMITS_CHANGED at the planner is a re-plan. -/
theorem test_limitsChanged : (after posted (.limitsChanged .ppl)).handed.getLast? = some (.replan .limits) := by
  decide +kernel

/-! ## Power planning (chapter 3) -/

/-- Three engines ONLINE at D 6 with E3 under a ceiling of 5: the reference case of 3.9.1. -/
def reference : State :=
  ((posted.setEngines ⟨onlineRec, onlineRec, onlineRec, .fresh⟩).setDsl { cab.dsl with decoded := 6 }).setHanded
    [.replan .limits]

/-- 3.9.1: 475, 475 and 450 kW at targets 6, 6 and 5. -/
theorem test_replan : (after reference .replan).plan.p = 1400 ∧ (after reference .replan).plan.co = 1850 ∧
    (after reference .replan).plan.pairs = ⟨⟨475, 6⟩, ⟨475, 6⟩, ⟨450, 5⟩, ⟨0, 0⟩⟩ := by decide +kernel

/-- 3.9.1, the ceiling gone: 467, 467 and 466 kW, all at target 6. -/
theorem test_replan_open : (run reference [.retire op 17 1, .replan]).plan.pairs =
    ⟨⟨467, 6⟩, ⟨467, 6⟩, ⟨466, 6⟩, ⟨0, 0⟩⟩ := by decide +kernel

/-- PAIR_HANDED: the engines take their pairs, and the limit at notch 0 is 0. -/
theorem test_pairHanded : ((run reference [.replan, .pairHanded]).eng .e1).pair = ⟨475, 6⟩ ∧
    (run reference [.replan, .pairHanded]).loadLimit .e1 = 0 := by decide +kernel

/-- One engine online at D 4 (3.9.2): the start condition holds, and its dwell counts. -/
def oneOnline : State :=
  ((e1As onlineRec).setDsl { cab.dsl with decoded := 4 }).setHanded [.replan .demand]

theorem test_plannerCount : (after oneOnline .replan).plan.startTimer = some 0 ∧
    (run oneOnline [.replan, .plannerCount]).plan.startTimer = some 1 := by decide +kernel

/-- The start dwell of 5.0 s complete: E2, the lower number of two with equal run seconds, is ordered. -/
def dwelt : State :=
  ((after oneOnline .replan).setPlan { (after oneOnline .replan).plan with startTimer := some 50 }).setHanded []

theorem test_startDwellComplete : (after dwelt .startDwellComplete).handed = [.startOrder .e2 .staging] ∧
    (after dwelt .startDwellComplete).plan.startTimer = some 0 := by decide +kernel

/-- Two online at D 0 with the shed dwell of 60.0 s complete: the higher number of two with equal run seconds. -/
def shedding : State :=
  let s := after ((cab.setEngines ⟨onlineRec, onlineRec, .fresh, .fresh⟩).setHanded [.replan .limits]) .replan
  (s.setPlan { s.plan with shedTimer := some 600 }).setHanded []

theorem test_shedDwellComplete : (after shedding .shedDwellComplete).handed = [.stopOrder .e2 .shed] ∧
    (after shedding .shedDwellComplete).plan.shedTimer = none := by decide +kernel

/-! ## The start path (chapter 4) -/

/-- START of a STOPPED engine: PRELUBE with three attempts; of an ISOLATED one WRONG_STATE. -/
theorem test_start : told (after cab (.start sup 1)) = some (.ok, []) ∧
    ((after cab (.start sup 1)).eng .e1).state = .prelube ∧ ((after cab (.start sup 1)).eng .e1).attempts = 3 ∧
    told (after (e1In .isolated) (.start sup 1)) = some (.wrongState, []) := by decide +kernel

/-- An engine number naming no engine, and E4 where three are fitted, are BAD_VALUE. -/
theorem test_start_notFitted : told (after cab (.start sup 4)) = some (.badValue, []) ∧
    told (after cab (.start sup 5)) = some (.badValue, []) := by decide +kernel

theorem test_startOrderTaken :
    ((after (cab.setHanded [.startOrder .e2 .staging]) (.startOrderTaken .e2)).eng .e2).startReason = some .staging ∧
    (after (cab.setHanded [.startOrder .e2 .staging]) (.startOrderTaken .e2)).prelubePump .e2 = true := by decide +kernel

/-- E1 in a state with one timer at a time. -/
def prelubed (n : Nat) : State := e1As { EngineRec.blank .prelube with attempts := 3, prelubeTimer := some n }

/-- PRELUBE_TIMEOUT at 30.0 s trips NO_PRELUBE, and not before. -/
theorem test_prelubeTimeout : ((after (prelubed 300) (.prelubeTimeout .e1)).eng .e1).tripCause = some .noPrelube ∧
    ((after (prelubed 299) (.prelubeTimeout .e1)).eng .e1).state = .prelube := by decide +kernel

/-- The lube switch made in PRELUBE: CRANK_WAIT, and on an idle supply the grant. -/
theorem test_lubeClosed :
    ((after ((prelubed 62).setHanded [.level (.lube .e1) (.esq .e1) true]) (.levelChange (.lube .e1) (.esq .e1))).eng .e1).state
      = .crankWait ∧
    (after ((prelubed 62).setHanded [.level (.lube .e1) (.esq .e1) true]) (.levelChange (.lube .e1) (.esq .e1))).car.holder
      = some .e1 := by decide +kernel

/-- E1 granted in CRANK_WAIT, and CRANKING as the holder. -/
def granted : State :=
  ((e1As { EngineRec.blank .crankWait with attempts := 3 }).setCar ⟨[], some .e1, .granted, none, .quiet, none⟩).setHanded
    [.grant .e1]

def cranking (attempts n : Nat) : State :=
  (e1As { EngineRec.blank .cranking with attempts := attempts, crankTimer := some n }).setCar
    ⟨[], some .e1, .granted, none, .quiet, none⟩

theorem test_crankGrantTaken : ((after granted (.crankGrantTaken .e1)).eng .e1).state = .cranking ∧
    (after granted (.crankGrantTaken .e1)).crankRelay .e1 = true ∧
    (after granted (.crankGrantTaken .e1)).fuel .e1 = true := by decide +kernel

/-- 4.9: the crank time reached leaves two attempts, CRANK_REST and RECOVERY. -/
theorem test_crankTimeout : ((after (cranking 3 120) (.crankTimeout .e1)).eng .e1).state = .crankRest ∧
    ((after (cranking 3 120) (.crankTimeout .e1)).eng .e1).attempts = 2 ∧
    (after (cranking 3 120) (.crankTimeout .e1)).car.phase = .recovery := by decide +kernel

/-- 4.10: the last attempt trips NO_START. -/
theorem test_crankTimeout_last : ((after (cranking 1 120) (.crankTimeout .e1)).eng .e1).tripCause = some .noStart ∧
    .counted .e1 [.failed, .trip .noStart] ∈ (after (cranking 1 120) (.crankTimeout .e1)).handed := by decide +kernel

/-- E1 in CRANK_REST with its rest timer at a time. -/
def resting (n : Nat) : State := e1As { EngineRec.blank .crankRest with attempts := 2, restTimer := some n }

theorem test_restEnd : ((after (resting 300) (.restEnd .e1)).eng .e1).state = .crankWait ∧
    (after (resting 300) (.restEnd .e1)).car.holder = some .e1 := by decide +kernel

/-- E1 in RUNUP with its runup timer at a time. -/
def runningUp (n : Nat) : State := e1As { EngineRec.blank .runup with attempts := 3, runupTimer := some n }

theorem test_runupTimeout : ((after (runningUp 200) (.runupTimeout .e1)).eng .e1).tripCause = some .runupFail ∧
    (after (runningUp 200) (.runupTimeout .e1)).fuel .e1 = false := by decide +kernel

/-- E1 held at BEFORE_CRANK, and held at BEFORE_ONLINE at 850 rpm with lube made. -/
def heldBeforeCrank : State := e1As { EngineRec.blank .prelube with holdPoint := .beforeCrank, held := true, attempts := 3 }

def heldBeforeOnline : State :=
  ((e1As { EngineRec.blank .runup with holdPoint := .beforeOnline, held := true, attempts := 2 }).setSense .e1
    { quiet with a := ⟨0, 85, 85, 85, 85, .good 850 false⟩, b := ⟨0, 85, 85, 85, 85, .good 850 false⟩ }).setLic
    { cab.lic with lube := cab.lic.lube.set .e1 ⟨true, 0, false⟩ }

/-- 4.9: STEP takes the held engine ONLINE; without lube a held engine stays, WRONG_STATE. -/
theorem test_step : ((after heldBeforeOnline (.step sup 1)).eng .e1).state = .online ∧
    .counted .e1 [.start] ∈ (after heldBeforeOnline (.step sup 1)).handed ∧
    told (after heldBeforeCrank (.step sup 1)) = some (.wrongState, []) := by decide +kernel

/-- SET_HOLD to NONE releases a held engine; a hold byte of 3 names nothing. -/
theorem test_setHold : ((after heldBeforeOnline (.setHold sup 1 0)).eng .e1).state = .online ∧
    ((after heldBeforeCrank (.setHold sup 1 0)).eng .e1).held = false ∧
    told (after cab (.setHold sup 1 3)) = some (.badValue, []) := by decide +kernel

/-! ## Running and stopping (chapter 5) -/

/-- E1 ONLINE with allocation 467 and target 6, settled for a time in 0.05 s (5.2.1). -/
def climbing (n time : Nat) : State :=
  e1As { onlineRec with pair := ⟨467, 6⟩, notch := n, setpoint := 900 + 100 * n, settledTime := some time }

/-- 5.2.1: the update that counts 4.00 s makes the step, and leaves the engine unsettled at notch 1, 90 kW; the update
before it makes none. -/
theorem test_notchStep : ((after (climbing 0 79) (.setpointUpdate .e1)).eng .e1).notch = 1 ∧
    (after (climbing 0 79) (.setpointUpdate .e1)).loadLimit .e1 = 90 ∧
    after (climbing 0 79) (.notchStep .e1) = after (climbing 0 79) (.setpointUpdate .e1) ∧
    ((after (climbing 0 78) (.setpointUpdate .e1)).eng .e1).notch = 0 ∧
    after (climbing 0 78) (.notchStep .e1) = climbing 0 78 := by decide +kernel

/-- 5.2.1: a ramp moves 3 rpm an update and ends on the target. -/
theorem test_setpointUpdate :
    ((after (e1As { onlineRec with notch := 1, settled := false, settledTime := none }) (.setpointUpdate .e1)).eng
      .e1).setpoint = 903 ∧
    ((after (e1As { onlineRec with notch := 1, setpoint := 999, settled := false, settledTime := none })
      (.setpointUpdate .e1)).eng .e1).setpoint = 1000 := by decide +kernel

/-- STOP of an ONLINE engine: a stop pending and no load; from CRANKING: STOPPING and an aborted start. -/
theorem test_stop : ((after (climbing 3 0) (.stop sup 1)).eng .e1).stopReason = some .request ∧
    (after (climbing 3 0) (.stop sup 1)).loadLimit .e1 = 0 ∧
    ((after (cranking 3 0) (.stop sup 1)).eng .e1).state = .stopping ∧
    .counted .e1 [.aborted] ∈ (after (cranking 3 0) (.stop sup 1)).handed := by decide +kernel

theorem test_stopOrderTaken :
    ((after ((climbing 3 0).setHanded [.stopOrder .e1 .shed]) (.stopOrderTaken .e1)).eng .e1).stopReason = some .shed ∧
    ((after ((e1In .stopped).setHanded [.stopOrder .e1 .shed]) (.stopOrderTaken .e1)).eng .e1).stopPending = false := by
  decide +kernel

/-- E1 in a SHED cooldown. -/
def cooling (n : Nat) : State :=
  e1As { EngineRec.blank .cooldown with stopReason := some .shed, highLoad := true, cooldownTimer := some n }

/-- 5.9: a recall in COOLDOWN gives ONLINE at notch 0, the high-load mark kept. -/
theorem test_recall : ((after ((cooling 50).setHanded [.recall .e1]) (.recall .e1)).eng .e1).state = .online ∧
    ((after ((cooling 50).setHanded [.recall .e1]) (.recall .e1)).eng .e1).highLoad = true := by decide +kernel

theorem test_cooldownEnd : ((after (cooling 1200) (.cooldownEnd .e1)).eng .e1).state = .stopping ∧
    ((after (cooling 1199) (.cooldownEnd .e1)).eng .e1).state = .cooldown := by decide +kernel

theorem test_stopFail :
    ((after (e1As { EngineRec.blank .stopping with stopTimer := some 600 }) (.stopFail .e1)).eng .e1).tripCause =
      some .stopFail ∧
    ((after (e1As { EngineRec.blank .stopping with stopTimer := some 599 }) (.stopFail .e1)).eng .e1).state = .stopping := by
  decide +kernel

/-- E1 TRIPPED for a cause. -/
def tripped (cause : TripCause) : State := e1As { EngineRec.blank .tripped with tripCause := some cause }

/-- ACK_TRIP of an engine at rest; an EMERGENCY trip with the line asserted is refused. -/
theorem test_ackTrip : ((after (tripped .lowLube) (.ackTrip sup 1)).eng .e1).state = .stopped ∧
    ((after (tripped .lowLube) (.ackTrip sup 1)).eng .e1).tripCause = none ∧
    told (after ((tripped .emergency).setLic { cab.lic with emergency := ⟨true, 0, false⟩ }) (.ackTrip sup 1)) =
      some (.wrongState, []) := by decide +kernel

/-- E1 with its isolation switch made and the LEVEL_CHANGE of it waiting. -/
def switched : State :=
  (cab.setLic { cab.lic with iso := cab.lic.iso.set .e1 ⟨true, 0, false⟩ }).setHanded [.level (.iso .e1) (.esq .e1) true]

/-- ISOLATE of a STOPPED engine; of an ONLINE one it is a stop order ISOLATION. -/
theorem test_isolate : ((after cab (.isolate sup 1)).eng .e1).state = .isolated ∧
    ((after (climbing 3 0) (.isolate sup 1)).eng .e1).stopReason = some .isolation := by decide +kernel

theorem test_restore : ((run cab [.isolate sup 1, .restore sup 1]).eng .e1).state = .stopped ∧
    told (run cab [.isolate sup 1, .restore sup 1]) = some (.ok, []) := by decide +kernel

/-- R115: RESTORE on a clear flag and ISOLATE on a set one change nothing with a change of the switch not yet taken. -/
theorem test_isolation_unchanged : ((after switched (.restore sup 1)).eng .e1).state = .stopped ∧
    told (after switched (.restore sup 1)) = some (.ok, []) ∧
    ((run switched [.restore sup 1, .levelChange (.iso .e1) (.esq .e1)]).eng .e1).state = .isolated ∧
    ((after (switched.setEng .e1 { switched.eng .e1 with isoRequest := true }) (.isolate sup 1)).eng .e1).state = .stopped := by
  decide +kernel

/-- READ_ENGINE clears its engine's changed flag and gives 48 bytes, the state STOPPED first. -/
theorem test_readEngine : ((told (after cab (.readEngine sup 1))).map fun x => (x.2.length, x.2.take 1)) = some (48, [2]) ∧
    (run cab [.start sup 1, .readEngine sup 1]).cli.notices.changed.e1 = false := by decide +kernel

/-! ## The cranking supply (chapter 6) -/

/-- The crank gap at a time with E2 queued. -/
def recovering (n : Nat) : State :=
  (cab.setEng .e2 (.blank .crankWait)).setCar ⟨[.e2], none, .recovery, some n, .quiet, none⟩

theorem test_gapEnd : (after (recovering 100) .gapEnd).car.holder = some .e2 ∧
    (after (recovering 99) .gapEnd).car.phase = .recovery := by decide +kernel

/-- R154: a sag report of E2's earlier grant is discarded at its next grant. -/
theorem test_grant_dropsOldSag : .sag .e2 ∉ (after ((recovering 100).setHanded [.sag .e2, .sag .e1]) .gapEnd).handed ∧
    .sag .e1 ∈ (after ((recovering 100).setHanded [.sag .e2, .sag .e1]) .gapEnd).handed := by decide +kernel

/-- The part sharing its supply, in BACKOFF with the timer at a time. -/
def backedOff (queue : List Engine) (n : Nat) : State :=
  (cab.setCfs { Cfs.factory with working := { image with arbiter := { sharing := .shared } } }).setCar
    ⟨queue, none, .idle, none, .backoff, some n⟩

theorem test_rerequestTimerEnd : (after (backedOff [.e2] 20) .rerequestTimerEnd).apuReq = true ∧
    (after (backedOff [] 20) .rerequestTimerEnd).car.line = .quiet := by decide +kernel

/-! ## Sensing (chapter 7) -/

theorem test_pickupPulse : ((after cab (.pickupPulse .e1 .b)).sense .e1).b.current = 1 ∧
    ((after cab (.pickupPulse .e1 .b)).sense .e1).a.current = 0 := by decide +kernel

/-- 7.5.1, the update at 1.40 s: A falls SILENT with B at 72 pulses, 180 rpm. -/
def leadParted : State :=
  ((cranking 3 14).setSense .e1
    { quiet with a := ⟨0, 16, 0, 0, 0, .good 40 false⟩, b := ⟨19, 17, 18, 18, 17, .good 175 false⟩ })

theorem test_speedUpdate_failover : ((after leadParted (.speedUpdate .e1)).sense .e1).selection = .b ∧
    ((after leadParted (.speedUpdate .e1)).sense .e1).selected = some 180 ∧
    (after leadParted (.speedUpdate .e1)).limits.ceiling.e1 = 5 := by decide +kernel

/-- E1 CRANKING at a pulse count on both pickups in every interval. -/
def turning (s : State) (n : Nat) : State :=
  s.setSense .e1 { quiet with a := ⟨n, n, n, n, n, .good (10 * n) false⟩, b := ⟨n, n, n, n, n, .good (10 * n) false⟩ }

/-- 4.9: at 250 rpm and above a CRANKING engine fires. -/
theorem test_speedUpdate_fire : ((after (turning (cranking 3 40) 25) (.speedUpdate .e1)).eng .e1).state = .runup ∧
    ((after (turning (cranking 3 40) 24) (.speedUpdate .e1)).eng .e1).state = .cranking := by decide +kernel

/-- A degraded E1 with its pickups GOOD at two speeds (7.5.2). -/
def degraded (a b : Nat) : State :=
  cab.setSense .e1
    { quiet with
      a := ⟨0, 0, 0, 0, 0, .good a false⟩, b := ⟨0, 0, 0, 0, 0, .good b false⟩
      selection := .b, degraded := true, failed := some .a }

/-- 7.5.2: 1250 against 1400 is WRONG_STATE, 1397 is OK. -/
theorem test_clearPickupFault : told (after (degraded 1250 1400) (.clearPickupFault sup 1)) = some (.wrongState, []) ∧
    told (after (degraded 1397 1400) (.clearPickupFault sup 1)) = some (.ok, []) ∧
    ((after (degraded 1397 1400) (.clearPickupFault sup 1)).sense .e1).degraded = false := by decide +kernel

/-- E1's sensing set changed. -/
def sensed (f : Sensing → Sensing) : State := cab.setSense .e1 (f quiet)

/-- A sample above the hot threshold counts, one out of range is a sensor fault and posts HOT. -/
theorem test_coolantSample : ((after cab (.coolantSample .e1 96)).sense .e1).hotCount = 1 ∧
    ((after cab (.coolantSample .e1 95)).sense .e1).hotCount = 0 ∧
    (after cab (.coolantSample .e1 151)).limits.ceiling.e1 = 4 := by decide +kernel

theorem test_hotPosted : (after (sensed fun x => { x with hotCount := 3 }) (.hotPosted .e1)).limits.ceiling.e1 = 4 ∧
    (after (sensed fun x => { x with hotCount := 2 }) (.hotPosted .e1)).limits.ceiling.e1 = 8 := by decide +kernel

/-- E1 with HOT standing and the cool count at 3. -/
def cooled : State :=
  let s := after (sensed fun x => { x with hotCount := 3 }) (.hotPosted .e1)
  s.setSense .e1 { quiet with coolCount := 3 }

theorem test_hotRetired : cooled.stands .hot .e1 = true ∧ (after cooled (.hotRetired .e1)).stands .hot .e1 = false ∧
    (after cooled (.hotRetired .e1)).limits.ceiling.e1 = 8 := by decide +kernel

/-- E1 with WARMUP standing and the warm count at 3. -/
def warming : State := (cab.postInternal .warmup .e1).setSense .e1 { quiet with warmCount := 3 }

theorem test_warmupRetired : warming.limits.ceiling.e1 = 3 ∧
    (after warming (.warmupRetired .e1)).limits.ceiling.e1 = 8 ∧
    ((after warming (.warmupRetired .e1)).sense .e1).warmed = true := by decide +kernel

theorem test_overheat :
    ((after ((climbing 3 0).setHanded [.overheat .e1]) (.overheat .e1)).eng .e1).tripCause = some .overheat ∧
    ((after (cab.setHanded [.overheat .e1]) (.overheat .e1)).eng .e1).state = .stopped := by decide +kernel

/-! ## Battery and supply (chapter 8) -/

/-- The monitor in a phase with its counts. -/
def battery (phase : Phase) (low high sag : Nat) : State :=
  cab.setBsm { Bsm.reset with phase := phase, low := low, high := high, sag := sag, holder := some .e1 }

/-- 8.6.1: 50.4 V is the third low sample; 63.0 V breaks both counts; 64.0 V counts high. -/
theorem test_batterySample : (after (battery .idle 2 0 0) (.batterySample 504)).bsm.low = 3 ∧
    (after (battery .idle 3 0 0) (.batterySample 630)).bsm.low = 0 ∧
    (after (battery .idle 0 0 0) (.batterySample 640)).bsm.high = 1 := by decide +kernel

/-- The third sample below the sag floor in GRANTED reports a sag to the holder. -/
theorem test_batterySample_sag : (after (battery .granted 0 0 2) (.batterySample 449)).handed = [.sag .e1] ∧
    (after (battery .granted 0 0 2) (.batterySample 450)).bsm.sag = 0 := by decide +kernel

/-- 8.6.1: BATTERY_LOW inhibits the three fitted engines, and is retired at the third high sample. -/
theorem test_batteryLowPosted :
    (after (battery .idle 3 0 0) .batteryLowPosted).limits.inhibit = ⟨true, true, true, false⟩ ∧
    (after (battery .idle 2 0 0) .batteryLowPosted).batteryLow = false := by decide +kernel

/-- BATTERY_LOW standing with the high count at 3. -/
def recovered : State :=
  let s := after (battery .idle 3 0 0) .batteryLowPosted
  s.setBsm { s.bsm with low := 0, high := 3 }

theorem test_batteryLowRetired : slotAt (after recovered .batteryLowRetired).table 16 = ⟨1, none⟩ ∧
    (after recovered .batteryLowRetired).limits.inhibit = .same false := by decide +kernel

theorem test_phaseChange :
    (after ((battery .idle 2 1 0).setHanded [.phase .granted (some .e1)]) .phaseChange).bsm.low = 0 ∧
    (after ((battery .granted 0 0 2).setHanded [.phase .recovery none]) .phaseChange).bsm.sag = 0 := by decide +kernel

theorem test_sagReport :
    ((after ((cranking 3 20).setHanded [.sag .e1]) (.sagReport .e1)).eng .e1).lastAttempt = some .batterySag ∧
    ((after ((climbing 3 0).setHanded [.sag .e1]) (.sagReport .e1)).eng .e1).state = .online := by decide +kernel

/-- A supply dip stops every output, and the reset ends only after its release hold of 50 ms. -/
theorem test_supplyDip : (after (climbing 3 0) .supplyDip).fuel .e1 = false ∧
    (run cab [.supplyDip, .releaseLevelCrossed true, .resetEnd]).resetting = some .supplyDip := by decide +kernel

theorem test_retentionLoss : (run cab [.supplyDip, .retentionLoss]).resetting = some .powerOn ∧
    (run cab [.supplyDip, .retentionLoss]).cfs.cause = none := by decide +kernel

theorem test_powerOn : (after cab .powerOn).resetting = some .powerOn ∧ (after cab .powerOn).attention = false := by
  decide +kernel

theorem test_releaseLevelCrossed : (run cab [.supplyDip, .releaseLevelCrossed true]).bsm.releaseHold = some 0 ∧
    (run cab [.supplyDip, .releaseLevelCrossed true, .releaseLevelCrossed false]).bsm.releaseHold = none := by
  decide +kernel

/-- A factory part held in its first POWER_ON reset, the release hold over. -/
def powering : State :=
  ((State.reset.setResetting (some .powerOn)).setDct { Dct.factory with queue := [] }).setBsm
    { Bsm.reset with supply := .dipped, releaseHold := some 50 }

/-- RESET_END: the fitted engines begin STOPPING, and RESET_SEEN stands. -/
theorem test_resetEnd : ((after powering .resetEnd).eng .e3).state = .stopping ∧
    (after powering .resetEnd).cli.notices.resetSeen = true ∧ (after powering .resetEnd).attention = true := by
  decide +kernel

/-! ## Duty counters (chapter 9) -/

theorem test_dctCount : ((after (climbing 3 0) .dctCount).dutyOf .e1).stored.run = 1 ∧
    row ((after (climbing 3 0) .dctCount).dutyOf .e1).histogram 3 = 1 ∧
    ((after (climbing 3 0) .dctCount).dutyOf .e2).stored.run = 0 := by decide +kernel

/-- E1's counters. -/
def counted (f : Duty → Duty) : State := cab.setDuty .e1 (f (.begin .zero true))

theorem test_runSinceSaveFull :
    (after (counted fun d => { d with runSinceSave := 600 }) (.runSinceSaveFull .e1)).dct.queue = [.e1] ∧
    (after (counted fun d => { d with runSinceSave := 599 }) (.runSinceSaveFull .e1)).dct.queue = [] := by decide +kernel

/-- Two failed starts counted, and the third at the lockout count of 3. -/
def failing : State :=
  (counted fun d => { d with stored := { d.stored with consecutive := 2 } }).setHanded [.counted .e1 [.failed, .trip .noStart]]

theorem test_countedEvent : ((after failing (.countedEvent .e1)).dutyOf .e1).stored = ⟨0, 0, 1, 0, 1, 3⟩ ∧
    (after failing (.countedEvent .e1)).limits.inhibit.e1 = true ∧
    (after failing (.countedEvent .e1)).dct.queue = [.e1] := by decide +kernel

/-- CLEAR_LOCKOUT lifts the inhibit. -/
theorem test_clearLockout :
    (run failing [.countedEvent .e1, .clearLockout sup 1]).limits.inhibit.e1 = false ∧
    ((run failing [.countedEvent .e1, .clearLockout sup 1]).dutyOf .e1).stored.consecutive = 0 := by decide +kernel

/-- READ_COUNTERS: 66 bytes before the clear, the histogram 0 after it; a clear byte of 2 is BAD_VALUE. -/
theorem test_readCounters :
    ((told (run (climbing 3 0) [.dctCount, .readCounters sup 1 1])).map fun x => (x.2.length, (x.2.drop 36).take 4)) =
      some (66, [0, 0, 0, 1]) ∧
    row ((run (climbing 3 0) [.dctCount, .readCounters sup 1 1]).dutyOf .e1).histogram 3 = 0 ∧
    told (after cab (.readCounters sup 1 2)) = some (.badValue, []) := by decide +kernel

/-- A save waiting for E2. -/
def saving : State := cab.setDct { cab.dct with queue := [.e2] }

theorem test_saveWriteBegin : (after saving .saveWriteBegin).dct.writing = some (.e2, .zero) ∧
    (after saving .saveWriteBegin).dct.queue = [] := by decide +kernel

theorem test_saveWriteEnd :
    (run saving [.saveWriteBegin, .saveWriteEnd]).dct.store.e2 = .written .e2 .zero true ∧
    (run saving [.saveWriteBegin, .saveWriteEnd]).dct.writing = none := by decide +kernel

/-! ## The cabinet link (chapter 10) -/

/-- The frame of a request fed to the receiver, one character after another. -/
def received (s : State) (c : Instr) : State :=
  match requestOf c with
  | some r => run s ((requestFrame r).map fun b => .characterReceived b false)
  | none => s

/-- A frame of READ_STATUS arrives, is taken in, served and answered with a frame of 43 bytes (36 and 7). -/
theorem test_characterReceived : (received cab (.readStatus sup)).cli.completed.length = 1 ∧
    (after (received cab (.readStatus sup)) (.characterReceived 0xA5 false)).cli.receiver = .length := by decide +kernel

theorem test_requestFrameComplete :
    (after (received cab (.readStatus sup)) .requestFrameComplete).cli.intake = [⟨⟨0x22, 1, 0, []⟩, false⟩] ∧
    (after (received cab (.readStatus sup)) .requestFrameComplete).cli.completed = [] := by decide +kernel

/-- The link after READ_STATUS has been taken in and handed to its owner. -/
def handedOn : State := run (received cab (.readStatus sup)) [.requestFrameComplete, .serveRequest]

theorem test_serveRequest : handedOn.cli.serving = some ⟨0x22, 1, 0, []⟩ ∧
    (after handedOn (.readStatus sup)).cli.responses.length = 1 := by decide +kernel

theorem test_responseSent : (run handedOn [.readStatus sup, .responseSent]).cli.sent.length = 43 ∧
    (run handedOn [.readStatus sup, .responseSent]).cli.intake = [] := by decide +kernel

theorem test_frameGapTimeout : (run cab [.characterReceived 0xA5 false, .frameGapTimeout]).cli.receiver = .hunt ∧
    (run cab [.characterReceived 0xA5 false, .characterReceived 49 false]).cli.receiver = .hunt := by decide +kernel

/-- An intake of four served places and four BUSY responses waiting. -/
def crowded (busy : Nat) : State :=
  cab.setCli { cab.cli with
    completed := [(requestFrame ⟨0x22, 9, 0, []⟩).tail]
    intake := List.replicate 4 ⟨⟨0x22, 1, 0, []⟩, true⟩
    responses := List.replicate 4 ⟨0x22, 1, .ok, [], true⟩ ++ List.replicate busy ⟨0x22, 2, .busy, [], false⟩ }

/-- 10.9: a request beyond four places is answered BUSY, beyond four BUSY responses discarded. -/
theorem test_requestFrameComplete_busy :
    (after (crowded 0) .requestFrameComplete).cli.responses.getLast? = some ⟨0x22, 9, .busy, [], false⟩ ∧
    (after (crowded 4) .requestFrameComplete).cli.responses.length = 8 := by decide +kernel

/-- READ_STATUS: 36 bytes, and RESET_SEEN cleared. -/
theorem test_readStatus : ((told (after cab (.readStatus sup))).map fun x => x.2.length) = some 36 ∧
    (after cab (.readStatus sup)).cli.notices.resetSeen = false := by decide +kernel

/-- READ_PLAN: 35 bytes; the dwells are NOT_COUNTING. -/
theorem test_readPlan : ((told (after cab (.readPlan sup))).map fun x => (x.2.length, (x.2.drop 9).take 4)) =
    some (35, [0xFF, 0xFF, 0xFF, 0xFF]) := by decide +kernel

/-! ## Configuration (chapter 11) -/

/-- READ_CONFIG of ROSTER: three engines, 120 teeth; section 10 is none. -/
theorem test_readConfig : told (after cab (.readConfig sup 1)) = some (.ok, [3, 120]) ∧
    told (after cab (.readConfig sup 10)) = some (.badValue, []) := by decide +kernel

/-- WRITE_CONFIG of ROSTER: five engines fail at index 1, 201 teeth at index 2, an engine not at rest is WRONG_STATE. -/
theorem test_writeConfig : told (after cab (.writeConfig sup 1 [5, 120])) = some (.badValue, [1]) ∧
    told (after cab (.writeConfig sup 1 [4, 201])) = some (.badValue, [2]) ∧
    told (after (climbing 0 0) (.writeConfig sup 1 [4, 120])) = some (.wrongState, []) := by decide +kernel

/-- WRITE_COMPLETE of a ROSTER of four: E4 is fitted, STOPPED, and its counters are loaded. -/
theorem test_writeComplete : (run cab [.writeConfig sup 1 [4, 120], .writeComplete]).fitted .e4 = true ∧
    ((run cab [.writeConfig sup 1 [4, 120], .writeComplete]).eng .e4).state = .stopped ∧
    (run cab [.writeConfig sup 1 [4, 120], .writeComplete]).writing = false := by decide +kernel

/-- RESTART away from the link raises the reset at once; with an engine ONLINE it is WRONG_STATE. -/
theorem test_restart : (after cab (.restart sup)).resetting = some .restart ∧
    told (after (climbing 0 0) (.restart sup)) = some (.wrongState, []) := by decide +kernel

/-- The common checks: origin 1 has no role, origin 3 may not restart. -/
theorem test_commonChecks : told (after cab (.readStatus ⟨1, 0⟩)) = some (.notPermitted, []) ∧
    told (after cab (.restart op)) = some (.notPermitted, []) ∧
    told (after cab (.readStatus ⟨16, 0⟩)) = some (.badRequest, []) := by decide +kernel

/-! ## For each statement, states and operands that meet its hypotheses

One theorem for each statement that has hypotheses; where it has several clauses, one conjunct for each, at the boundary
values of its ranges. -/

/-- SET_DEMAND, SELECT_SOURCE and the like are taken from the link or away from it. -/
theorem cab_tableGood : cab.tableGood := tableGood_of _ (by decide +kernel) (by decide +kernel) (by decide +kernel)

/-- The run line asserted with no engine online and one required (3.4): the minimum clause. -/
def bare : State := (after (cab.setHanded [.replan .line]) .replan).setHanded []

/-- Every timer of E1 one count before its length, on a part with its arbiter's and the link demand's timers running. -/
def ticking : State :=
  ((e1As { EngineRec.blank .stopped with
      prelubeTimer := some 299, crankTimer := some 119, restTimer := some 299, runupTimer := some 199
      cooldownTimer := some 1199, stopTimer := some 599 }).setCar
    ⟨[], none, .recovery, some 99, .backoff, some 19⟩).setDsl { cab.dsl with hold := some (49, 50) }

/-- A part held in a SUPPLY_DIP reset with its release hold over. -/
def dipped : State :=
  (cab.setResetting (some .supplyDip)).setBsm { Bsm.reset with supply := .dipped, releaseHold := some 50 }

/-- E1 with a pair of pickup windows and readings, degraded or not. -/
def windows (s : State) (a b : PickupState) : State := s.setSense .e1 { quiet with a := a, b := b }

/-- A command and another behind it. -/
theorem witness_StepTakesFrontCommand :
    (cab.setPending [.replan, .gapEnd]).pending = .replan :: [.gapEnd] := by decide +kernel

/-- Every timer one count short of its length, one stopped, one at its length, and an engine not fitted. -/
theorem witness_EmptyQueueCountsTenthOfSecond :
    ticking.pending = [] ∧ ticking.awake = true ∧ ticking.fitted .e1 = true ∧ (ticking.eng .e1).prelubeTimer = some 299 ∧ 299 < ticking.cfg.timing.prelube ∧
      (ticking.eng .e1).crankTimer = some 119 ∧ 119 < ticking.cfg.timing.crank ∧
      (ticking.eng .e1).restTimer = some 299 ∧ 299 < ticking.cfg.timing.rest ∧
      (ticking.eng .e1).runupTimer = some 199 ∧ 199 < ticking.cfg.timing.runup ∧
      (ticking.eng .e1).cooldownTimer = some 1199 ∧ 1199 < ticking.cfg.timing.cooldown ∧
      (ticking.eng .e1).stopTimer = some 599 ∧ 599 < ticking.cfg.timing.stopLimit ∧
      ticking.car.gapTimer = some 99 ∧ 99 < ticking.cfg.arbiter.crankGap ∧
      ticking.car.rerequest = some 19 ∧ 19 < ticking.cfg.arbiter.rerequest ∧ ticking.dsl.hold = some (49, 50) ∧
      (ticking.eng .e2).crankTimer = none ∧ ticking.fitted .e2 = true ∧ ticking.fitted .e4 = false ∧
      (prelubed 300).pending = [] ∧ (prelubed 300).awake = true ∧ ((prelubed 300).eng .e1).prelubeTimer = some 300 ∧
      (prelubed 300).cfg.timing.prelube ≤ 300 ∧ cab.dsl.hold = none := by decide +kernel

/-- A command that answers a next state. -/
theorem witness_OnlyOwnCommandsChangeBlocks :
    ∃ t, exec .gapEnd (recovering 100) = .next t := ⟨_, rfl⟩

/-- The factory part of the test of RESET_END. -/
theorem witness_FactoryPowerOnReachesReset :
    powering.resetting = some .powerOn ∧ powering.bsm.releaseHold = some 50 ∧
      powering.cfs.nv = ⟨.defaults, .same true, true⟩ ∧ powering.dct.store = .same .unwritten ∧ powering.freeCount = 0 ∧
      powering.pending = [] := by decide +kernel

/-- A reset of each kind that may end, an image good and damaged, a record good and unwritten. -/
theorem witness_ResetEndStartsEveryBlock :
    (powering.resetting = some .powerOn ∧ powering.bsm.releaseHold = some 50 ∧ powering.cfs.nv.good = true ∧
        powering.cfs.nv.marks = .same true ∧ powering.dct.store.get .e1 = .unwritten) ∧
      ((powering.setDct { powering.dct with store := .same (.written .e1 .zero true) }).dct.store.get .e1 =
        .written .e1 .zero true) ∧
      (dipped.resetting = some .supplyDip ∧ dipped.bsm.releaseHold = some 50 ∧ dipped.fitted .e1 = true) ∧
      (cab.setResetting (some .restart)).resetting = some .restart ∧
      (dipped.setCfs { dipped.cfs with nv := ⟨.defaults, .same true, false⟩ }).cfs.nv.good = false := by decide +kernel

/-- The supply NORMAL with and without a write in flight, and DIPPED. -/
theorem witness_LogicSupplyRaisesResets :
    cab.bsm.supply = .normal ∧
      (after cab (.writeConfig sup 1 [4, 120])).bsm.supply = .normal ∧
      (after cab (.writeConfig sup 1 [4, 120])).cfs.write.isSome = true ∧ dipped.bsm.supply = .dipped := by decide +kernel

/-- A part held in reset. -/
theorem witness_ResetHoldsOutputsAndBlocks :
    dipped.resetting.isSome = true := by decide +kernel

/-- An input that agrees, one short of its count, one reaching it, a first sample, and one not sampled. -/
theorem witness_InputSampleFiltersAndHandsChanges :
    cab.awake = true ∧ cab.sampled .run = true ∧ (cab.lic.get .run).fresh = false ∧
      ((raw 0 true false).get .run = (cab.lic.get .run).level) ∧
      ((raw 0 false false).get .run ≠ (cab.lic.get .run).level ∧ (cab.lic.get .run).count + 1 < cab.filterCount .run) ∧
      ((raw 0 true true).get .emergency ≠ ((after cab (.inputSample (raw 0 true true))).lic.get .emergency).level ∧
        cab.filterCount .emergency ≤ ((after cab (.inputSample (raw 0 true true))).lic.get .emergency).count + 1) ∧
      (cab.lic.get .tl1).fresh = true ∧ cab.sampled (.iso .e4) = false := by decide +kernel

/-- A new code, a code one sample short of settling and at it, one settled, a code first invalid, an invalid one short of its
timeout and at it, and one past it. -/
theorem witness_InputSampleSettlesThrottleCode :
    settling.awake = true ∧ (after (atCode 0b0000 0) (.inputSample (raw 0 true false))).dsl.code = some 0b0000#4 ∧
      (settling.dsl.code = some 0b1100#4 ∧ notchOf 0b1100#4 = some 8 ∧ settling.dsl.settle = some 9 ∧
        settling.cfg.inputs.settleMs / 10 ≤ 9 + 1 ∧
        codeOf (after settling (.inputSample (raw 0b1100 true false))).lic = 0b1100#4) ∧
      ((atCode 0b0101 6).dsl.settle = none ∧ codeOf (after (atCode 0b0101 6) (.inputSample (raw 0b0101 true false))).lic = 0b0101#4) ∧
      (nearTimeout.dsl.code = some 0b1101#4 ∧ notchOf 0b1101#4 = none ∧ nearTimeout.dsl.invalidTimer = some 199 ∧
        nearTimeout.cfg.inputs.invalidTimeout * 10 ≤ 199 + 1 ∧
        codeOf (after nearTimeout (.inputSample (raw 0b1101 true false))).lic = 0b1101#4) ∧
      (let s := run (atCode 0b0101 6) (List.replicate 3 (.inputSample (raw 0b1101 true false)));
        s.dsl.code = some 0b0101#4 ∧ codeOf (after s (.inputSample (raw 0b1101 true false))).lic = 0b1101#4) ∧
      (after nearTimeout (.inputSample (raw 0b1101 true false))).dsl.invalidTimer = none := by decide +kernel

/-- An accepted code, a timeout due, and a hold timer at its length. -/
theorem witness_DemandEventsMoveDemand :
    (after settling (.inputSample (raw 0b1100 true false))).awake = true ∧
      (after settling (.inputSample (raw 0b1100 true false))).dsl.acceptDue = some 8 ∧
      (after nearTimeout (.inputSample (raw 0b1101 true false))).dsl.timeoutDue = true ∧
      (held 50).awake = true ∧ (held 50).dsl.hold = some (50, 50) := by decide +kernel

/-- Both sources, from the link and away from it, at 8 and 9; each row of the table of SELECT_SOURCE. -/
theorem witness_LinkRequestsMoveDemand :
    (cab.takes (.setDemand sup 4) = true ∧ cab.dsl.source = .trainline) ∧
      (linkCab.takes (.setDemand sup 8) = true ∧ linkCab.takes (.setDemand sup 9) = true ∧ linkCab.dsl.source = .link) ∧
      (serving linkCab (.setDemand sup 9)).takes (.setDemand sup 9) = true ∧
      (cab.takes (.selectSource sup 2) = true ∧ sourceField 2 = none) ∧
      (cab.takes (.selectSource sup 0) = true ∧ sourceField 0 = some cab.dsl.source) ∧
      (cab.takes (.selectSource sup 1) = true ∧ sourceField 1 = some .link ∧ Source.link ≠ cab.dsl.source) := by decide +kernel

/-- A change of each input, at the reader and in the state of each clause. -/
theorem witness_LevelChangesTakenByReaders :
    (cab.awake = true ∧ cab.fitted .e1 = true ∧
        (cab.setHanded [.level .run .ppl true]).handed = [] ++ .level .run .ppl true :: []) ∧
      ((climbing 3 0).eng .e1).state = .online ∧ ((climbing 3 0).eng .e1).stopPending = false ∧
      ((runningUp 0).eng .e1).state.startPath = true ∧ ((e1In .stopping).eng .e1).state = .stopping ∧
      (let s := (cab.setLic { cab.lic with iso := cab.lic.iso.set .e1 ⟨true, 0, false⟩ }).setHanded
          [.level (.iso .e1) (.esq .e1) true];
        s.isoCond .e1 = true ∧ (s.eng .e1).isoSeen = false ∧ (s.eng .e1).state = .stopped) ∧
      (let s := (backedOff [] 0).setCar { (backedOff [] 0).car with line := .asking };
        s.cfg.arbiter.sharing = .shared ∧ s.car.line = .asking) ∧ cab.cfg.arbiter.sharing = .exclusive := by decide +kernel

/-- A stop demand on an ONLINE engine, a run demand on a SHED cooldown, and an engine waiting for the supply. -/
theorem witness_LimitsChangedTakenByRecipients :
    (let s := (after (climbing 3 0) (.post op 5 1 0 0 0));
        .limits (.esq .e1) true false ∈ s.handed ∧ s.limits.stop.get .e1 = true ∧ s.limits.run.get .e1 = false ∧
          (s.eng .e1).state = .online ∧ (s.eng .e1).stopPending = false ∧ s.fitted .e1 = true ∧ s.awake = true) ∧
      (let s := (after (cooling 10) (.post op 4 1 0 0 0));
        .limits (.esq .e1) false true ∈ s.handed ∧ s.limits.run.get .e1 = true ∧ s.limits.stop.get .e1 = false ∧
          (s.eng .e1).state = .cooldown ∧ (s.eng .e1).stopReason = some .shed) ∧
      (let s := cab.setCar { Car.reset with queue := [.e2] };
        s.car.phase = .idle ∧ s.cfg.arbiter.sharing = .exclusive ∧
          s.car.queue.find? (fun j => !s.limits.inhibit.get j) = some .e2) := by decide +kernel

/-- A post into an empty table, with a value at 8 and above it; and a full table. -/
theorem witness_PostCreatesEntryInLowestFreeSlot :
    (posted.takes (.post op 1 4 1 12 3601) = true ∧ kindField 1 = some .notchCeiling ∧ yesNoField 1 = some true ∧
        posted.checkScope .notchCeiling 0x0C = some (.engines ⟨false, false, true, false⟩, true) ∧
        (slotAt posted.table 18).live = false ∧ (slotAt posted.table 17).live = true) ∧
      (let t := (List.range 49).map fun n => if n < 17 then Slot.blank else (⟨1, some ⟨.external 3, .startInhibit, .engines (only .e1), none, none⟩⟩ : Slot);
        ∀ n ∈ List.range' 17 32, (slotAt t n).live = true) := by decide +kernel

/-- The table of the first post is good. -/
theorem witness_PostCreates_tableGood :
    posted.tableGood := tableGood_of _ (by decide +kernel) (by decide +kernel) (by decide +kernel)

/-- Each check of POST failing, and each failing handle, slot 48 and 49 among them. -/
theorem witness_TableRequestsRefuseBadFields :
    (cab.takes (.post op 6 1 0 0 0) = true ∧ kindField 6 = none) ∧
      (cab.takes (.post op 1 1 0 5 0) = true ∧ kindField 1 = some .notchCeiling ∧ yesNoField 0 ≠ some true) ∧
      (cab.takes (.post op 3 8 0 0 0) = true ∧ scopeField 8 = some (.engines (only .e4)) ∧ cab.fitted .e4 = false) ∧
      (cab.takes (.post op 2 1 1 900 0) = true ∧ scopeField 1 = some (.engines (only .e1))) ∧
      (posted.takes (.retire op 49 1) = true ∧ (49 : Byte).toNat = 49) ∧
      (posted.takes (.readEntry op 48 1) = true ∧ (slotAt posted.table 48).live = false) ∧
      (posted.takes (.amend op 17 2 1 5 0) = true ∧ (slotAt posted.table 17).gen ≠ 2) := by decide +kernel

/-- An entry of origin 3 asked for by origin 5, by its owner and by the SUPERVISOR; and an internal entry. -/
theorem witness_AmendAndRetireActOnOwnedEntry :
    (slotAt posted.table 17 = ⟨1, some ⟨.external 3, .notchCeiling, .engines (only .e3), some 5, some 600⟩⟩ ∧
        posted.takes (.retire ⟨5, 0⟩ 17 1) = true ∧ posted.role 5 ≠ .supervisor) ∧
      (posted.takes (.retire op 17 1) = true ∧ posted.takes (.amend op 17 1 1 8 3600) = true) ∧
      (posted.takes (.amend op 17 1 0 8 3600) = true ∧ yesNoField 0 ≠ some true ∧ yesNoField 1 = some true) ∧
      (posted.takes (.retire sup 17 1) = true ∧ posted.role 0 = .supervisor) ∧
      ((slotAt cooled.table 1).entry.map Entry.owner = some (.internal .hot) ∧ cooled.takes (.retire sup 1 1) = true) := by decide +kernel

/-- An external entry read, an internal one, and a list from 0, from 49 and from 50. -/
theorem witness_ReadRequestsReportEntries :
    posted.takes (.readEntry op 17 1) = true ∧ (slotAt posted.table 17).live = true ∧
      (cooled.takes (.readEntry op 1 1) = true ∧
        (slotAt cooled.table 1).entry.map Entry.owner = some (.internal .hot) ∧ (slotAt cooled.table 1).gen = 1) ∧
      posted.takes (.listEntries op 0 0 0xFF 0) = true ∧ posted.takes (.listEntries op 0 0 0xFF 49) = true ∧
      posted.takes (.listEntries op 1 3 3 50) = true ∧ (kindFilter 0).isSome = true ∧ (engineFilter 0).isSome = true ∧
      (originFilter 0xFF).isSome = true ∧ (kindFilter 1).isSome = true ∧ (originFilter 3).isSome = true := by decide +kernel

/-- An entry with 1 s left, the boundary of the two clauses, one with more, one with none, and an internal one. -/
theorem witness_ExpiryCountRetiresSpentEntries :
    (lastSecond.awake = true ∧ (slotAt lastSecond.table 17).entry =
        some ⟨.external 3, .notchCeiling, .engines (only .e3), some 5, some 1⟩) ∧
      (posted.awake = true ∧ (slotAt posted.table 17).entry =
        some ⟨.external 3, .notchCeiling, .engines (only .e3), some 5, some 600⟩ ∧
        (posted.table.all fun x => x.entry.all fun e => e.expiry.all fun m => decide (1 < m)) = true) ∧
      ((slotAt (after cab (.post op 1 4 1 5 2)).table 17).entry.map Entry.expiry = some (some 2)) ∧
      ((slotAt (after cab (.post op 1 4 1 5 0)).table 17).entry.map Entry.expiry = some none) ∧
      (slotAt cooled.table 1).entry.map Entry.owner = some (.internal .hot) ∧ (slotAt cooled.table 0).live = false := by
  decide +kernel

/-- A table whose values are in the ranges of their kinds, with a ceiling at 8 and a cap. -/
theorem witness_LimitsResolvedFromLiveEntries :
    let t := (run posted [.post op 1 1 1 8 0, .post op 2 0x80 1 900 0]).table
    (liveEntries t).length = 3 ∧ ∀ e ∈ liveEntries t, ∀ v ∈ e.value, v ≤ 65535 ∧ (e.kind = .notchCeiling → v ≤ 8) := by
  decide +kernel

/-- A good table before a post that is taken. -/
theorem witness_StepKeepsTableGood :
    posted.tableGood ∧ ∃ t, step (posted.setPending [.retire op 17 1]) = .next t := ⟨tableGood_of _ (by decide +kernel) (by decide +kernel) (by decide +kernel), _, rfl⟩

/-- The lifetimes of a table with one at 1 s, the lower end of the range, are good. -/
theorem witness_StepKeepsTableGood_expiries : lastSecond.expiriesGood := by
  have h : liveEntries lastSecond.table = [⟨.external 3, .notchCeiling, .engines (only .e3), some 5, some 1⟩] := by
    decide +kernel
  intro e m he hm
  rw [h, List.mem_singleton] at he
  subst he
  cases hm
  decide

/-- A re-plan handed, with demand in force, and without the run line. -/
theorem witness_ReplanFormsDemandAndCapacity :
    (reference.awake = true ∧ reference.handed = [] ++ .replan .limits :: [] ∧ reference.runLine = true ∧
        reference.emergency = false ∧ reference.valid = true) ∧
      (reference.setLic licReset).runLine = false := by decide +kernel

/-- The re-plan of 3.9.1, and its engines in order of capacity. -/
theorem witness_AllocationsSumToCappedDemand :
    reference.awake = true ∧ reference.handed = [] ++ .replan .limits :: [] ∧
      [(Engine.e3, 450), (Engine.e1, 700), (Engine.e2, 700)].Pairwise (fun x y => x.2 ≤ y.2) ∧
      (1400 + (2 + 0)) / (2 + 1) ≤ 700 := by decide +kernel

/-- A start timer starting and counting, a shed timer starting and counting at its last tenth, neither condition, and the
minimum clause with a recall candidate and without one. -/
theorem witness_PlannerCountAdvancesDwells :
    (let s := after oneOnline .replan;
        s.awake = true ∧ s.startCondition = true ∧ s.minimumClause = false ∧ s.plan.startTimer = some 0 ∧
          0 < s.cfg.staging.startDwell) ∧
      (let s := (after oneOnline .replan).setPlan { (after oneOnline .replan).plan with startTimer := none };
        s.startCondition = true ∧ s.plan.startTimer = none) ∧
      (let s := shedding.setPlan { shedding.plan with shedTimer := some 599 };
        s.shedCondition = true ∧ s.plan.shedTimer = some 599 ∧ 599 < s.cfg.staging.shedDwell) ∧
      (let s := shedding.setPlan { shedding.plan with shedTimer := none };
        s.shedCondition = true ∧ s.plan.shedTimer = none ∧ 0 < s.cfg.staging.shedDwell) ∧
      (bare.awake = true ∧ bare.minimumClause = true ∧ bare.stagingEngine = none ∧ bare.valid = true ∧
        bare.writing = false ∧ bare.emergency = false ∧ bare.recallCandidates = [] ∧
        bare.newStartCandidates = [.e1, .e2, .e3] ∧ bare.runSeconds .e1 = bare.runSeconds .e3) ∧
      (let s := bare.setEng .e2 { EngineRec.blank .cooldown with stopReason := some .shed };
        s.minimumClause = true ∧ s.stagingEngine = none ∧ s.recallCandidates = [.e2]) ∧
      (let s := (after reference .replan);
        s.startCondition = false ∧ s.shedCondition = false) := by decide +kernel

/-- Both dwells complete; the start with no recall candidate and with one. -/
theorem witness_DwellsCompleteIntoOrders :
    (dwelt.awake = true ∧ dwelt.plan.startTimer = some 50 ∧ dwelt.cfg.staging.startDwell ≤ 50 ∧
        dwelt.capacityClause = true ∧ dwelt.stagingEngine = none ∧ dwelt.valid = true ∧ dwelt.writing = false ∧
        dwelt.emergency = false ∧ dwelt.recallCandidates = [] ∧
        dwelt.newStartCandidates = [.e2, .e3]) ∧
      (let s := dwelt.setEng .e2 { EngineRec.blank .cooldown with stopReason := some .shed };
        s.recallCandidates = [.e2] ∧ s.capacityClause = true ∧ s.stagingEngine = none) ∧
      (shedding.awake = true ∧ shedding.plan.shedTimer = some 600 ∧ shedding.cfg.staging.shedDwell ≤ 600 ∧
        shedding.plan.candidate = some .e2 ∧ shedding.valid = true ∧ shedding.stagingEngine = none ∧
        shedding.cfg.staging.minOnline < (Engine.all.filter shedding.plan.online.get).length ∧
        100 * shedding.plan.p < shedding.cfg.staging.shedPct * (shedding.plan.co - shedding.plan.caps.get .e2)) := by decide +kernel

/-- A STOPPED engine admitted, by request and by order, with lube open and made, and with the hold point. -/
theorem witness_AdmissionEntersPrelube :
    ((cab.eng .e1).state = .stopped ∧ cab.admits .e1 = true ∧ cab.takesFor (.start sup 1) 1 .e1 = true ∧
        cab.writing = false ∧ cab.lubeMade .e1 = false) ∧
      (let s := cab.setHanded [.startOrder .e1 .staging];
        s.awake = true ∧ s.fitted .e1 = true ∧ s.admits .e1 = true ∧ s.handed = [] ++ .startOrder .e1 .staging :: []) ∧
      (let s := cab.setLic { cab.lic with lube := cab.lic.lube.set .e1 ⟨true, 0, false⟩ };
        s.lubeMade .e1 = true ∧ s.admits .e1 = true ∧ (s.eng .e1).holdPoint ≠ .beforeCrank) ∧
      (let s := (after cab (.setHold sup 1 1)).setLic { cab.lic with lube := cab.lic.lube.set .e1 ⟨true, 0, false⟩ };
        s.lubeMade .e1 = true ∧ s.admits .e1 = true ∧ (s.eng .e1).holdPoint = .beforeCrank) := by decide +kernel

/-- A write in flight; a start path and ONLINE; each state that refuses. -/
theorem witness_StartAnsweredByState :
    ((after cab (.writeConfig sup 1 [4, 120])).takesFor (.start sup 1) 1 .e1 = true ∧
        (after cab (.writeConfig sup 1 [4, 120])).writing = true) ∧
      ((runningUp 0).takesFor (.start sup 1) 1 .e1 = true ∧ (runningUp 0).writing = false ∧
        ((runningUp 0).eng .e1).state.startPath = true) ∧
      ((climbing 0 0).takesFor (.start sup 1) 1 .e1 = true ∧ ((climbing 0 0).eng .e1).stopPending = false) ∧
      ((e1In .isolated).takesFor (.start sup 1) 1 .e1 = true ∧ ((e1In .isolated).eng .e1).state = .isolated) ∧
      ((cab.setLic licReset).takesFor (.start sup 1) 1 .e1 = true ∧ (cab.setLic licReset).admits .e1 = false) ∧
      ((after (climbing 0 0) (.stop sup 1)).takesFor (.start sup 1) 1 .e1 = true ∧
        ((after (climbing 0 0) (.stop sup 1)).eng .e1).stopReason ≠ some .shed ∧
        ((after (climbing 0 0) (.stop sup 1)).eng .e1).stopPending = true) := by decide +kernel

/-- A SHED stop pending and a SHED cooldown, recalled by order and by START. -/
theorem witness_RecallCancelsShed :
    (let s := (e1As { onlineRec with stopPending := true, stopReason := some .shed, notch := 3 }).setHanded [.recall .e1];
        s.awake = true ∧ s.fitted .e1 = true ∧ (s.eng .e1).stopReason = some .shed ∧ (s.eng .e1).state = .online ∧
          (s.eng .e1).stopPending = true ∧ s.handed = [] ++ .recall .e1 :: [] ∧ s.takesFor (.start sup 1) 1 .e1 = true ∧
          s.writing = false) ∧
      ((cooling 5).takesFor (.start sup 1) 1 .e1 = true ∧ ((cooling 5).eng .e1).state = .cooldown ∧
        ((cooling 5).eng .e1).stopReason = some .shed) := by decide +kernel

/-- ONLINE with no stop pending; a SHED reason replaced; a stronger reason and each state at rest. -/
theorem witness_StopOrderOnRunningEngine :
    ((climbing 3 0).takesFor (.stop sup 1) 1 .e1 = true ∧ ((climbing 3 0).eng .e1).state = .online ∧
        ((climbing 3 0).eng .e1).stopPending = false) ∧
      (let s := (climbing 3 0).setHanded [.stopOrder .e1 .shed];
        s.awake = true ∧ s.fitted .e1 = true ∧ s.limits.run.get .e1 = false ∧
          s.handed = [] ++ .stopOrder .e1 .shed :: []) ∧
      ((cooling 5).takesFor (.stop sup 1) 1 .e1 = true ∧ ((cooling 5).eng .e1).stopReason = some .shed ∧
        StopReason.request ≠ .shed) ∧
      ((e1In .stopping).takesFor (.stop sup 1) 1 .e1 = true ∧ ((e1In .stopping).eng .e1).stopReason ≠ some .shed) := by decide +kernel

/-- STOP in CRANKING and in CRANK_REST. -/
theorem witness_StopEndsStartPath :
    ((cranking 3 0).takesFor (.stop sup 1) 1 .e1 = true ∧ ((cranking 3 0).eng .e1).state = .cranking) ∧
      ((resting 0).takesFor (.stop sup 1) 1 .e1 = true ∧ ((resting 0).eng .e1).state = .crankRest ∧
        (resting 0).limits.run.get .e1 = false) := by decide +kernel

/-- Their tables are good. -/
theorem witness_StopEndsStartPath_tableGood :
    (cranking 3 0).tableGood ∧ (resting 0).tableGood := ⟨tableGood_of _ (by decide +kernel) (by decide +kernel) (by decide +kernel),
    tableGood_of _ (by decide +kernel) (by decide +kernel) (by decide +kernel)⟩

/-- The pairs of 3.9.1, handed to ONLINE engines. -/
theorem witness_PairsTakenTogether :
    (after reference .replan).awake = true ∧
      (after reference .replan).handed = [] ++ .pairs ⟨some ⟨475, 6⟩, some ⟨475, 6⟩, some ⟨450, 5⟩, none⟩ :: [] ∧
      (after reference .replan).fitted .e1 = true ∧ ((after reference .replan).eng .e1).state = .online ∧
      ((after reference .replan).eng .e1).stopPending = false := by decide +kernel

/-- An ONLINE engine under a valid and an invalid configuration. -/
theorem witness_OutputsFollowState :
    (climbing 3 0).awake = true ∧ (climbing 3 0).fitted .e1 = true ∧ (climbing 3 0).valid = true ∧
      ((climbing 3 0).setCfs { Cfs.factory with marks := .same false }).valid = false ∧
      ((climbing 3 0).setCfs { Cfs.factory with marks := .same false }).fitted .e1 = true := by decide +kernel

/-- Settled at and below 30.0 s, at the target and short of either dwell; the step up and the step down due; ramping on and
arriving; and stepped down with and without the high-load mark, settled there or arriving there. -/
theorem witness_SetpointUpdateRampsAndSettles :
    ((climbing 6 600).awake = true ∧ (climbing 6 600).fitted .e1 = true ∧ ((climbing 6 600).eng .e1).state = .online ∧
        ((climbing 6 600).eng .e1).settledTime = some 600 ∧ ((climbing 6 600).eng .e1).settled = true ∧
        ((climbing 6 599).eng .e1).settledTime = some 599 ∧
        ((climbing 6 600).eng .e1).notch = ((climbing 6 600).eng .e1).pairInUse.target) ∧
      (((climbing 0 79).eng .e1).notch < ((climbing 0 79).eng .e1).pairInUse.target ∧
        2 * (climbing 0 79).cfg.timing.tUp ≤ min (79 + 1) 600 ∧ min (78 + 1) 600 < 2 * (climbing 0 78).cfg.timing.tUp) ∧
      (((climbing 7 19).eng .e1).pairInUse.target < ((climbing 7 19).eng .e1).notch ∧
        2 * (climbing 7 19).cfg.timing.tDown ≤ min (19 + 1) 600 ∧ min (18 + 1) 600 < 2 * (climbing 7 18).cfg.timing.tDown) ∧
      (let s := e1As { onlineRec with notch := 1, settled := false, settledTime := none };
        (s.eng .e1).settled = false ∧ (s.eng .e1).setpoint = 900 ∧ s.enRpm 1 = 1000 ∧
          min (900 + (s.cfg.timing.rateUp * 50 + 999) / 1000) 1000 = 903) ∧
      (let s := e1As { onlineRec with notch := 1, setpoint := 999, settled := false, settledTime := none };
        (s.eng .e1).settled = false ∧ min (999 + (s.cfg.timing.rateUp * 50 + 999) / 1000) 1000 = s.enRpm 1 ∧
          0 < s.cfg.timing.tUp ∧ 0 < s.cfg.timing.tDown) ∧
      (let s := e1As { onlineRec with notch := 0, setpoint := 901, settled := false, settledTime := none, stopPending := true };
        s.enRpm 0 ≤ (s.eng .e1).setpoint ∧ max (901 - (s.cfg.timing.rateDown * 50 + 999) / 1000) 900 = s.enRpm 0) ∧
      (let s := e1As { onlineRec with stopPending := true, stopReason := some .request, highLoad := true };
        (s.eng .e1).stopPending = true ∧ (s.eng .e1).settled = true ∧ (s.eng .e1).notch = 0 ∧
          (s.eng .e1).highLoad = true ∧ 0 < s.cfg.timing.cooldown) ∧
      (let s := e1As { onlineRec with stopPending := true, stopReason := some .request };
        (s.eng .e1).highLoad = false) := by decide +kernel

/-- The arrivals of the witness above are where its ramps move. -/
theorem witness_SetpointUpdate_rampsTo :
    (e1As { onlineRec with notch := 1, settled := false, settledTime := none }).rampsTo .e1 903 ∧
      (e1As { onlineRec with notch := 1, setpoint := 999, settled := false, settledTime := none }).rampsTo .e1 1000 ∧
      (e1As { onlineRec with notch := 0, setpoint := 901, settled := false, settledTime := none }).rampsTo .e1 900 := by
  refine ⟨⟨?_, ?_⟩, ⟨?_, ?_⟩, ⟨?_, ?_⟩⟩ <;> decide +kernel

/-- A T_down of 0 with a step down due at the update that settles; and a T_up of 0, which no configuration written holds. -/
theorem witness_SetpointUpdate_noDwell :
    let r := { onlineRec with notch := 1, setpoint := 999, settled := false, settledTime := none };
    let zero : Cfs := { Cfs.factory with working := { image with timing := { image.timing with tUp := 0, tDown := 0 } } };
    (let s := (e1As r).setCfs zero;
      s.cfg.timing.tDown = 0 ∧ (s.eng .e1).pairInUse.target < (s.eng .e1).notch ∧ (s.eng .e1).settled = false) ∧
      (let s := (e1As { r with pair := ⟨467, 6⟩ }).setCfs zero;
        s.cfg.timing.tUp = 0 ∧ (s.eng .e1).notch < (s.eng .e1).pairInUse.target) := by decide +kernel

/-- A step due at T_up, one at T_down, an engine at its target and one whose dwell is not over. -/
theorem witness_NotchStepsOneTowardTarget :
    ((climbing 0 79).awake = true ∧ (climbing 0 79).fitted .e1 = true ∧ ((climbing 0 79).eng .e1).state = .online ∧
        ((climbing 0 79).eng .e1).settled = true ∧ ((climbing 0 79).eng .e1).settledTime = some 79 ∧
        ((climbing 0 79).eng .e1).notch < ((climbing 0 79).eng .e1).pairInUse.target ∧
        2 * (climbing 0 79).cfg.timing.tUp ≤ min (79 + 1) 600) ∧
      (((climbing 7 19).eng .e1).pairInUse.target < ((climbing 7 19).eng .e1).notch ∧
        2 * (climbing 7 19).cfg.timing.tDown ≤ min (19 + 1) 600) ∧
      ((climbing 6 19).eng .e1).notch = ((climbing 6 19).eng .e1).pairInUse.target ∧
      min (78 + 1) 600 < 2 * (climbing 0 78).cfg.timing.tUp ∧ min (18 + 1) 600 < 2 * (climbing 7 18).cfg.timing.tDown := by
  decide +kernel

/-- Each timer at its length, in its state. -/
theorem witness_TimerEndsTripRestAndStop :
    ((prelubed 300).awake = true ∧ (prelubed 300).fitted .e1 = true ∧ ((prelubed 300).eng .e1).state = .prelube ∧
        (prelubed 300).cfg.timing.prelube ≤ 300) ∧
      (((runningUp 200).eng .e1).state = .runup ∧ (runningUp 200).cfg.timing.runup ≤ 200) ∧
      (let s := e1As { EngineRec.blank .stopping with stopTimer := some 600 };
        (s.eng .e1).state = .stopping ∧ s.cfg.timing.stopLimit ≤ 600) ∧
      (((resting 300).eng .e1).state = .crankRest ∧ (resting 300).cfg.timing.rest ≤ 300) ∧
      (((cooling 1200).eng .e1).state = .cooldown ∧ (cooling 1200).cfg.timing.cooldown ≤ 1200) := by decide +kernel

/-- The crank supply of the resting engine is safe. -/
theorem witness_TimerEnds_crankSafe : (resting 300).crankSafe := ⟨allEngines (by decide +kernel), by decide +kernel⟩

/-- A crank time reached and a sag, with two attempts and with one. -/
theorem witness_FailedCrankRestsOrTrips :
    ((cranking 2 120).awake = true ∧ (cranking 2 120).fitted .e1 = true ∧ ((cranking 2 120).eng .e1).state = .cranking ∧
        (cranking 2 120).car.holder = some .e1 ∧ (cranking 2 120).cfg.timing.crank ≤ 120 ∧
        2 ≤ ((cranking 2 120).eng .e1).attempts ∧ 0 < (cranking 2 120).cfg.arbiter.crankGap) ∧
      (((cranking 1 5).setHanded [.sag .e1]).handed = [] ++ .sag .e1 :: [] ∧ ((cranking 1 5).eng .e1).attempts = 1) := by decide +kernel

/-- ISOLATE of a STOPPED engine and of one with its switch made; RESTORE of an ISOLATED one and of one whose switch is made. -/
theorem witness_IsolateAndRestoreMoveCondition :
    (cab.takesFor (.isolate sup 1) 1 .e1 = true ∧ (cab.eng .e1).state = .stopped ∧ (cab.eng .e1).isoSeen = false ∧
        (cab.eng .e1).isoRequest = false ∧ cab.takesFor (.restore sup 1) 1 .e1 = true) ∧
      (let s := e1As { EngineRec.blank .isolated with isoSeen := true, isoRequest := true };
        s.takesFor (.isolate sup 1) 1 .e1 = true ∧ s.takesFor (.restore sup 1) 1 .e1 = true ∧
          (s.eng .e1).state = .isolated ∧ (s.eng .e1).isoSeen = true ∧ s.level (.iso .e1) = false ∧
          s.limits.run.get .e1 = false ∧ (s.eng .e1).isoRequest = true) ∧
      (let s := (e1As { EngineRec.blank .isolated with isoSeen := true }).setLic
          { cab.lic with iso := cab.lic.iso.set .e1 ⟨true, 0, false⟩ };
        s.takesFor (.restore sup 1) 1 .e1 = true ∧ s.level (.iso .e1) = true ∧ (s.eng .e1).isoSeen = true) := by decide +kernel

/-- An engine not held, one held in PRELUBE and one in RUNUP, with the step's condition and without, each held at the very
point and at another, with the prelube timer stopped and counting. -/
theorem witness_HoldPointsHoldAndPass :
    (cab.takesFor (.setHold sup 1 2) 1 .e1 = true ∧ holdField 2 = some .beforeOnline ∧ (cab.eng .e1).held = false) ∧
      (heldBeforeCrank.takesFor (.setHold sup 1 0) 1 .e1 = true ∧ (heldBeforeCrank.eng .e1).held = true ∧
        (heldBeforeCrank.eng .e1).state = .prelube ∧ heldBeforeCrank.lubeMade .e1 = false ∧
        heldBeforeCrank.takesFor (.step sup 1) 1 .e1 = true) ∧
      (heldBeforeOnline.takesFor (.setHold sup 1 0) 1 .e1 = true ∧ (heldBeforeOnline.eng .e1).held = true ∧
        (heldBeforeOnline.eng .e1).state = .runup ∧ heldBeforeOnline.onlineTest .e1 = true ∧
        heldBeforeOnline.takesFor (.step sup 1) 1 .e1 = true) ∧
      (let s := heldBeforeCrank.setLic { cab.lic with lube := cab.lic.lube.set .e1 ⟨true, 0, false⟩ };
        s.takesFor (.step sup 1) 1 .e1 = true ∧ s.lubeMade .e1 = true ∧ s.takesFor (.setHold sup 1 0) 1 .e1 = true) ∧
      (heldBeforeCrank.takesFor (.setHold sup 1 1) 1 .e1 = true ∧ holdField 1 = some .beforeCrank ∧
        heldBeforeOnline.takesFor (.setHold sup 1 2) 1 .e1 = true ∧ holdField 0 = some .none) ∧
      ((heldBeforeCrank.eng .e1).prelubeTimer = none ∧
        (let s := e1As { EngineRec.blank .prelube with holdPoint := .beforeCrank, held := true, prelubeTimer := some 9 };
          s.takesFor (.setHold sup 1 0) 1 .e1 = true ∧ (s.eng .e1).prelubeTimer = some 9 ∧ s.lubeMade .e1 = false)) ∧
      (let s := heldBeforeOnline.setLic cab.lic; s.takesFor (.setHold sup 1 1) 1 .e1 = true ∧ s.onlineTest .e1 = false) := by
  decide +kernel

/-- The crank supply of the engine held in PRELUBE is safe. -/
theorem witness_HoldPoints_crankSafe : heldBeforeCrank.crankSafe := ⟨allEngines (by decide +kernel), by decide +kernel⟩

/-- An engine not TRIPPED, one TRIPPED at rest, and an EMERGENCY trip with the line asserted. -/
theorem witness_AckTripReturnsEngineAtRest :
    (cab.takesFor (.ackTrip sup 1) 1 .e1 = true ∧ (cab.eng .e1).state ≠ .tripped) ∧
      ((tripped .lowLube).takesFor (.ackTrip sup 1) 1 .e1 = true ∧ ((tripped .lowLube).eng .e1).state = .tripped ∧
        (tripped .lowLube).atRest .e1 = true ∧ ((tripped .lowLube).eng .e1).tripCause ≠ some .emergency ∧
        (tripped .lowLube).limits.run.get .e1 = false) ∧
      (let s := (tripped .emergency).setLic { cab.lic with emergency := ⟨true, 0, false⟩ };
        s.takesFor (.ackTrip sup 1) 1 .e1 = true ∧ (s.eng .e1).tripCause = some .emergency ∧ s.emergency = true) := by decide +kernel

/-- Their tables are good. -/
theorem witness_AckTrip_tableGood :
    (tripped .lowLube).tableGood := tableGood_of _ (by decide +kernel) (by decide +kernel) (by decide +kernel)

/-- READ_ENGINE, READ_STATUS and READ_PLAN are taken. -/
theorem witness_ReportsAnswered :
    cab.takesFor (.readEngine sup 1) 1 .e1 = true ∧ cab.takes (.readStatus sup) = true ∧
      (serving cab (.readStatus sup)).takes (.readStatus sup) = true ∧ cab.takes (.readPlan sup) = true := by decide +kernel

/-- A grant taken in CRANK_WAIT, and one that finds the engine STOPPED. -/
theorem witness_GrantTakenCranksOrReleases :
    (granted.awake = true ∧ granted.fitted .e1 = true ∧ granted.handed = [] ++ .grant .e1 :: [] ∧
        granted.car.holder = some .e1 ∧ (granted.eng .e1).state = .crankWait) ∧
      (let s := granted.setEng .e1 (.blank .stopped);
        (s.eng .e1).state ≠ .crankWait ∧ (s.eng .e1).state ≠ .cranking ∧
          s.handed = [] ++ .grant .e1 :: [] ∧ s.car.holder = some .e1) := by decide +kernel

/-- The gap over with and without an engine to grant; the re-request over with an engine queued and with none. -/
theorem witness_ArbiterTimersEnd :
    ((recovering 100).awake = true ∧ (recovering 100).car.phase = .recovery ∧ (recovering 100).car.gapTimer = some 100 ∧
        (recovering 100).cfg.arbiter.crankGap ≤ 100 ∧ (recovering 100).cfg.arbiter.sharing = .exclusive ∧
        (recovering 100).car.queue.find? (fun j => !(recovering 100).limits.inhibit.get j) = some .e2) ∧
      (let s := cab.setCar ⟨[], none, .recovery, some 100, .quiet, none⟩;
        ∀ k ∈ s.car.queue, s.limits.inhibit.get k = true) ∧
      ((backedOff [.e2] 20).awake = true ∧ (backedOff [.e2] 20).car.line = .backoff ∧
        (backedOff [.e2] 20).car.rerequest = some 20 ∧ (backedOff [.e2] 20).cfg.arbiter.rerequest ≤ 20 ∧
        (backedOff [.e2] 20).car.queue ≠ []) ∧
      ((backedOff [] 20).car.queue = [] ∧ (backedOff [] 20).car.holder = none ∧
        (backedOff [] 20).cfg.arbiter.park = false) := by decide +kernel

/-- A safe supply with an engine CRANKING. -/
theorem witness_StepKeepsCrankSafe :
    (cranking 3 0).crankSafe ∧ (cranking 3 0).crankRelay .e1 = true := by
  refine ⟨⟨allEngines (by decide +kernel), by decide +kernel⟩, by decide +kernel⟩

/-- E1 not yet measured, with three pulses counted on each pickup and a run demand in force. -/
def unmeasured : State :=
  (after cab (.post op 4 1 0 0 0)).setSense .e1 { Sensing.reset with a := ⟨3, 0, 0, 0, 0, .notMeasured⟩, b := ⟨3, 0, 0, 0, 0, .notMeasured⟩ }

/-- E1 degraded on pickup B with PICKUP standing, at a pulse count of A and one of B in every interval. -/
def onB (a b : Nat) : State :=
  ((degraded 0 0).postInternal .pickup .e1).setSense .e1
    { (degraded 0 0).sense .e1 with a := ⟨a, a, a, a, a, .silent⟩, b := ⟨b, b, b, b, b, .silent⟩ }

/-- Windows of no pulse, of 25 and of the 1200 that reach 3000 rpm at 120 teeth; updates past the first and first ones of
STOPPED, ISOLATED and TRIPPED engines, and the first one of a STOPPED engine with a run demand that admission lets start. -/
theorem witness_SpeedFormedFromPulses :
    (0 < 120 ∧ 25 * 60000 < 3000 * (120 * 200) ∧ 3000 * (120 * 200) ≤ 1200 * 60000 ∧ 1199 * 60000 < 3000 * (120 * 200)) ∧
      (let s := turning cab 25;
        s.awake = true ∧ s.fitted .e1 = true ∧ (s.sense .e1).a.reading ≠ .notMeasured ∧ (s.eng .e1).state = .stopped) ∧
      (((turning (e1In .isolated) 1).eng .e1).state = .isolated ∧ ((turning (tripped .noStart) 1).eng .e1).state = .tripped) ∧
      ((unmeasured.sense .e1).a.reading = .notMeasured ∧ (unmeasured.sense .e1).a.current = 3 ∧ unmeasured.awake = true ∧
        unmeasured.fitted .e1 = true ∧ (unmeasured.eng .e1).state = .stopped ∧ unmeasured.limits.run.get .e1 = true ∧
        unmeasured.startAllowed .e1 ∧ unmeasured.reportedSpeed .e1 = 7 ∧ unmeasured.foundAtRest .e1) ∧
      ((sensed fun _ => .reset).limits.run.get .e1 = false ∧
        ((sensed fun _ => .reset).sense .e1).a.reading = .notMeasured) := by
  unfold State.startAllowed State.foundAtRest State.bothFormedSilent
  decide +kernel

/-- The failover of 7.5.1, a fail-back from B at the floor of 100 rpm with PICKUP standing, an update of a degraded engine
that sees its failed pickup again and one of 90 rpm that fails over no more, and the two clears of 7.5.2. -/
theorem witness_PickupsFailOverAndClear :
    (leadParted.awake = true ∧ leadParted.fitted .e1 = true ∧ (leadParted.sense .e1).selection = .a ∧
        leadParted.formed .e1 .a = .silent ∧ leadParted.formed .e1 .b = .good 180 false ∧
        leadParted.failoverDue .e1 = true ∧ leadParted.stands .pickup .e1 = false) ∧
      ((onB 10 0).awake = true ∧ (onB 10 0).fitted .e1 = true ∧ (onB 10 0).formed .e1 .b = .silent ∧
        (onB 10 0).formed .e1 .a = .good 100 false ∧ (onB 10 0).failoverDue .e1 = true ∧
        (onB 10 0).stands .pickup .e1 = true) ∧
      ((onB 1 9).failoverDue .e1 = false ∧ ((onB 1 9).sense .e1).degraded = true ∧
        ((onB 1 9).sense .e1).failed = some .a ∧ (onB 1 9).formed .e1 .a = .good 10 false) ∧
      ((onB 9 0).failoverDue .e1 = false ∧ (onB 9 0).formed .e1 .a = .good 90 false) ∧
      ((degraded 1397 1400).takesFor (.clearPickupFault sup 1) 1 .e1 = true ∧
        10 * (max 1397 1400 - min 1397 1400) ≤ max 1397 1400) ∧
      ((degraded 1250 1400).takesFor (.clearPickupFault sup 1) 1 .e1 = true ∧
        max 1250 1400 < 10 * (max 1250 1400 - min 1250 1400)) := by decide +kernel

/-- Its table is good. -/
theorem witness_PickupsFailOver_tableGood : leadParted.tableGood ∧ (onB 10 0).tableGood :=
  ⟨tableGood_of _ (by decide +kernel) (by decide +kernel) (by decide +kernel),
    tableGood_of _ (by decide +kernel) (by decide +kernel) (by decide +kernel)⟩

/-- A CRANKING engine at 250 rpm, one in RUNUP with both pickups falling SILENT, one in STOPPING below 50 rpm, and one
SILENT with a run demand that admission lets start. -/
theorem witness_SpeedReportFiresTripsAndRests :
    (let s := turning (cranking 3 40) 25;
        s.awake = true ∧ s.fitted .e1 = true ∧ s.reportedSpeed .e1 = 250 ∧ s.cfg.thresholds.fireSpeed ≤ 250 ∧
          s.car.holder = some .e1 ∧ (s.formed .e1 .a).over s.cfg.thresholds.overspeed = false ∧
          (s.formed .e1 .b).over s.cfg.thresholds.overspeed = false) ∧
      (let s := windows (runningUp 5) ⟨0, 9, 0, 0, 0, .good 90 false⟩ ⟨0, 9, 0, 0, 0, .good 90 false⟩;
        (s.eng .e1).state = .runup ∧ s.bothFormedSilent .e1) ∧
      (let s := turning (e1In .stopping) 4;
        (s.eng .e1).state = .stopping ∧ s.reportedSpeed .e1 = 40 ∧ s.foundAtRest .e1 ∧ s.limits.run.get .e1 = false) ∧
      (let s := after (e1In .stopping) (.post op 4 1 0 0 0);
        (s.eng .e1).state = .stopping ∧ s.isoCond .e1 = false ∧ s.limits.run.get .e1 = true ∧ s.startAllowed .e1 ∧
          s.foundAtRest .e1) := by
  unfold State.startAllowed State.foundAtRest State.bothFormedSilent
  decide +kernel

/-- Their tables are good. -/
theorem witness_SpeedReport_tableGood :
    (turning (cranking 3 40) 25).tableGood ∧ (turning (e1In .stopping) 4).tableGood := ⟨tableGood_of _ (by decide +kernel) (by decide +kernel) (by decide +kernel),
    tableGood_of _ (by decide +kernel) (by decide +kernel) (by decide +kernel)⟩

/-- Samples at both ends of the range and beyond them, and a WARMUP standing. -/
theorem witness_CoolantSampleCountsOrFaults :
    cab.awake = true ∧ cab.fitted .e1 = true ∧ ((-40 : Int) ≤ -40 ∧ (150 : Int) ≤ 150) ∧
      ((-41 : Int) < -40 ∧ (150 : Int) < 151) ∧ warming.stands .warmup .e1 = true := by decide +kernel

/-- Each count at 3 with its entry FREE or LIVE, and an overheat in ONLINE and STOPPED. -/
theorem witness_CoolantConditionsAndOverheat :
    (let s := sensed fun x => { x with hotCount := 3 };
        s.awake = true ∧ s.fitted .e1 = true ∧ (s.sense .e1).hotCount = 3 ∧ s.stands .hot .e1 = false) ∧
      ((cooled.sense .e1).coolCount = 3 ∧ cooled.stands .hot .e1 = true) ∧
      ((warming.sense .e1).warmCount = 3 ∧ warming.stands .warmup .e1 = true) ∧
      (let s := (climbing 3 0).setHanded [.overheat .e1];
        s.handed = [] ++ .overheat .e1 :: [] ∧ (s.eng .e1).state = .online) ∧
      ((cab.setHanded [.overheat .e1]).eng .e1).state ≠ .online := by decide +kernel

/-- Their tables are good. -/
theorem witness_CoolantConditions_tableGood :
    cooled.tableGood ∧ warming.tableGood := ⟨tableGood_of _ (by decide +kernel) (by decide +kernel) (by decide +kernel),
    tableGood_of _ (by decide +kernel) (by decide +kernel) (by decide +kernel)⟩

/-- Each change of phase, a sample in each phase at both ends of its range, and each permit count at 3. -/
theorem witness_BatterySampleAndPermit :
    ((cab.setHanded [.phase .granted (some .e1)]).handed = [] ++ .phase .granted (some .e1) :: [] ∧
        (cab.setHanded [.phase .recovery none]).handed = [] ++ .phase .recovery none :: [] ∧
        (cab.setHanded [.phase .idle none]).handed = [] ++ .phase .idle none :: []) ∧
      (((-1 : Int) < 0 ∧ (0 : Int) ≤ 0 ∧ (0 : Int) ≤ 1000) ∧ ((1000 : Int) ≤ 1000 ∧ (1000 : Int) < 1001)) ∧
      ((battery .idle 0 0 0).bsm.phase = .idle ∧ (battery .recovery 0 0 0).bsm.phase = .recovery ∧
        (battery .granted 0 0 2).bsm.phase = .granted ∧ (battery .granted 0 0 2).bsm.holder = some .e1 ∧
        (battery .granted 0 0 2).bsm.crankMin = none ∧ (battery .granted 0 0 2).cfg.thresholds.batteryFilter ≤ 2 + 1 ∧
        1 + 1 < (battery .granted 0 0 1).cfg.thresholds.batteryFilter ∧
        449 < (battery .granted 0 0 2).cfg.thresholds.sagFloor ∧ (battery .granted 0 0 2).cfg.thresholds.sagFloor ≤ 450) ∧
      ((battery .idle 3 0 0).fitted .e1 = true ∧ (battery .idle 3 0 0).cfg.thresholds.batteryFilter ≤ 3 ∧
        (slotAt (battery .idle 3 0 0).table 16).live = false) ∧
      (recovered.bsm.phase = .idle ∧ recovered.cfg.thresholds.batteryFilter ≤ recovered.bsm.high ∧
        (slotAt recovered.table 16).live = true) := by decide +kernel

/-- Its table is good. -/
theorem witness_BatterySampleAndPermit_tableGood :
    recovered.tableGood := tableGood_of _ (by decide +kernel) (by decide +kernel) (by decide +kernel)

/-- Each kind of counted event, an engine in RUNUP, one ONLINE at notch 3, and a full run since save. -/
theorem witness_DutyCountersAdvance :
    (failing.awake = true ∧ failing.fitted .e1 = true ∧ failing.handed = [] ++ .counted .e1 [.failed, .trip .noStart] :: [] ∧
        Engine.e1 ∉ failing.dct.queue ∧ Engine.e2 ∈ saving.dct.queue) ∧
      ((cab.setHanded [.counted .e1 [.start]]).handed = [] ++ .counted .e1 [.start] :: []) ∧
      ((runningUp 0).awake = true ∧ (runningUp 0).fitted .e1 = true ∧ ((runningUp 0).eng .e1).state = .runup) ∧
      (((climbing 3 0).eng .e1).state = .online ∧ ((climbing 3 0).eng .e1).notch < ((climbing 3 0).dutyOf .e1).histogram.length) ∧
      ((counted fun d => { d with runSinceSave := 600 }).dutyOf .e1).runSinceSave = 600 := by decide +kernel

/-- Its table is good. -/
theorem witness_DutyCountersAdvance_tableGood :
    failing.tableGood := tableGood_of _ (by decide +kernel) (by decide +kernel) (by decide +kernel)

/-- READ_COUNTERS with clear bytes 0, 1 and 2; CLEAR_LOCKOUT with and without anything to clear. -/
theorem witness_CounterRequestsReadAndClear :
    (cab.takesFor (.readCounters sup 1 0) 1 .e1 = true ∧ cab.takesFor (.readCounters sup 1 1) 1 .e1 = true ∧
        cab.takesFor (.readCounters sup 1 2) 1 .e1 = true ∧ yesNoField 1 = some true ∧ yesNoField 2 = none) ∧
      (cab.takesFor (.clearLockout sup 1) 1 .e1 = true ∧ (cab.dutyOf .e1).stored.consecutive = 0 ∧
        cab.stands .lockout .e1 = false) ∧
      (failing.takesFor (.clearLockout sup 1) 1 .e1 = true ∧ (failing.dutyOf .e1).stored.consecutive ≠ 0) := by decide +kernel

/-- A save waiting, and a write in flight. -/
theorem witness_SaveWritesSnapshotHead :
    saving.awake = true ∧ saving.dct.writing = none ∧ saving.dct.queue = .e2 :: [] ∧
      (after saving .saveWriteBegin).dct.writing = some (.e2, .zero) := by decide +kernel

/-- A hunting receiver, payloads of 0 and 48 bytes, and a request command. -/
theorem witness_ReceiverCompletesRequestFrames :
    cab.awake = true ∧ cab.cli.restarting = false ∧ cab.cli.receiver = .hunt ∧ ([] : List Byte).length ≤ 48 ∧
      (List.replicate 48 (0 : Byte)).length ≤ 48 ∧ (requestOf (.readStatus sup)).isSome = true := by decide +kernel

/-- Each state of the receiver; a frame completed with places free and full; a request unserved; a response waiting. -/
theorem witness_LinkReceivesServesAndAnswers :
    (cab.awake = true ∧ cab.cli.restarting = false ∧ cab.cli.receiver = .hunt) ∧
      (after cab (.characterReceived 0xA5 false)).cli.receiver = .length ∧
      (run cab [.characterReceived 0xA5 false, .characterReceived 0 false]).cli.receiver = .body 0 [] ∧
      ((received cab (.readStatus sup)).cli.completed.length = 1 ∧ (received cab (.readStatus sup)).cli.intake.length < 4) ∧
      ((crowded 3).cli.completed.length = 1 ∧ 4 ≤ (crowded 3).cli.intake.length ∧ busyWaiting (crowded 3).cli.responses < 4 ∧
        4 ≤ busyWaiting (crowded 4).cli.responses) ∧
      (let s := after (received cab (.readStatus sup)) .requestFrameComplete;
        s.cli.serving = none ∧ s.cli.intake = [] ++ ⟨⟨0x22, 1, 0, []⟩, false⟩ :: [] ∧
          s.commonCheck ⟨0x22, 1, 0, []⟩ = none ∧ s.commonCheck ⟨0x22, 1, 1, []⟩ = some .notPermitted) ∧
      (let s := after handedOn (.readStatus sup);
        s.cli.responses.length = 1 ∧ s.cli.intake = [] ++ ⟨⟨0x22, 1, 0, []⟩, true⟩ :: [] ∧ s.awake = true) ∧
      (let s := cab.setCli { cab.cli with responses := [⟨0x22, 2, .busy, [], false⟩] };
        s.awake = true ∧ s.cli.restarting = false ∧ s.cli.responses = ⟨0x22, 2, .busy, [], false⟩ :: [] ∧
          (⟨0x22, 2, .busy, [], false⟩ : Response).placed = false) := by decide +kernel

/-- Each check failing, and none. -/
theorem witness_CommonChecksRefuseInOrder :
    (cab.awake = true ∧ cab.cli.restarting = false ∧ cab.cli.serving = none) ∧
      (requestOf (.readStatus ⟨16, 0⟩) = some ⟨0x22, 0, 16, []⟩ ∧ requestWellFormed ⟨0x22, 0, 16, []⟩ = false) ∧
      (requestWellFormed ⟨0x32, 2, 3, []⟩ = true ∧ (cab.role 3).rank < Role.supervisor.rank) ∧
      (let s := cab.setCfs { Cfs.factory with marks := .same false };
        requestOf (.readPlan sup) = some ⟨0x23, 1, 0, []⟩ ∧ requestWellFormed ⟨0x23, 1, 0, []⟩ = true ∧ s.valid = false ∧
          Role.observer.rank ≤ (s.role 0).rank) ∧ cab.takes (.readPlan sup) = true := by decide +kernel

/-- Each field with bytes at the edge of the values it names: engine 0 and 4 of three, hold point 3, filters 6, 5 and 17, and
section 10. -/
theorem witness_FieldsNamingNoValueRefused :
    (cab.takes (.start sup 0) = true ∧ cab.takes (.readCounters sup 5 0) = true ∧ engineField 4 = some .e4 ∧
        cab.fitted .e4 = false ∧ cab.takes (.clearLockout sup 4) = true) ∧
      cab.takesFor (.setHold sup 1 3) 1 .e1 = true ∧
      (cab.takes (.listEntries sup 6 0 255 0) = true ∧ cab.takes (.listEntries sup 0 5 255 0) = true ∧
        cab.takes (.listEntries sup 0 0 17 0) = true) ∧
      (cab.takes (.readConfig sup 0) = true ∧ cab.takes (.readConfig sup 10) = true) := by decide +kernel

/-- A link with four places served and four BUSY responses waiting, and one serving the oldest unserved request. -/
theorem witness_StepKeepsLinkGood :
    (crowded 4).linkGood ∧ handedOn.linkGood := by
  have h1 : (crowded 4).cli.serving = none := by decide +kernel
  have h2 : handedOn.cli.serving = some ⟨0x22, 1, 0, []⟩ := by decide +kernel
  refine ⟨⟨by decide +kernel, by decide +kernel, by decide +kernel, fun r h => ?_⟩,
    ⟨by decide +kernel, by decide +kernel, by decide +kernel, fun r h => ?_⟩⟩
  · rw [h1] at h
    cases h
  · rw [h2] at h
    cases h
    decide +kernel

/-- A section read; a write taken, refused for a write in flight, for an engine not at rest, and for an item. -/
theorem witness_ConfigReadAndWriteBegin :
    (sectionOf 1 = some .roster ∧ cab.takes (.readConfig sup 1) = true) ∧
      (cab.takes (.writeConfig sup 1 [4, 120]) = true ∧ cab.writing = false ∧ cab.allResting = true ∧
        refusedIndex cab.cfs.working .roster [4, 120] = none ∧ refusedIndex cab.cfs.working .roster [5, 120] = some 1) ∧
      (after cab (.writeConfig sup 1 [4, 120])).writing = true ∧
      ((climbing 0 0).fitted .e1 = true ∧ ((climbing 0 0).eng .e1).state.resting = false) := by decide +kernel

/-- A write in flight with the configuration valid after it, with an engine newly fitted and a HOT entry standing; and with it
still invalid. -/
theorem witness_WriteCompleteAppliesConfiguration :
    (let s := after cooled (.writeConfig sup 1 [4, 120]);
        s.awake = true ∧ s.cfs.write = some (.roster ⟨4, 120⟩) ∧ (after s .writeComplete).valid = true ∧
          (slotAt s.table 1).live = true ∧ s.fitted .e4 = false ∧ (after s .writeComplete).fitted .e4 = true ∧
          ∀ k ∈ Engine.all, (after s .writeComplete).limits.run.get k = false) ∧
      (let s := (after cab (.writeConfig sup 1 [4, 120])).setCfs
          { (after cab (.writeConfig sup 1 [4, 120])).cfs with marks := .same false };
        s.cfs.write.isSome = true ∧ (after s .writeComplete).valid = false) ∧
      (let s := after cooled (.writeConfig sup 1 [2, 120]);
        s.awake = true ∧ s.cfs.write = some (.roster ⟨2, 120⟩) ∧ (after s .writeComplete).valid = true ∧
          s.fitted .e3 = true ∧ (after s .writeComplete).fitted .e3 = false ∧
          ∀ k ∈ Engine.all, (after s .writeComplete).limits.run.get k = false) ∧
      (let s := after (after posted (.post op 1 5 1 6 0)) (.writeConfig sup 1 [2, 120]);
        s.awake = true ∧ s.cfs.write = some (.roster ⟨2, 120⟩) ∧
          ((slotAt s.table 17).entry.map fun e => (e.owner, e.scope)) = some (.external 3, .engines (only .e3)) ∧
          ((slotAt s.table 18).entry.map fun e => (e.owner, e.scope)) =
            some (.external 3, .engines ⟨true, false, true, false⟩) ∧
          (after s .writeComplete).fitted .e1 = true ∧ (after s .writeComplete).fitted .e3 = false) := by decide +kernel

/-- An internal entry of an engine that the write leaves without a place: HOT of E3. -/
theorem witness_WriteComplete_internal :
    let s := after (after (cab.setSense .e3 { quiet with hotCount := 3 }) (.hotPosted .e3)) (.writeConfig sup 1 [2, 120]);
    s.awake = true ∧ s.cfs.write = some (.roster ⟨2, 120⟩) ∧
      ((slotAt s.table (internalSlot .hot .e3)).entry.map fun e => (e.owner, e.scope)) =
        some (.internal .hot, .engines (only .e3)) ∧ (after s .writeComplete).fitted .e3 = false := by decide +kernel

/-- A RESTART refused for a write, for an engine, taken over the link and directly, with no response waiting and with one;
and its last response. -/
theorem witness_RestartRaisesResetOnceAnswered :
    (cab.takes (.restart sup) = true ∧ cab.writing = false ∧ cab.allResting = true) ∧
      (after cab (.writeConfig sup 1 [4, 120])).writing = true ∧
      ((climbing 0 0).takes (.restart sup) = true ∧ ((climbing 0 0).eng .e1).state.resting = false) ∧
      ((serving cab (.restart sup)).takes (.restart sup) = true ∧ (serving cab (.restart sup)).cli.serving.isSome = true) ∧
      (cab.cli.serving = none ∧ cab.cli.responses = []) ∧
      (let s := cab.setCli { cab.cli with responses := [⟨0x22, 2, .busy, [], false⟩] };
        s.takes (.restart sup) = true ∧ s.writing = false ∧ s.allResting = true ∧ s.cli.serving = none ∧
          s.cli.responses ≠ []) ∧
      (let s := after (serving cab (.restart sup)) (.restart sup);
        s.awake = true ∧ s.cli.restarting = true ∧ s.cli.responses = [⟨0x32, 1, .ok, [], true⟩]) := by decide +kernel

/-! ### Further clauses -/

/-- RESET_END: a good image with one section not VALID, and an engine newly fitted by the image that a dip loads. -/
theorem witness_ResetEnd_image :
    (let s := powering.setCfs { powering.cfs with nv := ⟨image, { Marks.same true with origins := false }, true⟩ };
        s.resetting = some .powerOn ∧ s.bsm.releaseHold = some 50 ∧ s.cfs.nv.good = true ∧
          s.cfs.nv.marks.origins = false ∧ s.cfs.nv.image.origins ≠ {}) ∧
      (let s := (dipped.setCfs { dipped.cfs with nv := ⟨{ image with roster := ⟨4, 120⟩ }, .same true, true⟩ }).setDct
          { dipped.dct with store := .same (.written .e4 .zero true) };
        s.resetting = some .supplyDip ∧ s.bsm.releaseHold = some 50 ∧ s.fitted .e4 = false ∧
          (after s .resetEnd).fitted .e4 = true ∧ s.dct.store.get .e4 = .written .e4 .zero true ∧
          (after s .resetEnd).fitted .e3 = true ∧ s.fitted .e3 = true) := by decide +kernel

/-- LEVEL_CHANGE, the lines: a SHED stop and a start met by the run line dropped, and a STOPPED engine by the emergency. -/
theorem witness_LevelChanges_lines :
    (let s := (cooling 5).setHanded [.level .run (.esq .e1) false];
        s.awake = true ∧ s.fitted .e1 = true ∧ s.handed = [] ++ .level .run (.esq .e1) false :: [] ∧
          (s.eng .e1).state = .cooldown ∧ (s.eng .e1).stopReason = some .shed) ∧
      (let s := (runningUp 0).setHanded [.level .run (.esq .e1) false];
        s.handed = [] ++ .level .run (.esq .e1) false :: [] ∧ (s.eng .e1).state.startPath = true ∧
          s.limits.run.get .e1 = false) ∧
      (let s := (cab.setLic { cab.lic with emergency := ⟨true, 0, false⟩ }).setHanded [.level .emergency (.esq .e1) true];
        s.awake = true ∧ s.fitted .e1 = true ∧ s.handed = [] ++ .level .emergency (.esq .e1) true :: [] ∧
          (s.eng .e1).state = .stopped ∧ s.emergency = true) := by decide +kernel

/-- Its table is good. -/
theorem witness_LevelChanges_tableGood : ((runningUp 0).setHanded [.level .run (.esq .e1) false]).tableGood :=
  tableGood_of _ (by decide +kernel) (by decide +kernel) (by decide +kernel)

/-- The part sharing its supply, with its line in a state and a crank supply. -/
def sharing (line : LineState) (queue : List Engine) (holder : Option Engine) (phase : Phase) (granted : Bool) : State :=
  ((backedOff [] 0).setCar ⟨queue, holder, phase, none, line, none⟩).setHanded [.level .gnt .car granted]

/-- LEVEL_CHANGE, the grant: seen in ASKING with a decision that grants and one that does not, withdrawn with a holder and
without, and of no effect. -/
theorem witness_LevelChanges_grant :
    (let s := sharing .asking [.e2] none .idle true;
        s.awake = true ∧ s.handed = [] ++ .level .gnt .car true :: [] ∧ s.cfg.arbiter.sharing = .shared ∧
          s.car.line = .asking ∧ s.car.phase = .idle ∧
          s.car.queue.find? (fun j => !s.limits.inhibit.get j) = some .e2) ∧
      ((sharing .asking [.e2] (some .e1) .granted true).car.phase ≠ .idle) ∧
      (∀ j ∈ (sharing .asking [] none .idle true).car.queue,
        (sharing .asking [] none .idle true).limits.inhibit.get j = true) ∧
      (let s := sharing .held [] (some .e1) .granted false;
        s.handed = [] ++ .level .gnt .car false :: [] ∧ s.car.line = .held ∧ s.car.holder.isSome = true) ∧
      ((sharing .held [] none .idle false).car.line = .held ∧ (sharing .held [] none .idle false).car.holder = none) ∧
      ((sharing .quiet [] none .idle true).car.line ≠ .asking ∧ (sharing .asking [] none .idle false).car.line ≠ .held) := by
  decide +kernel

/-- LEVEL_CHANGE, the lube switch opened: ONLINE, held in PRELUBE, and STOPPED. -/
theorem witness_LevelChanges_lubeOpened :
    (let s := (climbing 3 0).setHanded [.level (.lube .e1) (.esq .e1) false];
        s.awake = true ∧ s.fitted .e1 = true ∧ s.handed = [] ++ .level (.lube .e1) (.esq .e1) false :: [] ∧
          (s.eng .e1).state = .online) ∧
      (let s := heldBeforeCrank.setHanded [.level (.lube .e1) (.esq .e1) false];
        s.handed = [] ++ .level (.lube .e1) (.esq .e1) false :: [] ∧ (s.eng .e1).state = .prelube ∧
          (s.eng .e1).held = true) ∧
      (let s := cab.setHanded [.level (.lube .e1) (.esq .e1) false];
        (s.eng .e1).state = .stopped ∧ (s.eng .e1).held = false) := by decide +kernel

/-- LEVEL_CHANGE, the lube switch made: PRELUBE without and with the hold point and held, RUNUP with the online test and held,
and STOPPED. -/
theorem witness_LevelChanges_lubeMade :
    (let s := (prelubed 62).setHanded [.level (.lube .e1) (.esq .e1) true];
        s.awake = true ∧ s.fitted .e1 = true ∧ s.handed = [] ++ .level (.lube .e1) (.esq .e1) true :: [] ∧
          (s.eng .e1).state = .prelube ∧ (s.eng .e1).held = false ∧ (s.eng .e1).holdPoint ≠ .beforeCrank) ∧
      (let s := e1As { EngineRec.blank .prelube with holdPoint := .beforeCrank, prelubeTimer := some 4 };
        (s.eng .e1).state = .prelube ∧ (s.eng .e1).held = false ∧ (s.eng .e1).holdPoint = .beforeCrank) ∧
      ((heldBeforeCrank.eng .e1).state = .prelube ∧ (heldBeforeCrank.eng .e1).held = true) ∧
      (let s := heldBeforeOnline.setEng .e1 { EngineRec.blank .runup with attempts := 2 };
        (s.eng .e1).state = .runup ∧ (s.eng .e1).held = false ∧ s.onlineTest .e1 = true ∧
          (s.eng .e1).holdPoint ≠ .beforeOnline) ∧
      (let s := heldBeforeOnline.setEng .e1 { EngineRec.blank .runup with holdPoint := .beforeOnline };
        (s.eng .e1).held = false ∧ s.onlineTest .e1 = true ∧ (s.eng .e1).holdPoint = .beforeOnline) ∧
      ((heldBeforeOnline.eng .e1).state = .runup ∧ (heldBeforeOnline.eng .e1).held = true ∧
        (runningUp 0).onlineTest .e1 = false) ∧
      ((cab.eng .e1).state ≠ .prelube ∧ (cab.eng .e1).state ≠ .runup) := by decide +kernel

/-- LIMITS_CHANGED: a stop demand newly holding on a SHED cooldown and on a start; a run demand on a STOPPED engine that
admission lets start and on one that it does not, and no run demand; and a run demand newly holding on a SHED stop pending. -/
theorem witness_LimitsChanged_more :
    (let s := (after (cooling 5) (.post op 5 1 0 0 0)).setHanded [.limits (.esq .e1) true false];
        s.awake = true ∧ s.fitted .e1 = true ∧ s.handed = [] ++ .limits (.esq .e1) true false :: [] ∧
          s.limits.stop.get .e1 = true ∧ (s.eng .e1).state = .cooldown ∧ (s.eng .e1).stopReason = some .shed) ∧
      (let s := (after (runningUp 0) (.post op 5 1 0 0 0)).setHanded [.limits (.esq .e1) true false];
        s.limits.stop.get .e1 = true ∧ (s.eng .e1).state.startPath = true) ∧
      (let s := (after cab (.post op 4 1 0 0 0)).setHanded [.limits (.esq .e1) false true];
        s.awake = true ∧ s.fitted .e1 = true ∧ s.handed = [] ++ .limits (.esq .e1) false true :: [] ∧
          (s.eng .e1).state = .stopped ∧ s.limits.run.get .e1 = true ∧ s.admits .e1 = true ∧
          (s.setLic licReset).limits.run.get .e1 = true ∧ (s.setLic licReset).admits .e1 = false) ∧
      cab.limits.run.get .e1 = false ∧
      (let s := after (e1As { onlineRec with stopPending := true, stopReason := some .shed }) (.post op 4 1 0 0 0);
        s.limits.run.get .e1 = true ∧ s.limits.stop.get .e1 = false ∧ (s.eng .e1).state = .online ∧
          (s.eng .e1).stopPending = true ∧ (s.eng .e1).stopReason = some .shed) := by decide +kernel

/-- Their tables are good. -/
theorem witness_LimitsChanged_tableGood :
    (after (cooling 5) (.post op 5 1 0 0 0)).tableGood ∧ (after (runningUp 0) (.post op 5 1 0 0 0)).tableGood :=
  ⟨tableGood_of _ (by decide +kernel) (by decide +kernel) (by decide +kernel),
    tableGood_of _ (by decide +kernel) (by decide +kernel) (by decide +kernel)⟩

/-- The scope of a post: the locomotive for a cap and for a ceiling, a cap over engines, 16 and 0, an engine dropped at 15,
none fitted, and none dropped at 7. -/
theorem witness_Post_scope :
    cab.checkScope .powerCap 0x80 = some (.locomotive, false) ∧ cab.checkScope .powerCap 1 = none ∧
      ((16 : Byte).toNat = 16 ∧ (15 : Byte).toNat < 16) ∧
      (PerEngine.of (fun k => (15 : Byte).getLsbD (k.number - 1) && cab.fitted k) = ⟨true, true, true, false⟩ ∧
        (15 : Byte).getLsbD (Engine.e4.number - 1) = true ∧ cab.fitted .e4 = false) ∧
      (∀ k ∈ Engine.all, (PerEngine.of fun k => (8 : Byte).getLsbD (k.number - 1) && cab.fitted k).get k = false) ∧
      (∀ k ∈ Engine.all, (7 : Byte).getLsbD (k.number - 1) = true → cab.fitted k = true) := by decide +kernel

/-- An entry of each kind, with its value where it has one. -/
theorem witness_ReadRequests_binding :
    ((Entry.mk (.external 3) .notchCeiling (.engines (only .e3)) (some 5) none).covers .e3 = true ∧
        posted.fitted .e3 = true ∧ posted.limits.ceiling.get .e3 = 5) ∧
      (let s := after cab (.post op 2 0x80 1 900 0);
        s.limits.cap = some 900 ∧ 900 < s.lp 8) ∧
      ((Entry.mk (.external 3) .stopDemand (.engines (only .e1)) none none).kind = .stopDemand ∧
        ((climbing 0 0).eng .e1).state ≠ .stopped) := by decide +kernel

/-- A start timer complete before the count, with a start in progress and with none; a shed timer complete. -/
theorem witness_PlannerCount_complete :
    (dwelt.awake = true ∧ dwelt.startCondition = true ∧ dwelt.minimumClause = false ∧ dwelt.shedCondition = false ∧
        dwelt.plan.startTimer = some 50 ∧ dwelt.cfg.staging.startDwell ≤ 50 ∧ dwelt.stagingEngine = none ∧
        dwelt.valid = true ∧ dwelt.writing = false ∧ dwelt.emergency = false ∧ dwelt.recallCandidates = [] ∧
        dwelt.newStartCandidates = [.e2, .e3] ∧ dwelt.runSeconds .e2 = dwelt.runSeconds .e3) ∧
      (let s := dwelt.setLic { dwelt.lic with emergency := ⟨true, 0, false⟩ };
        s.startCondition = true ∧ s.minimumClause = false ∧ s.plan.startTimer = some 50 ∧ s.emergency = true) ∧
      (let s := dwelt.setEng .e2 { EngineRec.blank .cooldown with stopReason := some .shed };
        s.startCondition = true ∧ s.minimumClause = false ∧ s.recallCandidates = [.e2] ∧ s.stagingEngine = none) ∧
      (shedding.awake = true ∧ shedding.shedCondition = true ∧ shedding.startCondition = false ∧
        shedding.plan.shedTimer = some 600 ∧ shedding.cfg.staging.shedDwell ≤ 600 ∧
        shedding.plan.candidate = some .e2 ∧ shedding.valid = true ∧
        (shedding.setCfs { shedding.cfs with marks := .same false }).valid = false) := by decide +kernel

/-- A re-plan handed with the start dwell complete, and one with the shed dwell complete, with the candidate kept and with
the candidate chosen afresh. -/
theorem witness_Dwells_replan :
    (let s := dwelt.setHanded [.replan .demand];
        s.awake = true ∧ s.handed = [] ++ .replan .demand :: [] ∧ (after s .replan).capacityClause = true ∧
          s.cfg.staging.startDwell ≤ s.plan.startTimer.getD 0 ∧ s.stagingEngine = none ∧ s.valid = true ∧
          s.recallCandidates = [] ∧ s.newStartCandidates = [.e2, .e3]) ∧
      (let s := shedding.setHanded [.replan .demand];
        s.handed = [] ++ .replan .demand :: [] ∧ s.plan.candidate = some .e2 ∧
          (after s .replan).plan.online.get .e2 = true ∧ s.limits.run.get .e2 = false ∧
          (after s .replan).plan.candidate = some .e2 ∧ (after s .replan).shedCondition = true ∧
          s.cfg.staging.shedDwell ≤ s.plan.shedTimer.getD 0) ∧
      (let s := shedding.setHanded [.replan .limits];
        s.handed = [] ++ .replan .limits :: []) := by decide +kernel

/-- The selected pickup of an engine at rest, by its reading. -/
theorem witness_Admission_reading :
    ((if (cab.sense .e1).selection = .a then (cab.sense .e1).a else (cab.sense .e1).b) = quietPickup ∧
        quietPickup.reading = .silent ∧ 0 < cab.cfg.thresholds.stopped) ∧
      (let s := turning cab 4;
        (if (s.sense .e1).selection = .a then (s.sense .e1).a else (s.sense .e1).b).reading = .good 40 false ∧
          40 < s.cfg.thresholds.stopped) := by decide +kernel

/-- E1 CRANKING as the holder with E2 queued: a good queue under a safe supply. -/
def waiting : State :=
  ((cranking 3 0).setEng .e2 (.blank .crankWait)).setCar ⟨[.e2], some .e1, .granted, none, .quiet, none⟩

theorem witness_StepKeepsCrankSafe_queue : waiting.crankSafe ∧ waiting.queueGood ∧ waiting.writeResting := by
  refine ⟨⟨allEngines (by decide +kernel), by decide +kernel⟩, ⟨by decide +kernel, allEngines (by decide +kernel)⟩, fun h => ?_⟩
  have : waiting.writing = false := by decide +kernel
  rw [this] at h
  cases h

/-- A write in flight over three engines at rest. -/
theorem witness_StepKeepsCrankSafe_writing :
    (after cab (.writeConfig sup 1 [4, 120])).writing = true ∧ (after cab (.writeConfig sup 1 [4, 120])).writeResting := by
  refine ⟨by decide +kernel, fun _ => allEngines (by decide +kernel)⟩

/-- A speed report above the overspeed trip, at the limit and one above it, in ONLINE; on the pickup a degraded engine does
not use; and at the first update. -/
theorem witness_SpeedReport_overspeed :
    (let s := turning (climbing 3 0) 201;
        s.awake = true ∧ s.fitted .e1 = true ∧ (s.eng .e1).state = .online ∧ s.formed .e1 .a = .good 2010 false ∧
          (s.formed .e1 .a).over s.cfg.thresholds.overspeed = true) ∧
      ((turning (climbing 3 0) 200).formed .e1 .a).over (turning (climbing 3 0) 200).cfg.thresholds.overspeed = false ∧
      ((onB 201 20).sense .e1).selection = .b ∧ ((onB 201 20).formed .e1 .a).over (onB 201 20).cfg.thresholds.overspeed = true ∧
      (let s := (e1In .cranking).setSense .e1 { Sensing.reset with a := ⟨900, 0, 0, 0, 0, .notMeasured⟩ };
        (s.sense .e1).a.reading = .notMeasured ∧ s.formed .e1 .a = .good 2250 false) ∧
      (Reading.good 2000 false).over 2000 = false ∧ (Reading.good 3000 true).over 3000 = true := by decide +kernel

/-- Its table is good, with the engine in RUNUP and both pickups silent too. -/
theorem witness_SpeedReport_overspeed_tableGood :
    (turning (climbing 3 0) 201).tableGood ∧ (turning (runningUp 0) 20).tableGood :=
  ⟨tableGood_of _ (by decide +kernel) (by decide +kernel) (by decide +kernel),
    tableGood_of _ (by decide +kernel) (by decide +kernel) (by decide +kernel)⟩

/-- A fire of a cold engine not yet warmed, of one at the warm threshold and of one with no reading. -/
theorem witness_SpeedReport_fire :
    (let s := (turning (cranking 3 40) 25).setSense .e1 { (turning (cranking 3 40) 25).sense .e1 with coolant := some 49 };
        (s.eng .e1).state = .cranking ∧ s.car.holder = some .e1 ∧ (s.sense .e1).warmed = false ∧
          (s.sense .e1).sensorGood = true ∧ (s.sense .e1).coolant = some 49 ∧ (49 : Int) < s.cfg.thresholds.warm ∧
          s.cfg.thresholds.warm ≤ (50 : Int) ∧ s.stands .warmup .e1 = false) ∧
      ((turning (cranking 3 40) 25).sense .e1).coolant = none := by decide +kernel

/-- RUNUP: a false start with two attempts and with one; the online test holding at its edge, without and with the hold
point, and not holding one below it, held, and without lube. -/
theorem witness_SpeedReport_runup :
    (let s := turning (runningUp 0) 20;
        (s.eng .e1).state = .runup ∧ (s.eng .e1).attempts = 3 ∧ s.reportedSpeed .e1 = 200 ∧
          s.formed .e1 .a ≠ .silent ∧ 200 < s.cfg.thresholds.fireSpeed) ∧
      (((turning (e1As { EngineRec.blank .runup with attempts := 1 }) 20).eng .e1).attempts = 1) ∧
      (let s := windows (runningUp 0) quietPickup ⟨0, 0, 3, 3, 3, .good 90 false⟩;
        s.formed .e1 .b = .good 22 false ∧ s.reportedSpeed .e1 = 0 ∧ 0 < s.cfg.thresholds.fireSpeed) ∧
      (let s := heldBeforeOnline.setEng .e1 { EngineRec.blank .runup with attempts := 2 };
        (s.eng .e1).held = false ∧ s.lubeMade .e1 = true ∧ readingOf (4 * 84) s.cfg.roster.teeth = .good 840 false ∧
          s.enRpm 0 ≤ 840 + s.cfg.thresholds.idleBand ∧ 839 + s.cfg.thresholds.idleBand < s.enRpm 0 ∧
          (s.eng .e1).holdPoint ≠ .beforeOnline) ∧
      ((heldBeforeOnline.eng .e1).held = true ∧ (turning (runningUp 0) 85).lubeMade .e1 = false) := by decide +kernel

/-- Reports of no effect: ONLINE, CRANKING below fire speed, STOPPING at the stopped threshold. -/
theorem witness_SpeedReport_noEffect :
    ((turning (climbing 3 0) 100).eng .e1).state = .online ∧
      (24 * 10 < (turning (cranking 3 40) 24).cfg.thresholds.fireSpeed ∧
        ((turning (cranking 3 40) 24).eng .e1).state = .cranking) ∧
      ((turning (e1In .stopping) 5).cfg.thresholds.stopped ≤ 50 ∧ ((turning (e1In .stopping) 5).eng .e1).state = .stopping) := by
  decide +kernel

/-- A request of an unknown code, and rows of the catalogue. -/
theorem witness_CommonChecks_catalogue :
    requestWellFormed ⟨0x33, 0, 0, []⟩ = false ∧ requestWellFormed ⟨0x31, 0, 15, [1, 4, 120]⟩ = true ∧
      (catalogueRow 0x31).isSome = true ∧ (catalogueRow 0x33).isSome = false := by decide +kernel

/-- A section that fails a cross-check alone, one that passes, and items of one byte and two. -/
theorem witness_ConfigRead_crossCheck :
    ([50, 60, 0, 50, 2, 88, 1].length = sectionLength .staging ∧
        refusedIndex image .staging [50, 60, 0, 50, 2, 88, 1] = some 2) ∧
      ([4, 120].length = sectionLength .roster ∧ refusedIndex image .roster [4, 120] = none ∧ SectionId.staging ≠ .roster) := by
  decide +kernel

/-- A change of sharing mode written with the supply in ASKING; and thresholds written with WARMUP, PICKUP and BATTERY_LOW
standing. -/
theorem witness_WriteComplete_more :
    (let s := after cab (.writeConfig sup 7 [1, 0, 0, 100, 0, 20]);
        s.awake = true ∧ s.cfs.write = some (.arbiter { sharing := .shared }) ∧ (after s .writeComplete).valid = true ∧
          (after s .writeComplete).cfg.arbiter.sharing ≠ s.cfg.arbiter.sharing ∧ s.car.queue = [] ∧ s.car.holder = none ∧
          (∀ k ∈ Engine.all, (after s .writeComplete).limits.run.get k = false) ∧
          ∀ k ∈ Engine.all, s.fitted k = true → (s.eng k).state.resting = true) ∧
      (let s := after (warming.postInternal .pickup .e2) (.writeConfig sup 1 [4, 120]);
        (slotAt s.table (internalSlot .warmup .e1)).entry.map (fun e => (e.owner, e.scope)) =
            some (.internal .warmup, .engines (only .e1)) ∧
          (slotAt s.table (internalSlot .pickup .e2)).entry.map (fun e => (e.owner, e.scope)) =
            some (.internal .pickup, .engines (only .e2)) ∧ (after s .writeComplete).fitted .e2 = true) ∧
      (let s := after recovered (.writeConfig sup 1 [4, 120]);
        s.cfs.write.isSome = true ∧ (slotAt s.table 16).entry.map Entry.owner = some (.internal .batteryLow)) := by
  decide +kernel

/-- A RESTART standing, with a request frame completed and one unserved. -/
theorem witness_Restart_silent :
    let s := after (serving (received cab (.readStatus sup)) (.restart sup)) (.restart sup);
    s.awake = true ∧ s.cli.restarting = true ∧ s.cli.completed.length = 1 := by decide +kernel

/-- A part sharing its supply, with a crank gap, the park option or not, and E1 with a record. -/
def shared (r : EngineRec) (gap : Nat) (park : Bool) (car : Car) : State :=
  ((cab.setCfs { Cfs.factory with working := { image with arbiter := { sharing := .shared, park := park, crankGap := gap } } }).setEng
    .e1 r).setCar car

/-- An engine joining the queue: in SHARED with the line QUIET, and HELD with the phase IDLE; in EXCLUSIVE, granted at once;
and with the phase RECOVERY, not granted. -/
theorem witness_supplyJoined :
    (let s := shared { EngineRec.blank .crankRest with restTimer := some 300 } 5 false Car.reset;
        Engine.e1 ∉ s.car.queue ∧ s.car.holder ≠ some .e1 ∧ s.cfg.arbiter.sharing = .shared ∧ s.car.line = .quiet ∧
          (after s (.restEnd .e1)).car.queue ≠ []) ∧
      (let s := shared (.blank .crankRest) 5 true ⟨[], none, .idle, none, .held, none⟩;
        s.car.phase = .idle ∧ s.car.line = .held ∧
          (s.car.queue ++ [Engine.e1]).find? (fun j => !s.limits.inhibit.get j) = some .e1) ∧
      (Engine.e1 ∉ (resting 300).car.queue ∧ (resting 300).car.holder ≠ some .e1 ∧ (resting 300).car.phase = .idle ∧
        (resting 300).cfg.arbiter.sharing = .exclusive ∧
        ((resting 300).car.queue ++ [Engine.e1]).find? (fun j => !(resting 300).limits.inhibit.get j) = some .e1) ∧
      (recovering 5).car.phase ≠ .idle := by decide +kernel

/-- An engine leaving: the last of the queue in SHARED with the line HELD; from CRANKING with a crank gap and the line
WITHDRAWN; and from CRANKING with no crank gap and another engine queued. -/
theorem witness_supplyLeft :
    (let s := shared (.blank .crankWait) 5 false ⟨[.e1], none, .recovery, some 2, .held, none⟩;
        s.takesFor (.stop sup 1) 1 .e1 = true ∧ (s.eng .e1).state = .crankWait ∧ s.car.queue.Nodup ∧
          s.car.line = .held ∧ (after s (.stop sup 1)).car.queue = [] ∧ (after s (.stop sup 1)).car.holder = none ∧
          (after s (.stop sup 1)).cfg.arbiter.park = false) ∧
      (let s := shared (.blank .cranking) 5 false ⟨[], some .e1, .granted, none, .withdrawn, none⟩;
        s.takesFor (.stop sup 1) 1 .e1 = true ∧ (s.eng .e1).state = .cranking ∧ s.car.holder = some .e1 ∧
          0 < s.cfg.arbiter.crankGap ∧ s.car.line = .withdrawn) ∧
      (let s := shared (.blank .cranking) 0 false ⟨[.e2], some .e1, .granted, none, .held, none⟩;
        s.takesFor (.stop sup 1) 1 .e1 = true ∧ s.car.holder = some .e1 ∧ s.cfg.arbiter.crankGap = 0 ∧
          s.car.queue.find? (fun j => !(after s (.stop sup 1)).limits.inhibit.get j) = some .e2 ∧
          (after s (.stop sup 1)).car.line = .held) := by decide +kernel

/-- A grant released unused in WITHDRAWN, and with another engine queued and the line HELD. -/
theorem witness_GrantTaken_released :
    (let s := (shared (.blank .stopped) 5 false ⟨[], some .e1, .granted, none, .withdrawn, none⟩).setHanded [.grant .e1];
        s.awake = true ∧ s.fitted .e1 = true ∧ s.handed = [] ++ .grant .e1 :: [] ∧ s.car.holder = some .e1 ∧
          (s.eng .e1).state ≠ .crankWait ∧ (s.eng .e1).state ≠ .cranking ∧ s.car.line = .withdrawn) ∧
      (let s := (shared (.blank .stopped) 5 false ⟨[.e2], some .e1, .granted, none, .held, none⟩).setHanded [.grant .e1];
        s.car.holder = some .e1 ∧ s.car.queue.find? (fun j => !s.limits.inhibit.get j) = some .e2 ∧
          (after s (.crankGrantTaken .e1)).car.line = .held) := by decide +kernel

/-- The re-request over with the supply wanted by an engine queued and by one in PRELUBE under the park option, and with the
same engine and no park option. -/
theorem witness_ArbiterTimers_wish :
    (backedOff [.e2] 20).wantsSupply ∧
      (shared (.blank .prelube) 5 true ⟨[], none, .idle, none, .backoff, some 20⟩).wantsSupply ∧
      ¬ (shared (.blank .prelube) 5 false ⟨[], none, .idle, none, .backoff, some 20⟩).wantsSupply := by
  refine ⟨.inl (by decide +kernel), .inr (.inr ⟨by decide +kernel, .e1, by decide +kernel⟩), ?_⟩
  rintro (h | h | ⟨h, -⟩) <;> revert h <;> decide +kernel

/-- The line agrees with the wish in EXCLUSIVE, and in SHARED asking for a queued engine. -/
theorem witness_StepKeepsCrankSafe_line :
    cab.lineGood ∧ (shared (.blank .crankWait) 5 false ⟨[.e1], none, .idle, none, .asking, none⟩).lineGood := by
  refine ⟨⟨fun _ => by decide +kernel, fun h => absurd h (by decide +kernel)⟩, fun h => absurd h (by decide +kernel), fun _ =>
    ⟨fun h => absurd h (by decide +kernel), fun _ => .inl (by decide +kernel), fun h => absurd h (by decide +kernel), by decide +kernel⟩⟩

/-- The isolation condition coming to hold, by ISOLATE and by the switch, in every case of an engine's state; and the flag
as asked already. -/
theorem witness_isolatesTo :
    (switched.awake = true ∧ switched.fitted .e1 = true ∧
        switched.handed = [] ++ .level (.iso .e1) (.esq .e1) true :: [] ∧ switched.level (.iso .e1) = true ∧
        (switched.eng .e1).isoSeen = false ∧ (switched.eng .e1).isoRequest = false ∧ (switched.eng .e1).state = .stopped) ∧
      ((runningUp 3).takesFor (.isolate sup 1) 1 .e1 = true ∧ ((runningUp 3).eng .e1).state.startPath = true ∧
        ((runningUp 3).eng .e1).isoSeen = false ∧ ((runningUp 3).eng .e1).isoRequest = false) ∧
      ((climbing 3 0).takesFor (.isolate sup 1) 1 .e1 = true ∧ ((climbing 3 0).eng .e1).state = .online ∧
        ((climbing 3 0).eng .e1).stopPending = false) ∧
      ((cooling 3).takesFor (.isolate sup 1) 1 .e1 = true ∧ ((cooling 3).eng .e1).stopReason = some .shed ∧
        ((e1As { EngineRec.blank .cooldown with stopReason := some .runOff }).eng .e1).stopReason ≠ some .shed) ∧
      ((tripped .noStart).takesFor (.isolate sup 1) 1 .e1 = true ∧ ((tripped .noStart).eng .e1).state = .tripped) ∧
      (let s := e1As { EngineRec.blank .isolated with isoSeen := true, isoRequest := true };
        s.takesFor (.isolate sup 1) 1 .e1 = true ∧ (s.eng .e1).isoRequest = true) := by decide +kernel

/-- E1 ISOLATED by its flag and its switch open, with a run demand in force. -/
def isolatedWanted : State :=
  after (e1As { EngineRec.blank .isolated with isoSeen := true, isoRequest := true }) (.post op 4 1 0 0 0)

/-- The isolation condition clearing, by RESTORE and by the switch, with a run demand that admission lets start the engine and
without; and on an engine that is neither ISOLATED nor STOPPED. -/
theorem witness_returnsTo :
    (isolatedWanted.takesFor (.restore sup 1) 1 .e1 = true ∧ (isolatedWanted.eng .e1).isoRequest = true ∧
        (isolatedWanted.eng .e1).isoSeen = true ∧ isolatedWanted.level (.iso .e1) = false ∧
        (isolatedWanted.eng .e1).state = .isolated ∧ isolatedWanted.limits.run.get .e1 = true ∧
        (isolatedWanted.setEng .e1 { isolatedWanted.eng .e1 with isoRequest := false, isoSeen := false }).admits .e1 = true) ∧
      (let s := (e1As { EngineRec.blank .isolated with isoSeen := true }).setHanded [.level (.iso .e1) (.esq .e1) false];
        s.awake = true ∧ s.fitted .e1 = true ∧ s.handed = [] ++ .level (.iso .e1) (.esq .e1) false :: [] ∧
          s.level (.iso .e1) = false ∧ (s.eng .e1).isoRequest = false ∧ (s.eng .e1).isoSeen = true ∧
          s.limits.run.get .e1 = false) ∧
      (let s := e1As { EngineRec.blank .cooldown with isoSeen := true, isoRequest := true, stopReason := some .isolation };
        s.takesFor (.restore sup 1) 1 .e1 = true ∧ (s.eng .e1).state ≠ .isolated ∧ (s.eng .e1).state ≠ .stopped) := by
  decide +kernel

/-- Their tables are good. -/
theorem witness_isolation_tableGood : switched.tableGood ∧ isolatedWanted.tableGood :=
  ⟨tableGood_of _ (by decide +kernel) (by decide +kernel) (by decide +kernel),
    tableGood_of _ (by decide +kernel) (by decide +kernel) (by decide +kernel)⟩

/-- A run demand in force at a STOPPED engine when the run line is seen asserted and the emergency line cleared, admitted and
not; changes of no effect; and a run line seen dropped by a TRIPPED engine and by one with a stop pending. -/
theorem witness_LevelChanges_runDemand :
    (let s := (after cab (.post op 4 1 0 0 0)).setHanded [.level .run (.esq .e1) true];
        s.awake = true ∧ s.fitted .e1 = true ∧ s.handed = [] ++ .level .run (.esq .e1) true :: [] ∧
          (s.eng .e1).state = .stopped ∧ s.limits.run.get .e1 = true ∧ s.admits .e1 = true ∧
          (s.setLic licReset).admits .e1 = false) ∧
      (let s := (after cab (.post op 4 1 0 0 0)).setHanded [.level .emergency (.esq .e1) false];
        s.handed = [] ++ .level .emergency (.esq .e1) false :: [] ∧ s.admits .e1 = true) ∧
      ((runningUp 3).eng .e1).state ≠ .stopped ∧ ((tripped .noStart).eng .e1).state = .tripped ∧
      (let s := e1As { onlineRec with stopPending := true, stopReason := some .request };
        (s.eng .e1).state = .online ∧ (s.eng .e1).stopPending = true ∧ (s.eng .e1).stopReason ≠ some .shed) := by
  decide +kernel

/-- A trip acknowledged with a run demand that admission lets start the engine. -/
theorem witness_AckTrip_runDemand :
    let s := after (tripped .lowLube) (.post op 4 1 0 0 0);
    s.takesFor (.ackTrip sup 1) 1 .e1 = true ∧ (s.eng .e1).state = .tripped ∧ s.atRest .e1 = true ∧
      s.isoCond .e1 = false ∧ s.limits.run.get .e1 = true ∧ s.admits .e1 = true := by decide +kernel

/-- A SHED order at an engine with a run demand, at one with SHED held, and at one CRANKING. -/
theorem witness_StopOrder_shedDiscarded :
    (let s := (after (climbing 3 0) (.post op 4 1 0 0 0)).setHanded [.stopOrder .e1 .shed];
        s.awake = true ∧ s.fitted .e1 = true ∧ s.handed = [] ++ .stopOrder .e1 .shed :: [] ∧
          s.limits.run.get .e1 = true) ∧
      ((cooling 5).eng .e1).stopReason = some .shed ∧ ((cooling 5).eng .e1).state ≠ .online ∧
      ((cranking 3 0).eng .e1).state ≠ .online := by decide +kernel

/-- The tables of the STOPPED engines at a speed update are good. -/
theorem witness_SpeedFormed_tableGood :
    unmeasured.tableGood ∧ (turning cab 25).tableGood ∧ (sensed fun _ => .reset).tableGood :=
  ⟨tableGood_of _ (by decide +kernel) (by decide +kernel) (by decide +kernel),
    tableGood_of _ (by decide +kernel) (by decide +kernel) (by decide +kernel),
    tableGood_of _ (by decide +kernel) (by decide +kernel) (by decide +kernel)⟩

/-- E1 on the start path with a run demand in force. -/
def wanted (r : EngineRec) : State := after (e1As r) (.post op 4 1 0 0 0)

/-- A start ended by STOP and by the run line, with a run demand that admission lets start the engine again and one it does
not. -/
theorem witness_StopEndsStartPath_runDemand :
    (let s := wanted { EngineRec.blank .prelube with attempts := 3, prelubeTimer := some 4 };
        s.takesFor (.stop sup 1) 1 .e1 = true ∧ (s.eng .e1).state = .prelube ∧ s.limits.run.get .e1 = true ∧
          s.admits .e1 = true ∧ (s.setLic licReset).admits .e1 = false ∧
          (s.setLic licReset).takesFor (.stop sup 1) 1 .e1 = true) ∧
      (let s := (wanted { EngineRec.blank .crankRest with attempts := 2, restTimer := some 0 }).setHanded
          [.level .run (.esq .e1) false];
        s.awake = true ∧ s.fitted .e1 = true ∧ s.handed = [] ++ .level .run (.esq .e1) false :: [] ∧
          (s.eng .e1).state = .crankRest ∧ s.limits.run.get .e1 = true ∧ s.admits .e1 = true ∧
          (s.setLic licReset).admits .e1 = false) := by decide +kernel

/-- Their tables are good. -/
theorem witness_StopEndsStartPath_runDemand_tableGood :
    (wanted { EngineRec.blank .prelube with attempts := 3, prelubeTimer := some 4 }).tableGood ∧
      (wanted { EngineRec.blank .crankRest with attempts := 2, restTimer := some 0 }).tableGood :=
  ⟨tableGood_of _ (by decide +kernel) (by decide +kernel) (by decide +kernel),
    tableGood_of _ (by decide +kernel) (by decide +kernel) (by decide +kernel)⟩

/-- A STOP in PRELUBE under a run demand: the engine comes to rest and its next start begins at full attempts and 0 s; with the
run line off it stays STOPPED (R72, R91, R92). -/
theorem test_stop_runDemand :
    (let r := (after (wanted { EngineRec.blank .prelube with attempts := 2, prelubeTimer := some 4 }) (.stop sup 1)).eng .e1;
        r.state = .prelube ∧ r.attempts = 3 ∧ r.prelubeTimer = some 0 ∧ r.startReason = some .runDemand) ∧
      ((after ((wanted { EngineRec.blank .prelube with attempts := 2 }).setLic licReset) (.stop sup 1)).eng .e1).state =
        .stopped := by decide +kernel

/-- A faulted sample with HOT standing and with WARMUP standing. -/
theorem witness_CoolantSample_slots :
    cooled.stands .hot .e1 = true ∧ cooled.awake = true ∧ cooled.fitted .e1 = true ∧ warming.stands .warmup .e1 = true ∧
      warming.stands .hot .e1 = false := by decide +kernel

/-- The trip that brings the consecutive failures to the lockout count. -/
theorem witness_DutyCountersAdvance_lockout :
    failing.stands .lockout .e1 = false ∧ (after failing (.countedEvent .e1)).stands .lockout .e1 = true := by decide +kernel

/-- Roles at the first and last origin, of a valid and of an invalid configuration. -/
theorem witness_CommonChecks_roles :
    (cab.valid = true ∧ (15 : Byte).toNat ≤ 15 ∧ cab.role 3 = .operator ∧ cab.role 0 = .supervisor) ∧
      (let s := cab.setCfs { cab.cfs with marks := { Marks.same true with origins := false } };
        s.valid = false ∧ s.role 3 = .none ∧ s.role 0 = .supervisor) := by decide +kernel

/-- Filter bytes above the last code. -/
theorem witness_ReadRequests_filters :
    5 < (6 : Byte).toNat ∧ 4 < (5 : Byte).toNat ∧ (15 : Byte).toNat ≤ 15 ∧ 16 < (17 : Byte).toNat ∧ (17 : Byte) ≠ 0xFF := by
  decide +kernel

/-- A RESTART standing with two responses waiting, the head with an intake place and without one. -/
theorem witness_Restart_responses :
    (let s := cab.setCli { cab.cli with
          restarting := true
          responses := [⟨0x22, 2, .ok, [], true⟩, ⟨0x32, 3, .ok, [], true⟩]
          intake := [⟨⟨0x22, 2, 0, []⟩, true⟩, ⟨⟨0x32, 3, 0, []⟩, true⟩] };
        s.awake = true ∧ s.cli.restarting = true ∧
          s.cli.responses = ⟨0x22, 2, .ok, [], true⟩ :: ⟨0x32, 3, .ok, [], true⟩ :: [] ∧
          s.cli.intake = [] ++ ⟨⟨0x22, 2, 0, []⟩, true⟩ :: [⟨⟨0x32, 3, 0, []⟩, true⟩]) ∧
      (let s := cab.setCli { cab.cli with
          restarting := true, responses := [⟨0x22, 2, .busy, [], false⟩, ⟨0x32, 3, .ok, [], true⟩] };
        s.awake = true ∧ s.cli.restarting = true ∧
          s.cli.responses = ⟨0x22, 2, .busy, [], false⟩ :: ⟨0x32, 3, .ok, [], true⟩ :: []) := by decide +kernel

/-- A write under a run demand that it lets start E1, with a LOCOMOTIVE entry and LOCKOUT of E2 standing; and one with E2's
failures at the count and no LOCKOUT. -/
theorem witness_WriteComplete_runDemand :
    (let s := run (cab.postInternal .lockout .e2)
          [.post op 4 1 0 0 0, .post op 2 0x80 1 900 0, .writeConfig sup 1 [4, 120]];
        s.awake = true ∧ s.cfs.write = some (.roster ⟨4, 120⟩) ∧ (after s .writeComplete).valid = true ∧
          s.fitted .e1 = true ∧ (after s .writeComplete).fitted .e1 = true ∧ (s.eng .e1).state = .stopped ∧
          (after s .writeComplete).limits.run.get .e1 = true ∧ ((after s .writeComplete).eng .e1).state = .prelube ∧
          (slotAt s.table 18).entry.map (fun e => (e.owner, e.scope)) = some (.external 3, .locomotive) ∧
          (slotAt s.table 7).entry.map (fun e => (e.owner, e.scope, e.value)) =
            some (.internal .lockout, .engines (only .e2), none) ∧
          (slotAt s.table 3).entry = none ∧ s.table.length = 49) ∧
      (let s := after (cab.setDuty .e2 (.begin { DutyRecord.zero with consecutive := 3 } true)) (.writeConfig sup 1 [4, 120]);
        s.cfs.write = some (.roster ⟨4, 120⟩) ∧ (after s .writeComplete).valid = true ∧
          (after s .writeComplete).fitted .e2 = true ∧ s.stands .lockout .e2 = false ∧
          (after s .writeComplete).cfg.thresholds.lockoutCount ≤ ((after s .writeComplete).dutyOf .e2).stored.consecutive) := by
  decide +kernel

/-- Readers of the reports: a speed in two bytes, FFFFh not yet measured; an engine number, 0 for none; a coolant reading below
zero; and a phase in RECOVERY with its gap timer. -/
theorem witness_ReportsAnswered_fields :
    (speedBytes (Reading.speed .notMeasured) = [0xFF, 0xFF] ∧ speedBytes (Reading.speed .silent) = [0, 0] ∧
        ∀ v sat, speedBytes (Reading.speed (.good v sat)) = be16 v) ∧
      (engineCode none = 0 ∧ ∀ k, engineCode (some k) = byte k.number) ∧
      (((sensed fun x => { x with coolant := some (-40) }).sense .e1).coolant = some (-40) ∧ (-32768 : Int) ≤ -40) ∧
      ((recovering 5).car.phase = .recovery ∧ (recovering 5).car.gapTimer = some 5) :=
  ⟨⟨by decide +kernel, by decide +kernel, fun _ _ => rfl⟩, ⟨rfl, fun _ => rfl⟩, by decide +kernel, by decide +kernel⟩

/-- The bytes of a section of the report, by hand from R183: a STOPPED engine at rest and never started. -/
theorem test_readEngine_bytes : (told (after cab (.readEngine sup 1))).map (fun x => (x.2.take 8, x.2.drop 29)) =
    some ([2, 0, 0, 0, 0, 0, 0, 0], [0, 0, 2, 0, 0, 0, 2, 0, 1, 0, 0, 0, 0, 0, 0x7F, 0xFF, 1, 0, 0]) := by decide +kernel

/-- The status report by hand from R184, from the occupancy on: one engine queued in RECOVERY with 95 of the gap left. -/
theorem test_readStatus_bytes : (told (after (recovering 5) (.readStatus sup))).map (fun x => (x.2.drop 11).take 14) =
    some [0, 3, 0, 1, 2, 0, 0, 0, 0, 95, 0, 1, 0, 0] := by decide +kernel

end Sys2Proof.Tests
end

/-! The resolved limits of a table (2.8, R37, R38): what the least of some values, the ceiling and a demand are, each said
once over any entries, and from these the statement about resolve. -/

namespace Sys2Proof.Machine

/-! ## The least value of a kind -/

theorem least_eq_min? : ∀ ns : List Nat, least ns = ns.min?
  | [] => rfl
  | n :: ns => by
    rw [least, least_eq_min? ns, List.min?_cons]
    cases ns.min? <;> rfl

theorem mem_valuesOf {es : List Entry} {kind : Kind} {v : Nat} :
    v ∈ valuesOf es kind ↔ ∃ e ∈ es, e.kind = kind ∧ e.value = some v := by
  simp [valuesOf, and_assoc]

theorem least_valuesOf_eq_some_iff {es : List Entry} {kind : Kind} {c : Nat} :
    least (valuesOf es kind) = some c ↔ (∃ e ∈ es, e.kind = kind ∧ e.value = some c) ∧
      ∀ e v, e ∈ es → e.kind = kind → e.value = some v → c ≤ v := by
  have lower : (∀ v ∈ valuesOf es kind, c ≤ v) ↔ ∀ e v, e ∈ es → e.kind = kind → e.value = some v → c ≤ v :=
    ⟨fun h e v he hk hv => h v (mem_valuesOf.mpr ⟨e, he, hk, hv⟩), fun h v hm =>
      have ⟨e, he, hk, hv⟩ := mem_valuesOf.mp hm
      h e v he hk hv⟩
  rw [least_eq_min?, List.min?_eq_some_iff, mem_valuesOf, lower]

theorem least_valuesOf_eq_none_iff {es : List Entry} {kind : Kind} :
    least (valuesOf es kind) = none ↔ ∀ e ∈ es, e.kind = kind → e.value = none := by
  rw [least_eq_min?, List.min?_eq_none_iff, List.eq_nil_iff_forall_not_mem]
  simp only [mem_valuesOf, Option.eq_none_iff_forall_ne_some]
  exact ⟨fun h e he hk v hv => h v ⟨e, he, hk, hv⟩, fun h v ⟨e, he, hk, hv⟩ => h e he hk v hv⟩

/-! ## The ceiling and the demands of an engine -/

/-- A ceiling is that of the lowest valued NOTCH_CEILING covering the engine, or 8 with no such entry (R37). -/
theorem ceilingOf_spec (es : List Entry) (k : Engine) :
    ((∃ e v, e ∈ es ∧ e.kind = .notchCeiling ∧ e.covers k = true ∧ e.value = some v ∧ ceilingOf es k = v) ∧
        ∀ e v, e ∈ es → e.kind = .notchCeiling → e.covers k = true → e.value = some v → ceilingOf es k ≤ v) ∨
      ((∀ e ∈ es, e.kind = .notchCeiling → e.covers k = true → e.value = none) ∧ ceilingOf es k = 8) := by
  unfold ceilingOf
  cases h : least (valuesOf (es.filter fun e => e.covers k) .notchCeiling) with
  | none =>
    have unvalued := least_valuesOf_eq_none_iff.mp h
    exact .inr ⟨fun e he hk hc => unvalued e (List.mem_filter.mpr ⟨he, hc⟩) hk, rfl⟩
  | some c =>
    obtain ⟨⟨e, he, hk, hv⟩, lower⟩ := least_valuesOf_eq_some_iff.mp h
    obtain ⟨he, hc⟩ := List.mem_filter.mp he
    exact .inl ⟨⟨e, c, he, hk, hc, hv, rfl⟩,
      fun e v he hk hc hv => lower e v (List.mem_filter.mpr ⟨he, hc⟩) hk hv⟩

theorem ceilingOf_le_eight {es : List Entry} (k : Engine)
    (inRange : ∀ e v, e ∈ es → e.value = some v → e.kind = .notchCeiling → v ≤ 8) : ceilingOf es k ≤ 8 := by
  obtain ⟨⟨e, v, he, hk, -, hv, eq⟩, -⟩ | ⟨-, eq⟩ := ceilingOf_spec es k
  · exact eq.trans_le (inRange e v he hv hk)
  · exact eq.le

theorem demanded_iff {es : List Entry} {kind : Kind} {k : Engine} :
    demanded es kind k = true ↔ ∃ e ∈ es, e.kind = kind ∧ e.covers k = true := by
  simp [demanded]

/-! ## Reading the resolved limits -/

@[simp] theorem resolve_ceiling_get (t : List Slot) (k : Engine) :
    (resolve t).ceiling.get k = ceilingOf (liveEntries t) k := PerEngine.get_of _ k

@[simp] theorem resolve_cap (t : List Slot) : (resolve t).cap = least (valuesOf (liveEntries t) .powerCap) := rfl

@[simp] theorem resolve_inhibit_get (t : List Slot) (k : Engine) :
    (resolve t).inhibit.get k = demanded (liveEntries t) .startInhibit k := PerEngine.get_of _ k

@[simp] theorem resolve_stop_get (t : List Slot) (k : Engine) :
    (resolve t).stop.get k = demanded (liveEntries t) .stopDemand k := PerEngine.get_of _ k

/-- A run demand holds while no stop demand does (R38). -/
theorem resolve_run_get_iff (t : List Slot) (k : Engine) :
    (resolve t).run.get k = true ↔ demanded (liveEntries t) .runDemand k = true ∧ (resolve t).stop.get k = false := by
  rw [resolve_stop_get, resolve, PerEngine.get_of, Bool.and_eq_true, Bool.not_eq_true']

/-- Settles O20: the ceiling, the cap and the demands are read off the entries by the lemmas above, and the bounds are those
of the entry that gives the value. -/
theorem limitsResolvedFromLiveEntries : Obligations.LimitsResolvedFromLiveEntries := by
  intro table k
  rw [resolve_run_get_iff]
  simp only [resolve_ceiling_get, resolve_cap, resolve_inhibit_get, resolve_stop_get]
  refine ⟨?ceiling, ?ceilingLe, fun c => least_valuesOf_eq_some_iff, demanded_iff, demanded_iff,
    and_congr_left' demanded_iff, fun inRange => ⟨?ceilingRange, ?capRange⟩⟩
  case ceiling => exact (ceilingOf_spec _ k).imp And.left id
  case ceilingLe =>
    intro e v he hk hc hv
    obtain ⟨-, lower⟩ | ⟨unvalued, -⟩ := ceilingOf_spec (liveEntries table) k
    · exact lower e v he hk hc hv
    · simp [unvalued e he hk hc] at hv
  case ceilingRange => exact ceilingOf_le_eight k fun e v he hv => (inRange e v he hv).2
  case capRange =>
    intro c hc
    obtain ⟨⟨e, he, -, hv⟩, -⟩ := least_valuesOf_eq_some_iff.mp hc
    exact (inRange e c he hv).1

end Sys2Proof.Machine

/-! The plan's allocations and targets (3.7, R59 to R61): the water-filling over any engines in ascending order of capacity,
that order as it is formed, the pairs the plan gives, and from these the statement about a re-plan. -/

namespace Sys2Proof.Machine

/-! ## The equal share -/

/-- The equal share of a remainder among n + 1 engines, rounded up, is within c when c of each would cover it. -/
theorem equalShare_le_iff (p n c : Nat) : (p + n) / (n + 1) ≤ c ↔ p ≤ (n + 1) * c := by
  rw [Nat.div_le_iff_le_mul_add_pred n.succ_pos]
  exact Nat.add_le_add_iff_right

/-- Once an engine has taken its full share, those left can cover the rest with that share each. -/
theorem sub_equalShare_le (p n : Nat) : p - (p + n) / (n + 1) ≤ n * ((p + n) / (n + 1)) := by
  have covered := (equalShare_le_iff p n _).mp le_rfl
  rw [Nat.succ_mul] at covered
  omega

/-- The next equal share is no greater than a full share taken (R59). -/
theorem equalShare_sub_le (p n : Nat) :
    (p - (p + (n + 1)) / (n + 2) + n) / (n + 1) ≤ (p + (n + 1)) / (n + 2) :=
  (equalShare_le_iff _ n _).mpr (sub_equalShare_le p (n + 1))

/-! ## Water-filling -/

theorem waterFill_cons (p : Nat) (k : Engine) (c : Nat) (rest : List (Engine × Nat)) :
    waterFill p ((k, c) :: rest) = (k, min ((p + rest.length) / (rest.length + 1)) c) ::
      waterFill (p - min ((p + rest.length) / (rest.length + 1)) c) rest := rfl

@[simp] theorem waterFill_fst (p : Nat) (xs : List (Engine × Nat)) :
    (waterFill p xs).map Prod.fst = xs.map Prod.fst := by
  induction xs generalizing p with
  | nil => rfl
  | cons x rest ih => rw [waterFill_cons, List.map_cons, List.map_cons, ih]

theorem waterFill_le_caps (p : Nat) (xs : List (Engine × Nat)) :
    List.Forall₂ (fun a b => a.2 ≤ b.2) (waterFill p xs) xs := by
  induction xs generalizing p with
  | nil => exact .nil
  | cons x rest ih => exact .cons (min_le_right _ _) (ih _)

theorem le_cap_of_mem_waterFill {p : Nat} {xs : List (Engine × Nat)} {k : Engine} {a : Nat}
    (h : (k, a) ∈ waterFill p xs) : ∃ c, (k, c) ∈ xs ∧ a ≤ c := by
  induction xs generalizing p with
  | nil => cases h
  | cons x rest ih =>
    obtain ⟨j, c⟩ := x
    rw [waterFill_cons] at h
    obtain h | h := List.mem_cons.mp h
    · cases h
      exact ⟨c, List.mem_cons_self, min_le_right _ _⟩
    · obtain ⟨d, hd, le⟩ := ih h
      exact ⟨d, List.mem_cons_of_mem _ hd, le⟩

/-- In ascending order of capacity, water-filling gives out the lesser of the demand and the capacity: an engine that
takes its full share leaves a rest that the others cover, and one that takes its capacity a rest to go round among them
(R59, R60). -/
theorem waterFill_sum (p : Nat) (xs : List (Engine × Nat)) (ascending : xs.Pairwise fun x y => x.2 ≤ y.2) :
    ((waterFill p xs).map Prod.snd).sum = min p (xs.map Prod.snd).sum := by
  induction xs generalizing p with
  | nil => simp [waterFill]
  | cons x rest ih =>
    obtain ⟨k, c⟩ := x
    obtain ⟨least, ascending⟩ := List.pairwise_cons.mp ascending
    have restCaps : rest.length * c ≤ (rest.map Prod.snd).sum := by
      simpa using (rest.map Prod.snd).card_nsmul_le_sum c (by simpa using fun d j hj => least (j, d) hj)
    have shareLe : (p + rest.length) / (rest.length + 1) ≤ p :=
      (equalShare_le_iff p _ p).mpr (Nat.le_mul_of_pos_left p rest.length.succ_pos)
    have restCovered := sub_equalShare_le p rest.length
    have fits := equalShare_le_iff p rest.length c
    rw [waterFill_cons, List.map_cons, List.map_cons, List.sum_cons, List.sum_cons, ih _ ascending]
    generalize (p + rest.length) / (rest.length + 1) = share at *
    generalize (rest.map Prod.snd).sum = restSum at *
    rw [Nat.succ_mul] at fits
    by_cases full : share ≤ c
    · have := Nat.mul_le_mul_left rest.length full
      have := fits.mp full
      omega
    · have := mt fits.mpr full
      omega

/-! ## The order of filling -/

/-- The order of R59: ascending capacity, ties to the lower number. -/
def fillsBefore (x y : Engine × Nat) : Prop := x.2 < y.2 ∨ (x.2 = y.2 ∧ x.1.number < y.1.number)

theorem insertByCap_perm (x : Engine × Nat) (ys : List (Engine × Nat)) : (insertByCap x ys).Perm (x :: ys) := by
  induction ys with
  | nil => exact .refl _
  | cons y ys ih =>
    rw [insertByCap]
    split
    · exact (ih.cons y).trans (.swap x y ys)
    · exact .refl _

/-- An engine above those in order by its number is inserted in order. -/
theorem insertByCap_pairwise (x : Engine × Nat) (ys : List (Engine × Nat)) (ordered : ys.Pairwise fillsBefore)
    (above : ∀ y ∈ ys, y.1.number < x.1.number) : (insertByCap x ys).Pairwise fillsBefore := by
  induction ys with
  | nil => exact List.pairwise_singleton _ _
  | cons y ys ih =>
    obtain ⟨first, orderedRest⟩ := List.pairwise_cons.mp ordered
    obtain ⟨aboveY, aboveRest⟩ := List.forall_mem_cons.mp above
    rw [insertByCap]
    split
    next le =>
      refine List.pairwise_cons.mpr ⟨fun z hz => ?_, ih orderedRest aboveRest⟩
      obtain rfl | hz := List.mem_cons.mp ((insertByCap_perm x ys).mem_iff.mp hz)
      · exact (Nat.lt_or_eq_of_le le).imp_right fun eq => ⟨eq, aboveY⟩
      · exact first z hz
    next lt =>
      have xFirst : x.2 < y.2 := Nat.lt_of_not_le lt
      refine List.pairwise_cons.mpr ⟨List.forall_mem_cons.mpr ⟨.inl xFirst, fun z hz => .inl ?_⟩, ordered⟩
      exact (first z hz).elim xFirst.trans fun tie => tie.1 ▸ xFirst

theorem foldl_insertByCap_perm (xs acc : List (Engine × Nat)) :
    (xs.foldl (fun acc x => insertByCap x acc) acc).Perm (xs ++ acc) := by
  induction xs generalizing acc with
  | nil => exact .refl _
  | cons x xs ih => exact (ih _).trans (((insertByCap_perm x acc).append_left xs).trans List.perm_middle)

theorem foldl_insertByCap_pairwise (xs acc : List (Engine × Nat)) (ordered : acc.Pairwise fillsBefore)
    (numbered : xs.Pairwise fun x y => x.1.number < y.1.number)
    (above : ∀ x ∈ xs, ∀ y ∈ acc, y.1.number < x.1.number) :
    (xs.foldl (fun acc x => insertByCap x acc) acc).Pairwise fillsBefore := by
  induction xs generalizing acc with
  | nil => exact ordered
  | cons x xs ih =>
    obtain ⟨first, numbered⟩ := List.pairwise_cons.mp numbered
    obtain ⟨aboveX, aboveRest⟩ := List.forall_mem_cons.mp above
    refine ih _ (insertByCap_pairwise x acc ordered aboveX) numbered fun z hz y hy => ?_
    obtain rfl | hy := List.mem_cons.mp ((insertByCap_perm x acc).mem_iff.mp hy)
    · exact first z hz
    · exact aboveRest z hz y hy

theorem orderByCap_perm (xs : List (Engine × Nat)) : (orderByCap xs).Perm xs := by
  simpa [orderByCap] using foldl_insertByCap_perm xs []

theorem orderByCap_pairwise (xs : List (Engine × Nat)) (numbered : xs.Pairwise fun x y => x.1.number < y.1.number) :
    (orderByCap xs).Pairwise fillsBefore :=
  foldl_insertByCap_pairwise xs [] .nil numbered (by simp)

@[simp] theorem mem_members {set : PerEngine Bool} {k : Engine} : k ∈ members set ↔ set.get k = true := by
  simp [members, k.mem_all]

theorem members_ascending (set : PerEngine Bool) : (members set).Pairwise fun a b => a.number < b.number :=
  Engine.all_ascending.filter _

theorem members_nodup (set : PerEngine Bool) : (members set).Nodup :=
  (members_ascending set).imp fun lt eq => lt.ne (congrArg Engine.number eq)

/-- The engines of O with their capacities, as the water-filling meets them (R59). -/
def State.fillOrder (s : State) : List (Engine × Nat) :=
  orderByCap ((members s.plan.online).map fun k => (k, s.plan.caps.get k))

theorem State.allotment_eq (s : State) : s.allotment = waterFill s.plan.p s.fillOrder := rfl

theorem State.mem_fillOrder (s : State) (k : Engine) (c : Nat) :
    (k, c) ∈ s.fillOrder ↔ s.plan.online.get k = true ∧ c = s.plan.caps.get k := by
  rw [State.fillOrder, (orderByCap_perm _).mem_iff]
  simp only [List.mem_map, mem_members, Prod.mk.injEq]
  exact ⟨fun ⟨_, online, rfl, cap⟩ => ⟨online, cap.symm⟩, fun ⟨online, cap⟩ => ⟨k, online, rfl, cap.symm⟩⟩

theorem State.fillOrder_pairwise (s : State) : s.fillOrder.Pairwise fillsBefore :=
  orderByCap_pairwise _ (List.pairwise_map.mpr (members_ascending _))

theorem State.fillOrder_fst_perm (s : State) : (s.fillOrder.map Prod.fst).Perm (members s.plan.online) := by
  simpa [State.fillOrder, Function.comp_def] using
    (orderByCap_perm ((members s.plan.online).map fun k => (k, s.plan.caps.get k))).map Prod.fst

theorem State.fillOrder_caps_sum (s : State) :
    (s.fillOrder.map Prod.snd).sum = ((members s.plan.online).map s.plan.caps.get).sum := by
  simpa [State.fillOrder, Function.comp_def] using
    ((orderByCap_perm ((members s.plan.online).map fun k => (k, s.plan.caps.get k))).map Prod.snd).sum_eq

/-! ## The allocations -/

/-- The allotment holds each engine of O once. -/
theorem State.allotment_fst_perm (s : State) : (s.allotment.map Prod.fst).Perm (members s.plan.online) := by
  rw [s.allotment_eq, waterFill_fst]
  exact s.fillOrder_fst_perm

theorem allotted_of_mem {xs : List (Engine × Nat)} (nodup : (xs.map Prod.fst).Nodup) {k : Engine} {a : Nat}
    (h : (k, a) ∈ xs) : allotted xs k = a := by
  induction xs with
  | nil => cases h
  | cons x xs ih =>
    obtain ⟨fresh, nodup⟩ := List.nodup_cons.mp nodup
    obtain rfl | h := List.mem_cons.mp h
    · simp [allotted]
    · have other : x.1 ≠ k := fun eq => fresh (List.mem_map.mpr ⟨_, h, eq.symm⟩)
      simp [allotted, other, ih nodup h]

theorem State.allotted_allotment (s : State) {k : Engine} {a : Nat} (h : (k, a) ∈ s.allotment) :
    allotted s.allotment k = a :=
  allotted_of_mem (s.allotment_fst_perm.nodup_iff.mpr (members_nodup _)) h

theorem State.plannedPair_of_offline (s : State) {k : Engine} (h : s.plan.online.get k ≠ true) :
    s.plannedPair k = ⟨0, 0⟩ := if_neg h

theorem State.plannedPair_of_online (s : State) {k : Engine} (h : s.plan.online.get k = true) :
    s.plannedPair k = ⟨allotted s.allotment k, s.targetFor k (allotted s.allotment k)⟩ := if_pos h

theorem State.plannedPair_alloc_of_mem (s : State) {k : Engine} {a : Nat} (h : (k, a) ∈ s.allotment) :
    (s.plannedPair k).alloc = a := by
  have online := mem_members.mp (s.allotment_fst_perm.mem_iff.mp (List.mem_map_of_mem h))
  rw [s.plannedPair_of_online online, s.allotted_allotment h]

theorem State.allotted_le_cap (s : State) {k : Engine} (online : s.plan.online.get k = true) :
    allotted s.allotment k ≤ s.plan.caps.get k := by
  obtain ⟨⟨_, a⟩, mem, rfl⟩ := List.mem_map.mp (s.allotment_fst_perm.mem_iff.mpr (mem_members.mpr online))
  obtain ⟨c, hc, le⟩ := le_cap_of_mem_waterFill mem
  rw [s.allotted_allotment mem, ← ((s.mem_fillOrder _ c).mp hc).2]
  exact le

/-- The allocations of all engines are those of the allotment, 0 outside O. -/
theorem State.plannedPair_alloc_sum (s : State) :
    (Engine.all.map fun k => (s.plannedPair k).alloc).sum = (s.allotment.map Prod.snd).sum := by
  have alloc (k : Engine) :
      (s.plannedPair k).alloc = if s.plan.online.get k = true then allotted s.allotment k else 0 := by
    by_cases h : s.plan.online.get k = true
    · rw [s.plannedPair_of_online h, if_pos h]
    · rw [s.plannedPair_of_offline h, if_neg h]
  calc (Engine.all.map fun k => (s.plannedPair k).alloc).sum
      = ((members s.plan.online).map (allotted s.allotment)).sum := by
        simp only [alloc, List.sum_map_ite]
        simp [members]
    _ = ((s.allotment.map Prod.fst).map (allotted s.allotment)).sum := (s.allotment_fst_perm.symm.map _).sum_eq
    _ = (s.allotment.map Prod.snd).sum := by
        rw [List.map_map]
        exact congrArg List.sum (List.map_congr_left fun x hx => s.allotted_allotment hx)

/-- The allocations share out the lesser of the demand and the capacity of O (R60). -/
theorem State.plannedPair_alloc_sum_eq_min (s : State) :
    (Engine.all.map fun k => (s.plannedPair k).alloc).sum =
      min s.plan.p ((members s.plan.online).map s.plan.caps.get).sum := by
  have ascending : s.fillOrder.Pairwise fun x y => x.2 ≤ y.2 :=
    s.fillOrder_pairwise.imp fun h => h.elim Nat.le_of_lt fun tie => tie.1.le
  rw [s.plannedPair_alloc_sum, s.allotment_eq, waterFill_sum _ _ ascending, s.fillOrder_caps_sum]

/-! ## The targets -/

/-- The target is the lowest notch up to the ceiling that covers an allocation within the capacity (R61). -/
theorem State.targetFor_spec (s : State) {k : Engine} {a : Nat} (h : a ≤ s.capOf k) :
    s.targetFor k a ≤ s.limits.ceiling.get k ∧ a ≤ s.enKw (s.targetFor k a) ∧
      ∀ n, n < s.targetFor k a → s.enKw n < a := by
  unfold State.targetFor
  cases found : (List.range (s.limits.ceiling.get k + 1)).find? fun n => decide (a ≤ s.enKw n) with
  | none =>
    have uncovered := List.find?_range_eq_none.mp found _ (Nat.lt_succ_self _)
    simp only [Bool.not_eq_true', decide_eq_false_iff_not] at uncovered
    exact absurd h uncovered
  | some m =>
    obtain ⟨covers, range, lower⟩ := List.find?_range_eq_some.mp found
    simp only [Bool.not_eq_true', decide_eq_true_eq, decide_eq_false_iff_not, Nat.not_le, List.mem_range]
      at covers range lower
    exact ⟨Nat.le_of_lt_succ range, covers, lower⟩

/-- What R59 and R61 ask of one engine's pair: within the capacity, and at the lowest notch up to the ceiling that covers
it. -/
def State.pairCovered (s : State) (k : Engine) (pair : Pair) : Prop :=
  pair.alloc ≤ s.capOf k ∧ pair.target ≤ s.limits.ceiling.get k ∧ pair.alloc ≤ s.enKw pair.target ∧
    ∀ n, n < pair.target → s.enKw n < pair.alloc

/-- With the capacities as the limits stand, the pair of every engine is covered, in O or not. -/
theorem State.plannedPair_covered (s : State) (caps : s.plan.caps = .of s.capOf) (k : Engine) :
    s.pairCovered k (s.plannedPair k) := by
  by_cases online : s.plan.online.get k = true
  · have within : allotted s.allotment k ≤ s.capOf k := by
      simpa [caps] using s.allotted_le_cap online
    rw [s.plannedPair_of_online online]
    exact ⟨within, s.targetFor_spec within⟩
  · rw [s.plannedPair_of_offline online]
    exact ⟨Nat.zero_le _, Nat.zero_le _, Nat.zero_le _, nofun⟩

/-! ## What the re-plan holds -/

/-- The part of the plan that stages 1 and 2 form (R45, R46). -/
def Plan.figures (p : Plan) : Nat × PerEngine Bool × Nat × PerEngine Nat := (p.p, p.online, p.co, p.caps)

theorem State.formDemand_figures (s : State) : s.formDemand.plan.figures =
    (s.cappedDemand, s.onlineSet, ((members s.onlineSet).map s.capOf).sum, .of s.capOf) := rfl

@[simp] theorem State.decideStart_figures (s : State) (b : Bool) :
    (s.decideStart b).plan.figures = s.plan.figures := by
  obtain ⟨-, h⟩ | ⟨-, -, -, -, e, -, h⟩ | ⟨-, -, h⟩ := s.decideStart_cases b <;> rw [h] <;> rfl

@[simp] theorem State.chooseCandidate_figures (s : State) (cause : ReplanCause) :
    (s.chooseCandidate cause).plan.figures = s.plan.figures := by
  unfold State.chooseCandidate
  simp only []
  split
  · split <;> rfl
  · rfl

@[simp] theorem State.decideShed_figures (s : State) (b : Bool) :
    (s.decideShed b).plan.figures = s.plan.figures := by
  obtain ⟨-, h⟩ | ⟨x, -, -, ⟨-, -, -, h⟩ | ⟨-, h⟩⟩ := s.decideShed_cases b <;> rw [h] <;> rfl

@[simp] theorem State.formShort_figures (s : State) : s.formShort.plan.figures = s.plan.figures := by
  unfold State.formShort
  split <;> rfl

@[simp] theorem State.handPairs_figures (s : State) : s.handPairs.plan.figures = s.plan.figures := by
  unfold State.handPairs
  simp only []
  split <;> rfl

/-- A re-plan holds the figures of its inputs as they stand. -/
theorem State.replan_figures (s : State) (cause : ReplanCause) : (s.replan cause).plan.figures =
    (s.cappedDemand, s.onlineSet, ((members s.onlineSet).map s.capOf).sum, .of s.capOf) := by
  simp [State.replan, State.formDemand_figures]

theorem State.enKw_congr {s t : State} (cfs : s.cfs = t.cfs) : s.enKw = t.enKw := by
  have cfg : s.cfg = t.cfg := by
    unfold State.cfg State.valid
    rw [cfs]
  funext n
  unfold State.enKw
  rw [cfg]

/-- The pairs read the figures, the limits and the configuration alone. -/
theorem State.plannedPair_congr {s t : State} (figures : s.plan.figures = t.plan.figures) (limits : s.limits = t.limits)
    (cfs : s.cfs = t.cfs) : s.plannedPair = t.plannedPair := by
  simp only [Plan.figures, Prod.mk.injEq] at figures
  obtain ⟨p, online, -, caps⟩ := figures
  have allotment : s.allotment = t.allotment := by
    unfold State.allotment
    rw [p, online, caps]
  have targetFor (k : Engine) (a : Nat) : s.targetFor k a = t.targetFor k a := by
    unfold State.targetFor
    rw [limits, State.enKw_congr cfs]
  funext k
  unfold State.plannedPair
  rw [online, allotment, targetFor]

/-- The pairs of the plan are those of the plan as it is left (R62). -/
theorem State.handPairs_pairs_get (s : State) (k : Engine) : s.handPairs.plan.pairs.get k = s.handPairs.plannedPair k := by
  rw [(s.handPairs_handed _ rfl).1, PerEngine.get_of,
    State.plannedPair_congr s.handPairs_figures (by simp) (by simp)]

theorem State.replan_pairs_get (s : State) (cause : ReplanCause) (k : Engine) :
    (s.replan cause).plan.pairs.get k = (s.replan cause).plannedPair k := State.handPairs_pairs_get _ k

theorem State.replan_capOf (s : State) (cause : ReplanCause) : (s.replan cause).capOf = s.capOf := by
  funext k
  simp [State.capOf, State.enKw_congr (s := s.replan cause) (t := s) (by simp)]

theorem State.onlineSet_get_iff (s : State) (k : Engine) : s.onlineSet.get k = true ↔
    s.fitted k = true ∧ (s.eng k).state = .online ∧ (s.eng k).stopPending = false := by
  simp [State.onlineSet, EngineRec.inO]

/-- REPLAN takes the oldest re-plan handed. -/
theorem exec_replan (s : State) {pre post : List Event} {cause : ReplanCause} (awake : s.awake = true)
    (handed : s.handed = pre ++ .replan cause :: post) (oldest : ∀ x, .replan x ∉ pre) :
    exec .replan s = .next ((s.setHanded (pre ++ post)).replan cause) := by
  refine congrArg Host.Outcome.next
    ((s.running_of_awake _ awake).trans (s.take_of _ _ pre post _ cause handed rfl fun e he => ?others))
  cases e
  case others.replan x => exact absurd he (oldest x)
  all_goals rfl

/-- The pairs of a re-plan (R59 to R61): covered, 0 outside O, sharing out the lesser of demand and capacity, and the
water-filling over the order of filling. -/
theorem State.replan_allocations (s : State) (cause : ReplanCause) :
    (∀ k, s.pairCovered k ((s.replan cause).plan.pairs.get k)) ∧
      (∀ k, s.onlineSet.get k ≠ true → (s.replan cause).plan.pairs.get k = ⟨0, 0⟩) ∧
      (Engine.all.map fun k => ((s.replan cause).plan.pairs.get k).alloc).sum =
        min (s.replan cause).plan.p (s.replan cause).plan.co ∧
      ∀ k a, (k, a) ∈ waterFill (s.replan cause).plan.p (s.replan cause).fillOrder →
        ((s.replan cause).plan.pairs.get k).alloc = a := by
  have figures := s.replan_figures cause
  simp only [Plan.figures, Prod.mk.injEq] at figures
  obtain ⟨-, online, co, caps⟩ := figures
  have capOf := s.replan_capOf cause
  have enKw : (s.replan cause).enKw = s.enKw := State.enKw_congr (by simp)
  have limits : (s.replan cause).limits = s.limits := by simp
  have coSum : (s.replan cause).plan.co =
      ((members (s.replan cause).plan.online).map (s.replan cause).plan.caps.get).sum := by
    rw [co, online, caps]
    exact congrArg (fun f => ((members s.onlineSet).map f).sum) (funext fun k => (PerEngine.get_of s.capOf k).symm)
  simp only [State.replan_pairs_get]
  refine ⟨fun k => ?covered, fun k offline => ?offline, ?sum, fun k a => State.plannedPair_alloc_of_mem _⟩
  case covered =>
    have covered := State.plannedPair_covered (s.replan cause) (by rw [caps, capOf]) k
    simpa only [State.pairCovered, capOf, enKw, limits] using covered
  case offline => exact State.plannedPair_of_offline _ (online ▸ offline)
  case sum => rw [State.plannedPair_alloc_sum_eq_min, coSum]

/-- Settles O23: the plan formed is that of the lemma above, and the general clauses are those of the water-filling. -/
theorem allocationsSumToCappedDemand : Obligations.AllocationsSumToCappedDemand := by
  refine ⟨fun s pre post cause awake handed oldest => ?plan, fun p engines ascending => ?fill⟩
  case plan =>
    obtain ⟨covered, offline, sum, filled⟩ := (s.setHanded (pre ++ post)).replan_allocations cause
    exact ⟨_, exec_replan s awake handed oldest, fun k => (covered k).1,
      fun k out => offline k (mt (s.onlineSet_get_iff k).mp out), sum, fun k => (covered k).2,
      _, State.fillOrder_pairwise _, State.mem_fillOrder _, filled⟩
  case fill =>
    refine ⟨waterFill_fst p engines, waterFill_sum p engines ascending, ?_, ?_, waterFill_le_caps p engines⟩
    · rintro k c rest rfl
      exact waterFill_cons p k c rest
    · rintro k c j d rest rfl full
      have inOrder : c ≤ d := List.rel_of_pairwise_cons ascending List.mem_cons_self
      exact (equalShare_sub_le p rest.length).trans (full.trans inOrder)

end Sys2Proof.Machine

/-! What a command can do to the parts that the invariants speak of: the frames of the statements as a preorder, the moves
that commands are made of, and what each move keeps. -/

namespace Sys2Proof.Machine

/-! ## Frames -/

@[simp] theorem Part.same_refl (p : Part) (s : State) : p.same s s := by cases p <;> simp [Part.same]

theorem Part.same_trans {p : Part} {s t u : State} (h : p.same s t) (h' : p.same t u) : p.same s u := by
  cases p
  case saves =>
    obtain ⟨a, b, c⟩ := h
    obtain ⟨a', b', c'⟩ := h'
    exact ⟨a'.trans a, b'.trans b, c'.trans c⟩
  case link =>
    obtain ⟨a, b, c, d, e, f, g⟩ := h
    obtain ⟨a', b', c', d', e', f', g'⟩ := h'
    exact ⟨a'.trans a, b'.trans b, c'.trans c, d'.trans d, e'.trans e, f'.trans f, g'.trans g⟩
  all_goals exact Eq.trans h' h

theorem State.onlyChanges_refl (s : State) (ps : List Part) : s.onlyChanges s ps := fun p _ => p.same_refl s

theorem State.onlyChanges.trans {s t u : State} {ps : List Part} (h : s.onlyChanges t ps) (h' : t.onlyChanges u ps) :
    s.onlyChanges u ps := fun p hp => Part.same_trans (h p hp) (h' p hp)

theorem State.onlyChanges.mono {s t : State} {ps qs : List Part} (h : s.onlyChanges t ps) (sub : ps ⊆ qs) :
    s.onlyChanges t qs := fun p hp => h p fun hm => hp (sub hm)

/-! ## The Restriction Table -/

/-- Every slot of a table is good (2.1). -/
def slotsGood (t : List Slot) : Prop := t.length = Config.slots ∧ ∀ n, slotGood n (slotAt t n)

/-- Every expiry remaining in a table is 1 to 3600 (R28). -/
def expiriesIn (t : List Slot) : Prop := ∀ e m, e ∈ liveEntries t → e.expiry = some m → 1 ≤ m ∧ m ≤ 3600

theorem State.tableGood_iff (s : State) : s.tableGood ↔ slotsGood s.table ∧ s.limits = resolve s.table := by
  simp [State.tableGood, slotsGood, and_assoc]

theorem State.expiriesGood_iff (s : State) : s.expiriesGood ↔ expiriesIn s.table := Iff.rfl

/-- From s to t what is good of the table stays so. -/
def State.tableKept (s t : State) : Prop := (s.tableGood → t.tableGood) ∧ (s.expiriesGood → t.expiriesGood)

theorem State.tableKept_of_eq {s t : State} (table : t.table = s.table) (limits : t.limits = s.limits) :
    s.tableKept t := by
  simp [State.tableKept, State.tableGood_iff, State.expiriesGood_iff, table, limits]

theorem slotsGood_set {t : List Slot} {n : Nat} {x : Slot} (good : slotsGood t) (hx : slotGood n x) :
    slotsGood (t.set n x) := by
  refine ⟨by rw [List.length_set, good.1], fun m => ?_⟩
  rw [slotAt_set]
  split
  next h => exact h.1 ▸ hx
  next => exact good.2 m

theorem mem_liveEntries_set {t : List Slot} {n : Nat} {x : Slot} {e : Entry} (h : e ∈ liveEntries (t.set n x)) :
    x.entry = some e ∨ e ∈ liveEntries t := by
  obtain ⟨y, hy, he⟩ := List.mem_filterMap.mp h
  obtain hy | rfl := List.mem_or_eq_of_mem_set hy
  · exact .inr (List.mem_filterMap.mpr ⟨y, hy, he⟩)
  · exact .inl he

theorem expiriesIn_set {t : List Slot} {n : Nat} {x : Slot} (good : expiriesIn t)
    (hx : ∀ e m, x.entry = some e → e.expiry = some m → 1 ≤ m ∧ m ≤ 3600) : expiriesIn (t.set n x) := by
  intro e m he hm
  obtain he | he := mem_liveEntries_set he
  · exact hx e m he hm
  · exact good e m he hm

/-- A change of one slot keeps the table good when the slot put there is good and its expiry in range. -/
theorem State.tableKept_changeSlot (s : State) (n : Nat) (x : Slot) (slot : slotsGood s.table → slotGood n x)
    (expiry : expiriesIn s.table → ∀ e m, x.entry = some e → e.expiry = some m → 1 ≤ m ∧ m ≤ 3600) :
    s.tableKept (s.changeTable (s.table.set n x)) := by
  have table := (s.changeTable_spec (s.table.set n x)).1
  refine ⟨fun good => ?_, fun good => ?_⟩
  · obtain ⟨slots, -⟩ := s.tableGood_iff.mp good
    rw [State.tableGood_iff, State.changeTable_limits, table]
    exact ⟨slotsGood_set slots (slot slots), rfl⟩
  · rw [State.expiriesGood_iff, table]
    exact expiriesIn_set good (expiry good)

theorem nextGen_ne_zero (g : Byte) : nextGen g ≠ 0 := by
  unfold nextGen
  split
  · decide
  · intro h
    have : g = 255 := by bv_omega
    contradiction

theorem State.tableKept_postInternal (s : State) (c : Condition) (k : Engine) : s.tableKept (s.postInternal c k) := by
  unfold State.postInternal
  split
  · refine s.tableKept_changeSlot _ _ (fun _ => ⟨nextGen_ne_zero _, ⟨k, rfl⟩, ?_⟩) fun _ e m he hm => ?_
    · cases c <;> rfl
    · obtain rfl := Option.some.inj he
      simp [State.internalEntry] at hm
  · exact State.tableKept_of_eq rfl rfl

theorem State.tableKept_freeAt (s : State) (n : Nat) : s.tableKept (s.changeTable (freeAt s.table n)) :=
  s.tableKept_changeSlot _ _ (fun _ => trivial) fun _ _ _ he => by cases he

theorem State.tableKept_retireInternal (s : State) (c : Condition) (k : Engine) :
    s.tableKept (s.retireInternal c k) := by
  unfold State.retireInternal
  split
  · exact s.tableKept_freeAt _
  · exact State.tableKept_of_eq rfl rfl

/-! ## Moves -/

/-- The parts the invariants speak of are the same: the table and its limits, the arbiter, the records, the configuration,
the link. -/
def State.coreSame (s t : State) : Prop :=
  t.table = s.table ∧ t.limits = s.limits ∧ t.car = s.car ∧ t.engines = s.engines ∧ t.cfs = s.cfs ∧ Part.link.same s t

/-- Engine k may change its state to a new one: it is fitted, CRANKING is entered by the holder alone, and no engine leaves
its rest while a write is in flight. -/
def State.mayEnter (s : State) (k : Engine) (new : EState) : Prop :=
  s.fitted k = true ∧ (new = .cranking → s.car.holder = some k) ∧
    ((s.eng k).state.resting = false ∨ new.resting = true ∨ s.writing = false)

/-- What sensing, the sequencers, the arbiter, the planner and the counters do is made of these moves: changes of the table
that keep it good, changes of records that keep the states, changes of state, and the arbiter's own. -/
inductive Moves : State → State → Prop
  | refl (s : State) : Moves s s
  | trans {s t u : State} : Moves s t → Moves t u → Moves s u
  | edits {s t : State} (car : t.car = s.car) (engines : t.engines = s.engines) (cfs : t.cfs = s.cfs)
      (link : Part.link.same s t) (kept : s.tableKept t) : Moves s t
  | records {s t : State} (table : t.table = s.table) (limits : t.limits = s.limits) (car : t.car = s.car)
      (states : ∀ k, (t.eng k).state = (s.eng k).state) (cfs : t.cfs = s.cfs) (link : Part.link.same s t) : Moves s t
  | enter {s : State} {k : Engine} {new : EState} (counted : List CountedEvent) (f : EngineRec → EngineRec) :
      s.mayEnter k new → Moves s (s.enter k new counted f)
  | decideGrant (s : State) : Moves s s.decideGrant
  | releaseUnused {s : State} {k : Engine} : (s.eng k).state ≠ .cranking →
      ¬ (s.fitted k = true ∧ (s.eng k).state = .crankWait) → Moves s (s.releaseUnused k)
  | externalGrant (s : State) (asserted : Bool) : Moves s (s.externalGrant asserted)
  | gapEnd (s : State) : Moves s s.gapEnd
  | rerequestEnd (s : State) : Moves s s.rerequestEnd

theorem Moves.quiet {s t : State} (h : s.coreSame t) : Moves s t := by
  obtain ⟨table, limits, car, engines, cfs, link⟩ := h
  exact .edits car engines cfs link (State.tableKept_of_eq table limits)

theorem Moves.post (s : State) (c : Condition) (k : Engine) : Moves s (s.postInternal c k) :=
  .edits (by simp) (by simp) (by simp) (by simp [Part.same]) (s.tableKept_postInternal c k)

theorem Moves.retire (s : State) (c : Condition) (k : Engine) : Moves s (s.retireInternal c k) :=
  .edits (by simp) (by simp) (by simp) (by simp [Part.same]) (s.tableKept_retireInternal c k)

/-! ## The link is left -/

@[simp] theorem State.changeTable_cli (s : State) (t : List Slot) : (s.changeTable t).cli = s.cli := by simp

theorem Part.link_same_of_cli {s t : State} (h : t.cli = s.cli) : Part.link.same s t := by simp [Part.same, h]

theorem State.enter_link (s : State) (k : Engine) (new : EState) (c : List CountedEvent) (f : EngineRec → EngineRec) :
    Part.link.same s (s.enter k new c f) := by
  unfold State.enter
  by_cases h : new.endsWarmup = true <;> simp [h, Part.same, State.flagChanged, State.setNotices]

theorem Moves.link {s t : State} (h : Moves s t) : Part.link.same s t := by
  induction h with
  | refl s => exact Part.same_refl _ _
  | trans _ _ ih ih' => exact Part.same_trans ih ih'
  | edits _ _ _ link _ => exact link
  | records _ _ _ _ _ link => exact link
  | enter counted f h => exact State.enter_link _ _ _ _ _
  | _ => exact Part.link_same_of_cli (by simp)

theorem Moves.cfs {s t : State} (h : Moves s t) : t.cfs = s.cfs := by
  induction h with
  | refl s => rfl
  | trans _ _ ih ih' => exact ih'.trans ih
  | edits _ _ cfs _ _ => exact cfs
  | records _ _ _ _ cfs _ => exact cfs
  | _ => simp

end Sys2Proof.Machine

namespace Sys2Proof.Machine

/-! ## What the configuration fixes -/

theorem State.cfg_congr {s t : State} (h : t.cfs = s.cfs) : t.cfg = s.cfg := by
  simp [State.cfg, State.valid, h]

theorem State.valid_congr {s t : State} (h : t.cfs = s.cfs) : t.valid = s.valid := by simp [State.valid, h]

theorem State.writing_congr {s t : State} (h : t.cfs = s.cfs) : t.writing = s.writing := by simp [State.writing, h]

theorem State.fitted_of_cfg {s t : State} (h : t.cfg = s.cfg) : t.fitted = s.fitted := by
  funext k
  unfold State.fitted
  rw [h]

theorem State.fitted_congr {s t : State} (h : t.cfs = s.cfs) : t.fitted = s.fitted :=
  State.fitted_of_cfg (State.cfg_congr h)

theorem Moves.fitted {s t : State} (h : Moves s t) : t.fitted = s.fitted := State.fitted_congr h.cfs

theorem Moves.writing {s t : State} (h : Moves s t) : t.writing = s.writing := State.writing_congr h.cfs

/-! ## The moves of the sequencer's operations -/

theorem Moves.emit (s : State) (e : Event) : Moves s (s.emit e) := .quiet (by simp [State.coreSame, Part.same])

theorem Moves.setSense (s : State) (k : Engine) (x : Sensing) : Moves s (s.setSense k x) :=
  .quiet (by simp [State.coreSame, Part.same])

theorem Moves.setHanded (s : State) (es : List Event) : Moves s (s.setHanded es) :=
  .quiet (by simp [State.coreSame, Part.same])

theorem Moves.setBsm (s : State) (x : Bsm) : Moves s (s.setBsm x) := .quiet (by simp [State.coreSame, Part.same])

theorem Moves.setDct (s : State) (x : Dct) : Moves s (s.setDct x) := .quiet (by simp [State.coreSame, Part.same])

theorem Moves.setDsl (s : State) (x : Dsl) : Moves s (s.setDsl x) := .quiet (by simp [State.coreSame, Part.same])

theorem Moves.setNotices (s : State) (n : Notices) : Moves s (s.setNotices n) :=
  .quiet (by simp [State.coreSame, Part.same, State.setNotices])

theorem Moves.setEng {s : State} {k : Engine} {r : EngineRec} (h : r.state = (s.eng k).state) : Moves s (s.setEng k r) :=
  .records (by simp) (by simp) (by simp)
    (fun j => by rw [State.eng_setEng]; split <;> simp_all) (by simp) (Part.link_same_of_cli (by simp))

theorem Moves.modEng {s : State} {k : Engine} {f : EngineRec → EngineRec} (h : (f (s.eng k)).state = (s.eng k).state) :
    Moves s (s.modEng k f) := .setEng h

theorem Moves.ite {s a b : State} {c : Prop} [Decidable c] (ha : c → Moves s a) (hb : ¬ c → Moves s b) :
    Moves s (if c then a else b) := by
  split
  next h => exact ha h
  next h => exact hb h

/-- Entering a state of rest or leaving a state that is none needs no more than the engine fitted. -/
theorem State.mayEnter_of {s : State} {k : Engine} {new : EState} (fitted : s.fitted k = true) (crank : new ≠ .cranking)
    (rest : (s.eng k).state.resting = false ∨ new.resting = true) : s.mayEnter k new :=
  ⟨fitted, fun h => absurd h crank, rest.imp id .inl⟩

theorem Moves.hold (s : State) (k : Engine) : Moves s (s.hold k) :=
  .trans (.modEng (by rfl)) (.setNotices _ _)

section Sequencer
variable {s : State} {k : Engine}

theorem Moves.enterCrankWait (fitted : s.fitted k = true) (running : (s.eng k).state.resting = false) :
    Moves s (s.enterCrankWait k) := .enter _ _ (State.mayEnter_of fitted (by simp) (.inl running))

theorem Moves.prelubeStep (fitted : s.fitted k = true) (running : (s.eng k).state.resting = false) :
    Moves s (s.prelubeStep k) :=
  .ite (fun _ => .hold s k) fun _ => .enterCrankWait fitted running

theorem Moves.admitStart (reason : StartReason) (fitted : s.fitted k = true) (admits : s.admits k = true) :
    Moves s (s.admitStart k reason) := by
  have idle : s.writing = false := by
    simp only [State.admits, Bool.and_eq_true, Bool.not_eq_true'] at admits
    exact admits.1.1.1.1.1.1.2
  unfold State.admitStart
  extract_lets t x u
  have entered : Moves s u := .trans (.enter _ _ ⟨fitted, by simp, .inr (.inr idle)⟩) (.setSense _ _ _)
  have state : (u.eng k).state = .prelube := by
    simp only [u, t, State.eng, (State.setSense_keeps _ _ _).2.2.2.2.2.1, State.enter_engines, PerEngine.get_set_self]
  refine .trans entered (.ite (fun _ => .prelubeStep ?_ ?_) fun _ => .refl _)
  · rw [entered.fitted, fitted]
  · simp [state, EState.resting]

theorem Moves.takeStart (reason : StartReason) (fitted : s.fitted k = true) : Moves s (s.takeStart k reason) :=
  .ite (fun h => .admitStart reason fitted h.2) fun _ => .refl s

theorem Moves.runDemandStart (s : State) (k : Engine) : Moves s (s.runDemandStart k) :=
  .ite (fun h => .takeStart _ (by simp at h; exact h.1)) fun _ => .refl s

theorem Moves.enterOnline (fitted : s.fitted k = true) (running : (s.eng k).state.resting = false) :
    Moves s (s.enterOnline k) := .enter _ _ (State.mayEnter_of fitted (by simp) (.inl running))

theorem Moves.tryOnline (fitted : s.fitted k = true) : Moves s (s.tryOnline k) :=
  .ite (fun h => .ite (fun _ => .hold s k) fun _ => .enterOnline fitted (by simp [h.1, EState.resting])) fun _ => .refl s

theorem Moves.warmupAtFire (s : State) (k : Engine) : Moves s (s.warmupAtFire k) := by
  unfold State.warmupAtFire
  extract_lets x
  split
  · exact .ite (fun _ => .trans (.setSense _ _ _) (.post _ _ _)) fun _ => .refl s
  · exact .refl s

theorem Moves.fire (fitted : s.fitted k = true) (running : (s.eng k).state.resting = false) : Moves s (s.fire k) :=
  .trans (.enter _ _ (State.mayEnter_of fitted (by simp) (.inl running))) (.warmupAtFire _ k)

theorem Moves.trip (cause : TripCause) (also : List CountedEvent) (fitted : s.fitted k = true) :
    Moves s (s.trip k cause also) := .enter _ _ (State.mayEnter_of fitted (by simp) (.inr rfl))

theorem Moves.enterStopping (counted : List CountedEvent) (fitted : s.fitted k = true)
    (running : (s.eng k).state.resting = false) : Moves s (s.enterStopping k counted) :=
  .enter _ _ (State.mayEnter_of fitted (by simp) (.inl running))

theorem Moves.enterRest (counted : List CountedEvent) (fitted : s.fitted k = true) : Moves s (s.enterRest k counted) := by
  unfold State.enterRest
  extract_lets iso t
  have entered : Moves s t := by
    refine .enter _ _ (State.mayEnter_of fitted ?_ (.inr ?_)) <;> cases iso <;> simp [EState.resting]
  exact .ite (fun _ => entered) fun _ => .trans entered (.runDemandStart t k)

theorem Moves.failAttempt (cause : AttemptCause) (fitted : s.fitted k = true)
    (running : (s.eng k).state.resting = false) : Moves s (s.failAttempt k cause) := by
  unfold State.failAttempt
  extract_lets left t
  have counted : Moves s t := .modEng rfl
  have state : (t.eng k).state = (s.eng k).state := by simp [t, State.modEng_eng]
  have fitted' : t.fitted k = true := by rw [counted.fitted, fitted]
  exact .trans counted (.ite (fun _ => .trip _ _ fitted') fun _ =>
    .enter _ _ (State.mayEnter_of fitted' (by simp) (.inl (by rw [state, running]))))

theorem Moves.pendStop (s : State) (k : Engine) (reason : StopReason) : Moves s (s.pendStop k reason) :=
  .trans (.modEng (by rfl)) (.emit _ _)

theorem Moves.restateStop (s : State) (k : Engine) (reason : StopReason) : Moves s (s.restateStop k reason) :=
  .ite (fun _ => .modEng rfl) fun _ => .refl s

theorem Moves.takeStop (reason : StopReason) (fitted : s.fitted k = true) : Moves s (s.takeStop k reason) := by
  unfold State.takeStop
  extract_lets r
  refine .ite (fun _ => .ite (fun _ => .pendStop s k _) fun _ => .refl s) fun _ => ?_
  split
  case h_4 h | h_5 h => exact .enterStopping _ fitted (by simp [show (s.eng k).state = _ from h, EState.resting])
  case h_6 => exact .ite (fun _ => .restateStop s k reason) fun _ => .pendStop s k reason
  case h_7 => exact .restateStop s k reason
  case h_8 | h_9 | h_10 | h_11 => exact .refl s
  all_goals exact .enterRest _ fitted

theorem Moves.takeRecall (fitted : s.fitted k = true) : Moves s (s.takeRecall k) := by
  unfold State.takeRecall
  extract_lets r
  refine .ite (fun _ => .ite (fun _ => .trans (.modEng rfl) (.emit _ _)) fun _ => .ite (fun h => ?_) fun _ => .refl s)
    fun _ => .refl s
  exact .enter _ _ (State.mayEnter_of fitted (by simp) (.inl (by simp [show (s.eng k).state = _ from h, EState.resting])))

theorem Moves.stepDownComplete (fitted : s.fitted k = true) (running : (s.eng k).state.resting = false) :
    Moves s (s.stepDownComplete k) :=
  .ite (fun _ => .enter _ _ (State.mayEnter_of fitted (by simp) (.inl running))) fun _ => .enterStopping _ fitted running

/-- A held engine stands in PRELUBE or RUNUP. -/
theorem EngineRec.running_of_heldAt {r : EngineRec} (h : r.heldAt ≠ .none) : r.state.resting = false := by
  unfold EngineRec.heldAt at h
  cases hs : r.state <;> simp_all [EState.resting]

theorem Moves.passHold (fitted : s.fitted k = true) : Moves s (s.passHold k) := by
  have running : (s.eng k).heldAt ≠ .none → (s.eng k).state.resting = false := EngineRec.running_of_heldAt
  unfold State.passHold
  split
  next h => exact .enterCrankWait fitted (running (by simp [h]))
  next h => exact .enterOnline fitted (running (by simp [h]))
  next => exact .refl s

theorem Moves.releaseHold (fitted : s.fitted k = true) : Moves s (s.releaseHold k) :=
  .ite (fun _ => .passHold fitted) fun _ => .modEng rfl

theorem Moves.reviewIsolation (fitted : s.fitted k = true) : Moves s (s.reviewIsolation k) := by
  unfold State.reviewIsolation
  extract_lets iso t
  have noted : Moves s t := .modEng rfl
  have fitted' : t.fitted k = true := by rw [noted.fitted, fitted]
  exact .ite (fun _ => .refl s) fun _ => .ite
    (fun _ => .ite (fun _ => .trans noted (.enter _ _ (State.mayEnter_of fitted' (by simp) (.inr rfl))))
      fun _ => .trans noted (.takeStop _ fitted'))
    fun _ => .ite (fun _ => .trans noted (.enterRest _ fitted')) fun _ => .trans noted (.runDemandStart t k)

theorem Moves.lubeClosed (fitted : s.fitted k = true) : Moves s (s.lubeClosed k) := by
  unfold State.lubeClosed
  extract_lets r
  split
  next h => exact .ite (fun _ => .modEng rfl) fun _ =>
    .prelubeStep fitted (by simp [show (s.eng k).state = _ from h, EState.resting])
  next => exact .tryOnline fitted
  next => exact .refl s

theorem Moves.lubeOpened (fitted : s.fitted k = true) : Moves s (s.lubeOpened k) := by
  unfold State.lubeOpened
  extract_lets r
  split
  · exact .ite (fun _ => .modEng rfl) fun _ => .refl s
  · exact .trip _ _ fitted
  · exact .trip _ _ fitted
  · exact .refl s

theorem Moves.emergencyTrip (fitted : s.fitted k = true) : Moves s (s.emergencyTrip k) :=
  .ite (fun _ => .trip _ _ fitted) fun _ => .refl s

end Sequencer

end Sys2Proof.Machine

namespace Sys2Proof.Machine

/-! ## The moves of the commands -/

theorem Moves.modPlan (s : State) (f : Plan → Plan) : Moves s (s.modPlan f) :=
  .quiet (by simp [State.coreSame, Part.same, State.modPlan])

theorem Moves.decideStart (s : State) (onDwell : Bool) : Moves s (s.decideStart onDwell) := by
  obtain ⟨-, h⟩ | ⟨-, -, -, -, e, -, h⟩ | ⟨-, -, h⟩ := s.decideStart_cases onDwell <;> rw [h]
  · exact .modPlan s _
  · exact .trans (.modPlan s _) (.emit _ _)
  · exact .modPlan s _

theorem Moves.decideShed (s : State) (onDwell : Bool) : Moves s (s.decideShed onDwell) := by
  obtain ⟨-, h⟩ | ⟨x, -, -, ⟨-, -, -, h⟩ | ⟨-, h⟩⟩ := s.decideShed_cases onDwell <;> rw [h]
  · exact .modPlan s _
  · exact .trans (.modPlan s _) (.emit _ _)
  · exact .modPlan s _

theorem Moves.chooseCandidate (s : State) (cause : ReplanCause) : Moves s (s.chooseCandidate cause) :=
  .ite (fun _ => .ite (fun _ => .refl s) fun _ => .modPlan s _) fun _ => .refl s

theorem Moves.formShort (s : State) : Moves s s.formShort :=
  .ite (fun _ => .refl s) fun _ => .trans (.modPlan s _) (.setNotices _ _)

theorem Moves.handPairs (s : State) : Moves s s.handPairs :=
  .ite (fun _ => .trans (.modPlan s _) (.emit _ _)) fun _ => .modPlan s _

theorem Moves.replan (s : State) (cause : ReplanCause) : Moves s (s.replan cause) :=
  .trans (.modPlan s _) <| .trans (.decideStart _ _) <| .trans (.chooseCandidate _ _) <| .trans (.decideShed _ _) <|
    .trans (.formShort _) (.handPairs _)

theorem Moves.plannerCount (s : State) : Moves s s.plannerCount :=
  .trans (.modPlan s _) <| .trans (.decideStart _ _) (.decideShed _ _)

theorem Moves.startDwellComplete (s : State) : Moves s s.startDwellComplete :=
  .ite (fun _ => .decideStart s _) fun _ => .refl s

theorem Moves.shedDwellComplete (s : State) : Moves s s.shedDwellComplete :=
  .ite (fun _ => .decideShed s _) fun _ => .refl s

theorem Moves.demandStep (s : State) (d : Dsl) : Moves s (s.demandStep d) :=
  .ite (fun _ => .setDsl s d) fun _ => .trans (.setDsl s d) (.emit _ _)

theorem Moves.codeAccepted (s : State) : Moves s s.codeAccepted := by
  unfold State.codeAccepted
  split
  · exact .ite (fun _ => .trans (.demandStep _ _) (.setNotices _ _)) fun _ => .demandStep _ _
  · exact .refl s

theorem Moves.invalidTimeout (s : State) : Moves s s.invalidTimeout :=
  .ite (fun _ => .ite (fun _ => .demandStep _ _) fun _ => .trans (.demandStep _ _) (.setNotices _ _)) fun _ => .refl s

theorem Moves.demandLapse (s : State) : Moves s s.demandLapse :=
  .ite (fun _ => .trans (.demandStep _ _) (.setNotices _ _)) fun _ => .refl s

theorem Moves.inputSample (s : State) (raw : Lines Bool) : Moves s (s.inputSample raw) :=
  .quiet (by simp [State.coreSame, Part.same, State.inputSample])

theorem Moves.requestSave (s : State) (k : Engine) : Moves s (s.requestSave k) :=
  .ite (fun _ => .refl s) fun _ => .setDct s _

theorem Moves.lockoutTest (s : State) (k : Engine) : Moves s (s.lockoutTest k) :=
  .ite (fun _ => .post s _ _) fun _ => .refl s

theorem Moves.countEvents (s : State) (k : Engine) (events : List CountedEvent) : Moves s (s.countEvents k events) :=
  have tested : Moves s _ := .trans (.setDct s _) (.lockoutTest _ k)
  .ite (fun _ => .trans tested (.requestSave _ k)) fun _ => tested

theorem Moves.saveBegin (s : State) : Moves s s.saveBegin := by
  unfold State.saveBegin
  split
  · exact .setDct s _
  · exact .refl s

theorem Moves.saveEnd (s : State) : Moves s s.saveEnd := by
  unfold State.saveEnd
  split
  · exact .setDct s _
  · exact .refl s

theorem Moves.batterySample (s : State) (tenths : Int) : Moves s (s.batterySample tenths) := by
  unfold State.batterySample
  extract_lets v b sag t
  split
  · exact .setBsm s _
  · split
    · exact .trans (.setBsm s _) (.emit _ _)
    · exact .setBsm s _
  · exact .setBsm s _

theorem Moves.batteryLowPosted (s : State) : Moves s s.batteryLowPosted := .ite (fun _ => .post s _ _) fun _ => .refl s

theorem Moves.batteryLowRetired (s : State) : Moves s s.batteryLowRetired :=
  .ite (fun _ => .retire s _ _) fun _ => .refl s

theorem Moves.pickupPulse (s : State) (k : Engine) (p : Pickup) : Moves s (s.pickupPulse k p) := .setSense s k _

theorem Moves.coolantSample (s : State) (k : Engine) (celsius : Int) : Moves s (s.coolantSample k celsius) :=
  .ite (fun _ => .ite (fun _ => .trans (.setSense s k _) (.emit _ _)) fun _ => .setSense s k _) fun _ =>
    .trans (.setSense s k _) (.trans (.post _ _ _) (.retire _ _ _))

theorem Moves.hotPosted (s : State) (k : Engine) : Moves s (s.hotPosted k) := .ite (fun _ => .post s _ _) fun _ => .refl s

theorem Moves.hotRetired (s : State) (k : Engine) : Moves s (s.hotRetired k) :=
  .ite (fun _ => .retire s _ _) fun _ => .refl s

theorem Moves.warmupRetired (s : State) (k : Engine) : Moves s (s.warmupRetired k) :=
  .ite (fun _ => .trans (.setSense s k _) (.retire _ _ _)) fun _ => .refl s

theorem Moves.clearLockout (s : State) (k : Engine) : Moves s (s.clearLockout k).1 := by
  unfold State.clearLockout
  extract_lets d
  split
  · exact .refl s
  · exact .trans (.setDct s _) (.trans (.retire _ _ _) (.requestSave _ k))

theorem Moves.clearPickupFault (s : State) (k : Engine) : Moves s (s.clearPickupFault k).1 := by
  unfold State.clearPickupFault
  split
  · exact .trans (.setSense s k _) (.retire _ _ _)
  · exact .refl s

/-- Of a record the pairs handed change the pair alone, and only a fitted engine's (R62, R97). -/
theorem State.takePairs_eng (s : State) (handed : PerEngine (Option Pair)) (k : Engine) :
    (s.takePairs handed).eng k =
      { s.eng k with pair := if s.fitted k then (handed.get k).getD (s.eng k).pair else (s.eng k).pair } := by
  simp only [State.takePairs, State.eng, State.setEngines_engines, PerEngine.get_of]
  cases handed.get k <;> cases s.fitted k <;> rfl

theorem Moves.takePairs (s : State) (handed : PerEngine (Option Pair)) : Moves s (s.takePairs handed) :=
  .records (by simp) (by simp) (by simp) (fun k => by rw [State.takePairs_eng]) (by simp)
    (Part.link_same_of_cli (by simp))

section Sequencer
variable {s : State} {k : Engine}

theorem Moves.setpointUpdate (fitted : s.fitted k = true) : Moves s (s.setpointUpdate k) := by
  have ramped : (s.ramped (s.eng k)).state = (s.eng k).state := (s.ramped_keeps (s.eng k)).1
  obtain ⟨-, h⟩ | ⟨online, -, -, -, h⟩ | ⟨-, -, h⟩ := s.setpointUpdate_cases k <;> rw [h]
  · exact .refl s
  · have moved : Moves s (s.setEng k (s.ramped (s.eng k))) := .setEng ramped
    refine .trans moved (.stepDownComplete (by rw [moved.fitted, fitted]) ?_)
    rw [State.eng_setEng_self, ramped, online]
    rfl
  · refine .setEng (Eq.trans ?_ ramped)
    unfold State.compared
    split <;> rfl

theorem Moves.notchStep (fitted : s.fitted k = true) : Moves s (s.notchStep k) :=
  .ite (fun _ => .setpointUpdate fitted) fun _ => .refl s

theorem Moves.prelubeTimeout (fitted : s.fitted k = true) : Moves s (s.prelubeTimeout k) :=
  .ite (fun _ => .trip _ _ fitted) fun _ => .refl s

theorem Moves.crankTimeout (fitted : s.fitted k = true) : Moves s (s.crankTimeout k) :=
  .ite (fun h => .failAttempt _ fitted (by simp [h.1, EState.resting])) fun _ => .refl s

theorem Moves.restEnd (fitted : s.fitted k = true) : Moves s (s.restEnd k) :=
  .ite (fun h => .enterCrankWait fitted (by simp [h.1, EState.resting])) fun _ => .refl s

theorem Moves.runupTimeout (fitted : s.fitted k = true) : Moves s (s.runupTimeout k) :=
  .ite (fun _ => .trip _ _ fitted) fun _ => .refl s

theorem Moves.cooldownEnd (fitted : s.fitted k = true) : Moves s (s.cooldownEnd k) :=
  .ite (fun h => .enterStopping _ fitted (by simp [h.1, EState.resting])) fun _ => .refl s

theorem Moves.stopFail (fitted : s.fitted k = true) : Moves s (s.stopFail k) :=
  .ite (fun _ => .trip _ _ fitted) fun _ => .refl s

theorem Moves.sagSeen (fitted : s.fitted k = true) : Moves s (s.sagSeen k) :=
  .ite (fun h => .failAttempt _ fitted (by simp [h.1, EState.resting])) fun _ => .refl s

theorem Moves.overheatSeen (fitted : s.fitted k = true) : Moves s (s.overheatSeen k) :=
  .ite (fun _ => .trip _ _ fitted) fun _ => .refl s

/-- The holder takes its grant into CRANKING, or releases it unused. -/
theorem Moves.takeGrant (s : State) (k : Engine) : Moves s (s.takeGrant k) :=
  .ite (fun h => .ite
      (fun w => .enter _ _ ⟨w.1, fun _ => h.1, .inl (by simp [w.2, EState.resting])⟩)
      fun w => .releaseUnused h.2 w)
    fun _ => .refl s

theorem Moves.speedReport (fitted : s.fitted k = true) : Moves s (s.speedReport k) := by
  unfold State.speedReport
  simp only []
  refine .ite (fun _ => .trip _ _ fitted) fun _ => .ite (fun _ => .trip _ _ fitted) fun _ => ?_
  split
  next h =>
    exact .ite (fun _ => .fire fitted (by simp [show (s.eng k).state = _ from h, EState.resting])) fun _ => .refl s
  next h =>
    exact .ite (fun _ => .failAttempt _ fitted (by simp [show (s.eng k).state = _ from h, EState.resting]))
      fun _ => .tryOnline fitted
  next => exact .ite (fun _ => .enterRest _ fitted) fun _ => .refl s
  next => exact .refl s

theorem Moves.speedUpdate (fitted : s.fitted k = true) : Moves s (s.speedUpdate k) := by
  unfold State.speedUpdate
  extract_lets x y t u v
  have drawn : Moves s t := .ite (fun _ => .quiet (by simp [State.coreSame, Part.same])) fun _ => .refl s
  have measured : Moves t u :=
    .ite (fun _ => .trans (.setSense _ _ _) (.post _ _ _)) fun _ => .setSense _ _ _
  have reported : Moves s v :=
    .trans drawn <| .trans measured <| .speedReport (by rw [measured.fitted, drawn.fitted, fitted])
  exact .ite (fun _ => .trans reported (.runDemandStart v k)) fun _ => reported

theorem Moves.runLineSeen (level : Bool) (fitted : s.fitted k = true) : Moves s (s.runLineSeen k level) :=
  .trans (.ite (fun _ => .refl s) fun _ => .takeStop _ fitted) (.runDemandStart _ k)

theorem Moves.emergencySeen (level : Bool) (fitted : s.fitted k = true) : Moves s (s.emergencySeen k level) :=
  .trans (.ite (fun _ => .emergencyTrip fitted) fun _ => .refl s) (.runDemandStart _ k)

theorem Moves.levelSeen (s : State) (i : Input) (b : Block) (level : Bool) : Moves s (s.levelSeen i b level) := by
  unfold State.levelSeen
  split
  · exact .emit s _
  · exact .emit s _
  · exact .ite (fun h => .runLineSeen level h) fun _ => .refl s
  · exact .ite (fun h => .emergencySeen level h) fun _ => .refl s
  · exact .ite (fun h => .reviewIsolation h.1) fun _ => .refl s
  · exact .ite (fun h => .ite (fun _ => .lubeClosed h.1) fun _ => .lubeOpened h.1) fun _ => .refl s
  · exact .externalGrant s level
  · exact .refl s

theorem Moves.limitsSeen (stopRose runRose : Bool) (fitted : s.fitted k = true) :
    Moves s (s.limitsSeen k stopRose runRose) := by
  unfold State.limitsSeen
  extract_lets t u
  have stopped : Moves s t := .ite (fun _ => .takeStop _ fitted) fun _ => .refl s
  have recalled : Moves t u :=
    .ite (fun _ => .takeRecall (by rw [stopped.fitted, fitted])) fun _ => .refl t
  exact .trans stopped (.trans recalled (.runDemandStart u k))

theorem Moves.limitsChanged (s : State) (b : Block) (stopRose runRose : Bool) :
    Moves s (s.limitsChanged b stopRose runRose) := by
  unfold State.limitsChanged
  split
  · exact .emit s _
  · exact .ite (fun h => .limitsSeen _ _ h) fun _ => .refl s
  · exact .decideGrant s

theorem Moves.start (fitted : s.fitted k = true) : Moves s (s.start k).1 := by
  unfold State.start
  extract_lets r
  repeat' split
  all_goals first
    | exact .refl s
    | exact .takeRecall fitted
    | exact .admitStart _ fitted ‹_›

theorem Moves.setIsolation (asked : Bool) (fitted : s.fitted k = true) : Moves s (s.setIsolation k asked).1 :=
  have flagged : Moves s (s.modEng k fun r => { r with isoRequest := asked }) := .modEng rfl
  .ite (fun _ => .refl s) fun _ => .trans flagged (.reviewIsolation (by rw [flagged.fitted, fitted]))

theorem Moves.setHold (hold : Byte) (fitted : s.fitted k = true) : Moves s (s.setHold hold k).1 := by
  unfold State.setHold
  split
  · exact .refl s
  next p _ =>
    have placed : Moves s (s.modEng k fun r => { r with holdPoint := p }) := .modEng rfl
    exact .ite (fun _ => .trans placed (.releaseHold (by rw [placed.fitted, fitted]))) fun _ => placed

theorem Moves.stepHold (fitted : s.fitted k = true) : Moves s (s.stepHold k).1 := by
  unfold State.stepHold
  split
  · exact .passHold fitted
  · exact .refl s

theorem Moves.ackTrip (fitted : s.fitted k = true) : Moves s (s.ackTrip k).1 := by
  unfold State.ackTrip
  split
  · exact .enterRest _ fitted
  · exact .refl s

theorem Moves.setDemand (s : State) (notch : Byte) : Moves s (s.setDemand notch).1 := by
  unfold State.setDemand
  split
  · exact .refl s
  · exact .demandStep s _

theorem Moves.selectSource (s : State) (source : Byte) : Moves s (s.selectSource source).1 := by
  unfold State.selectSource
  split
  · exact .refl s
  · split
    · exact .refl s
    · exact .demandStep s _

theorem Moves.readCounters (s : State) (clear : Byte) (k : Engine) : Moves s (s.readCounters clear k).1 := by
  unfold State.readCounters
  split
  · exact .refl s
  · exact .refl s
  · exact .setDct s _

end Sequencer

end Sys2Proof.Machine

namespace Sys2Proof.Machine

/-! ## The requests and the counts of the table -/

/-- An entry without its expiry: all that the limits read. -/
def Entry.lasting (e : Entry) : Entry := { e with expiry := none }

theorem valuesOf_lasting (es : List Entry) (kind : Kind) : valuesOf (es.map Entry.lasting) kind = valuesOf es kind := by
  simp only [valuesOf, List.filter_map, List.filterMap_map]
  rfl

theorem demanded_lasting (es : List Entry) (kind : Kind) (k : Engine) :
    demanded (es.map Entry.lasting) kind k = demanded es kind k := by
  simp only [demanded, List.any_map]
  rfl

theorem ceilingOf_lasting (es : List Entry) (k : Engine) : ceilingOf (es.map Entry.lasting) k = ceilingOf es k := by
  simp only [ceilingOf, List.filter_map, valuesOf_lasting]
  rfl

/-- The limits read the entries without their expiries. -/
theorem resolve_congr {t u : List Slot}
    (h : (liveEntries t).map Entry.lasting = (liveEntries u).map Entry.lasting) : resolve t = resolve u := by
  have ceiling : ceilingOf (liveEntries t) = ceilingOf (liveEntries u) :=
    funext fun k => by rw [← ceilingOf_lasting, h, ceilingOf_lasting]
  have values (kind : Kind) : valuesOf (liveEntries t) kind = valuesOf (liveEntries u) kind := by
    rw [← valuesOf_lasting, h, valuesOf_lasting]
  have demands (kind : Kind) : demanded (liveEntries t) kind = demanded (liveEntries u) kind :=
    funext fun k => by rw [← demanded_lasting, h, demanded_lasting]
  simp only [resolve, ceiling, values, demands]

@[simp] theorem liveEntries_counted (t : List Slot) :
    liveEntries (t.map Slot.counted) = (liveEntries t).filterMap Entry.counted := by
  simp only [liveEntries, List.filterMap_map, List.filterMap_filterMap]
  rfl

theorem Entry.counted_of_spent {e : Entry} (h : e.spent = true) : e.counted = none := by simp [Entry.counted, h]

/-- An entry that is not spent is counted down. -/
theorem Entry.counted_of_not_spent {e : Entry} (h : e.spent = false) :
    e.counted = some (match e.owner with
      | .external _ => { e with expiry := e.expiry.map fun n => n - 1 }
      | .internal _ => e) := by
  unfold Entry.counted
  rw [h]
  cases e.owner <;> rfl

theorem Entry.counted_lasting {e f : Entry} (h : e.counted = some f) : f.lasting = e.lasting ∧ f.owner = e.owner ∧
    f.kind = e.kind := by
  cases hs : e.spent with
  | true => rw [Entry.counted_of_spent hs] at h; cases h
  | false =>
    rw [Entry.counted_of_not_spent hs] at h
    obtain rfl := Option.some.inj h
    split <;> exact ⟨rfl, rfl, rfl⟩

/-- A count that spends no entry leaves the limits of the table. -/
theorem resolve_counted {t : List Slot} (h : (liveEntries t).any Entry.spent = false) :
    resolve (t.map Slot.counted) = resolve t := by
  refine resolve_congr ?_
  rw [liveEntries_counted]
  revert h
  generalize liveEntries t = es
  intro h
  induction es with
  | nil => rfl
  | cons e es ih =>
    simp only [List.any_cons, Bool.or_eq_false_iff] at h
    have lives := Entry.counted_of_not_spent h.1
    rw [List.filterMap_cons_some lives, List.map_cons, List.map_cons, ih h.2, (Entry.counted_lasting lives).1]

@[simp] theorem slotAt_map_counted (t : List Slot) (n : Nat) :
    slotAt (t.map Slot.counted) n = (slotAt t n).counted := by
  simp only [slotAt, List.getD_eq_getElem?_getD, List.getElem?_map]
  cases t[n]? <;> rfl

theorem slotGood_counted {n : Nat} {x : Slot} (h : slotGood n x) : slotGood n x.counted := by
  unfold slotGood at h ⊢
  cases he : x.entry with
  | none => simp [Slot.counted, he]
  | some e =>
    rw [he] at h
    cases hc : e.counted with
    | none => simp [Slot.counted, he, hc]
    | some f =>
      obtain ⟨-, owner, kind⟩ := Entry.counted_lasting hc
      simpa [Slot.counted, he, hc, owner, kind] using h

theorem expiriesIn_counted {t : List Slot} (good : expiriesIn t) : expiriesIn (t.map Slot.counted) := by
  intro f m hf hm
  rw [liveEntries_counted] at hf
  obtain ⟨e, he, hc⟩ := List.mem_filterMap.mp hf
  cases hs : e.spent with
  | true => rw [Entry.counted_of_spent hs] at hc; cases hc
  | false =>
    rw [Entry.counted_of_not_spent hs] at hc
    obtain rfl := Option.some.inj hc
    cases ho : e.owner with
    | internal c => exact good e m he (by simpa [ho] using hm)
    | external o =>
      simp only [ho, Option.map_eq_some_iff] at hm
      obtain ⟨n, hn, rfl⟩ := hm
      have := good e n he hn
      simp only [Entry.spent, ho, hn, decide_eq_false_iff_not] at hs
      omega

theorem State.tableKept_expiryCount (s : State) : s.tableKept s.expiryCount := by
  obtain ⟨table, limits⟩ := s.expiryCount_cases
  refine ⟨fun good => ?_, fun good => ?_⟩
  · obtain ⟨⟨length, slots⟩, resolved⟩ := s.tableGood_iff.mp good
    rw [State.tableGood_iff, table]
    refine ⟨⟨by rw [List.length_map, length], fun n => ?_⟩, ?_⟩
    · rw [slotAt_map_counted]
      exact slotGood_counted (slots n)
    · obtain ⟨-, h, -⟩ | ⟨unspent, h⟩ := limits
      · rw [h, table]
      · rw [h, State.setTable_limits, resolved, resolve_counted unspent]
  · rw [State.expiriesGood_iff, table]
    exact expiriesIn_counted good

theorem adjustExpiry_range {x m : Nat} (h : (adjustExpiry x).1 = some m) : 1 ≤ m ∧ m ≤ 3600 := by
  unfold adjustExpiry at h
  split at h
  · cases h
  · simp only [Option.some.injEq] at h
    omega

theorem freeExternal_range {t : List Slot} {n : Nat} (h : freeExternal t = some n) :
    Config.externalFirst ≤ n ∧ n < Config.slots := by
  have := List.mem_of_find?_eq_some h
  simp only [externalSlots, List.mem_range'_1] at this
  omega

/-- The entry a handle names stands in its slot (R18). -/
theorem checkHandle_ok {t : List Slot} {slot gen : Byte} {e : Entry} (h : checkHandle t slot gen = .ok e) :
    slot.toNat < Config.slots ∧ slotAt t slot.toNat = ⟨gen, some e⟩ := by
  unfold checkHandle at h
  split at h
  · cases h
  next range =>
    split at h
    · cases h
    next f hf =>
      split at h
      next hg =>
        cases h
        cases hx : slotAt t slot.toNat
        simp_all
      · cases h

theorem Moves.changeTable {s : State} {t : List Slot} (kept : s.tableKept (s.changeTable t)) :
    Moves s (s.changeTable t) := .edits (by simp) (by simp) (by simp) (Part.link_same_of_cli (by simp)) kept

theorem Moves.post_request (s : State) (origin kind scope valuePresent : Byte) (value expiry : Word16) :
    Moves s (s.post origin kind scope valuePresent value expiry).1 := by
  unfold State.post
  split
  · exact .refl s
  split
  · exact .refl s
  split
  · exact .refl s
  split
  · exact .refl s
  next n free =>
    refine .changeTable (s.tableKept_changeSlot _ _ (fun _ => ⟨nextGen_ne_zero _, (freeExternal_range free).1⟩)
      fun _ e m he hm => ?_)
    obtain rfl := Option.some.inj he
    exact adjustExpiry_range hm

theorem Moves.amend (s : State) (origin slot gen valuePresent : Byte) (value expiry : Word16) :
    Moves s (s.amend origin slot gen valuePresent value expiry).1 := by
  unfold State.amend
  split
  · exact .refl s
  next e handle =>
    split
    · exact .refl s
    next permitted =>
      split
      · exact .refl s
      refine .changeTable (s.tableKept_changeSlot _ _ (fun good => ?_) fun _ f m hf hm => ?_)
      · have slotOk := good.2 slot.toNat
        rw [(checkHandle_ok handle).2] at slotOk ⊢
        cases owner : e.owner with
        | internal c => simp [State.mayChange, owner] at permitted
        | external o => simpa [slotGood, owner] using slotOk
      · obtain rfl := Option.some.inj hf
        exact adjustExpiry_range hm

theorem Moves.retire_request (s : State) (origin slot gen : Byte) : Moves s (s.retire origin slot gen).1 := by
  unfold State.retire
  split
  · exact .refl s
  · split
    · exact .refl s
    · exact .changeTable (s.tableKept_freeAt _)

theorem Moves.expiryCount (s : State) : Moves s s.expiryCount := by
  refine .edits (by simp) (by simp) (by simp) ?_ s.tableKept_expiryCount
  obtain ⟨-, ⟨-, -, cli⟩ | ⟨-, h⟩⟩ := s.expiryCount_cases
  · simp [Part.same, cli]
  · exact Part.link_same_of_cli (by rw [h, State.setTable_cli])

end Sys2Proof.Machine

namespace Sys2Proof.Machine

/-! ## The link -/

/-- From s to t what is good of the link's queues stays so. -/
def State.linkKept (s t : State) : Prop := s.linkGood → t.linkGood

theorem State.linkGood_congr {s t : State} (intake : t.cli.intake = s.cli.intake)
    (serving : t.cli.serving = s.cli.serving) (responses : t.cli.responses = s.cli.responses) : s.linkKept t := by
  simp [State.linkKept, State.linkGood, intake, serving, responses]

theorem State.linkKept_of_same {s t : State} (h : Part.link.same s t) : s.linkKept t := by
  obtain ⟨-, -, intake, serving, responses, -, -⟩ := h
  exact State.linkGood_congr intake serving responses

theorem length_markServed (xs : List Intake) : (markServed xs).length = xs.length := by
  induction xs with
  | nil => rfl
  | cons x xs ih =>
    rw [markServed]
    split <;> simp [ih]

/-- Serving the oldest unserved request adds one to the served. -/
theorem served_markServed {xs : List Intake} (h : unserved xs ≠ none) :
    ((markServed xs).filter fun x => x.served).length = (xs.filter fun x => x.served).length + 1 := by
  induction xs with
  | nil => simp [unserved] at h
  | cons x xs ih =>
    rw [markServed]
    cases hx : x.served with
    | true =>
      have rest : unserved xs ≠ none := by simpa [unserved, hx] using h
      simp [hx, ih rest]
    | false => simp [hx]

theorem busyWaiting_append (rs : List Response) (r : Response) :
    busyWaiting (rs ++ [r]) = busyWaiting rs + if r.placed then 0 else 1 := by
  cases h : r.placed <;> simp [busyWaiting, h]

/-- The response to the oldest unserved request of the intake keeps the queues good. -/
theorem State.linkKept_respond {s : State} {r : Request} (rep : Reply) (oldest : unserved s.cli.intake = some r) :
    s.linkKept (s.respond r rep) := by
  rintro ⟨intake, busy, served, -⟩
  refine ⟨?_, ?_, ?_, ?_⟩
  · simpa [State.respond, State.setAnswer, length_markServed] using intake
  · simpa [State.respond, State.setAnswer, busyWaiting_append] using busy
  · simpa [State.respond, State.setAnswer, served_markServed (xs := s.cli.intake) (by simp [oldest])] using served
  · simp [State.respond]

theorem State.linkKept_setAnswer (s : State) (r : Request) (rep : Reply) (placed : Bool) :
    s.linkKept (s.setAnswer r rep placed) := State.linkGood_congr rfl rfl rfl

theorem unserved_append {xs : List Intake} {r : Request} (h : unserved xs = some r) (y : Intake) :
    unserved (xs ++ [y]) = some r := by
  unfold unserved at h ⊢
  obtain ⟨x, hx, rfl⟩ := Option.map_eq_some_iff.mp h
  simp [hx]

theorem State.linkKept_takeIn (s : State) (r : Request) : s.linkKept (s.takeIn r) := by
  rintro ⟨intake, busy, served, serving⟩
  unfold State.takeIn
  split
  next room =>
    refine ⟨?_, busy, ?_, fun q hq => unserved_append (serving q hq) _⟩
    · simp only [State.setCli_cli, List.length_append, List.length_singleton]
      exact room
    · simpa using served
  · split
    next room =>
      refine ⟨intake, ?_, ?_, serving⟩
      · simpa [busyWaiting_append] using room
      · simpa using served
    · exact ⟨intake, busy, served, serving⟩

theorem State.linkKept_trans {s t u : State} (h : s.linkKept t) (h' : t.linkKept u) : s.linkKept u := h' ∘ h

theorem State.linkKept_frameComplete (s : State) : s.linkKept s.frameComplete := by
  unfold State.frameComplete
  split
  · exact id
  · split
    next frame rest _ =>
      exact State.linkKept_trans (t := s.setCli { s.cli with completed := rest }) (State.linkGood_congr rfl rfl rfl)
        (State.linkKept_takeIn _ _)
    · exact id

theorem State.linkKept_serveRequest (s : State) : s.linkKept s.serveRequest := by
  unfold State.serveRequest
  split
  · exact id
  · split
    · exact id
    next r oldest =>
      split
      · exact State.linkKept_respond _ oldest
      · rintro ⟨intake, busy, served, -⟩
        refine ⟨intake, busy, served, fun q hq => ?_⟩
        obtain rfl := Option.some.inj hq
        exact oldest

theorem length_freePlace_le (xs : List Intake) : (freePlace xs).length ≤ xs.length := by
  induction xs with
  | nil => exact le_rfl
  | cons x xs ih =>
    rw [freePlace]
    split <;> simp [ih]

theorem served_freePlace (xs : List Intake) :
    ((freePlace xs).filter fun x => x.served).length = (xs.filter fun x => x.served).length - 1 := by
  induction xs with
  | nil => rfl
  | cons x xs ih =>
    rw [freePlace]
    cases hx : x.served <;> simp [hx, ih]

theorem unserved_freePlace (xs : List Intake) : unserved (freePlace xs) = unserved xs := by
  induction xs with
  | nil => rfl
  | cons x xs ih =>
    rw [freePlace]
    unfold unserved at ih ⊢
    cases hx : x.served
    · simp [hx]
    · simp [hx]

theorem State.linkKept_raiseReset (s : State) (kind : ResetKind) : s.linkKept (s.raiseReset kind) :=
  State.linkGood_congr rfl rfl rfl

/-- The response at the head gone, the place of its request is freed, if it holds one (R176). -/
theorem State.linkKept_sent {s : State} {r : Response} {rest : List Response} (sent : s.cli.responses = r :: rest) :
    s.linkKept (s.setCli { s.cli with
      responses := rest
      sent := responseFrame r
      intake := if r.placed then freePlace s.cli.intake else s.cli.intake }) := by
  rintro ⟨intake, busy, served, serving⟩
  rw [sent] at busy served
  cases hp : r.placed with
  | true =>
    refine ⟨?_, ?_, ?_, ?_⟩
    · simpa [hp] using (length_freePlace_le _).trans intake
    · simpa [busyWaiting, hp] using busy
    · simp only [List.filter_cons, hp, if_true, List.length_cons] at served
      simp only [State.setCli_cli, if_true, served_freePlace]
      omega
    · simpa [hp, unserved_freePlace] using serving
  | false =>
    refine ⟨by simpa [hp] using intake, ?_, by simpa [hp] using served, by simpa [hp] using serving⟩
    simp only [busyWaiting, List.filter_cons, hp, Bool.not_false, if_true, List.length_cons] at busy
    simp only [State.setCli_cli, busyWaiting]
    omega

theorem State.linkKept_characterReceived (s : State) (ch : Byte) (framingError : Bool) :
    s.linkKept (s.characterReceived ch framingError) := by
  unfold State.characterReceived
  split
  · exact id
  · simp only []
    split <;> exact State.linkGood_congr rfl rfl rfl

end Sys2Proof.Machine

namespace Sys2Proof.Machine

/-! ## What a command does -/

/-- From s to t none of the table, the limits, the arbiter, the records and the configuration has changed, but for a write that
may be given up, and the link's queues stay good. -/
def State.outerChange (s t : State) : Prop :=
  t.table = s.table ∧ t.limits = s.limits ∧ t.car = s.car ∧ t.engines = s.engines ∧
    t.cfs.working = s.cfs.working ∧ t.cfs.marks = s.cfs.marks ∧ (t.writing = true → s.writing = true) ∧ s.linkKept t

/-- What a command does: moves, what the link and the supply do, the begin of a write, its end with the apply, and the
start-up at the end of a reset. -/
inductive Effect : State → State → Prop
  | moves {s t : State} : Moves s t → Effect s t
  | trans {s t u : State} : Effect s t → Effect t u → Effect s u
  | outer {s t : State} : s.outerChange t → Effect s t
  | beginWrite {s : State} (d : SectionData) : s.allResting = true → Effect s (s.setCfs { s.cfs with write := some d })
  | writeComplete (s : State) : Effect s s.writeComplete
  | startUp (s : State) (kind : ResetKind) : Effect s (s.startUp kind)

theorem Effect.refl (s : State) : Effect s s := .moves (.refl s)

theorem Effect.outer_of_link {s t : State} (table : t.table = s.table) (limits : t.limits = s.limits)
    (car : t.car = s.car) (engines : t.engines = s.engines) (cfs : t.cfs = s.cfs) (link : s.linkKept t) : Effect s t :=
  .outer ⟨table, limits, car, engines, by rw [cfs], by rw [cfs], by rw [State.writing_congr cfs]; exact id, link⟩

theorem Moves.take {α : Type} {s : State} {p : Event → Option α} {act : α → State → State}
    (h : ∀ a es, Moves (s.setHanded es) (act a (s.setHanded es))) : Moves s (s.take p act) := by
  unfold State.take
  split
  · exact .trans (.setHanded s _) (h _ _)
  · exact .refl s

theorem Moves.running {s : State} {act : State → State} (h : Moves s (act s)) : Moves s (s.running act) :=
  .ite (fun _ => .refl s) fun _ => h

theorem Moves.ifFitted {s : State} {k : Engine} {act : State → State} (h : s.fitted k = true → Moves s (act s)) :
    Moves s (s.ifFitted k act) := .ite h fun _ => .refl s

theorem Moves.forEngine {s : State} {engine : Byte} {act : Engine → State → State × Reply}
    (h : ∀ k, s.fitted k = true → Moves s (act k s).1) : Moves s (s.forEngine engine act).1 := by
  unfold State.forEngine
  split
  · split
    · exact h _ ‹_›
    · exact .refl s
  · exact .refl s

theorem Effect.running {s : State} {act : State → State} (h : Effect s (act s)) : Effect s (s.running act) := by
  unfold State.running
  split
  · exact .refl s
  · exact h

/-- A request served does what its owner does, and the link answers it. -/
theorem Effect.serveCommand {s : State} {c : Instr} {owner : State → State × Reply} (h : Effect s (owner s).1)
    (serving : (owner s).1.cli.serving = s.cli.serving) : Effect s (s.serveCommand c owner) := by
  have answered (m : State) (r : Request) (rep : Reply) : Effect m (m.setAnswer r rep false) :=
    .outer_of_link (by simp) (by simp) (by simp) (by simp) (by simp) (State.linkKept_setAnswer _ _ _ _)
  unfold State.serveCommand
  split
  next r _ =>
    unfold State.serve
    split
    · exact .refl s
    split
    next q hq =>
      split
      next hr =>
        refine .trans h (.outer_of_link (by simp) (by simp) (by simp) (by simp) (by simp) fun good => ?_)
        exact State.linkKept_respond _ (good.2.2.2 r (by rw [serving, hq, hr])) good
      · exact .refl s
    · split
      · exact answered _ _ _
      · exact .trans h (answered _ _ _)
  · exact .refl s

theorem Effect.served {s : State} {c : Instr} {owner : State → State × Reply} (h : Moves s (owner s).1) :
    Effect s (s.serveCommand c owner) := by
  obtain ⟨-, -, -, serving, -, -, -⟩ := h.link
  exact .serveCommand (.moves h) serving

theorem Effect.servedFor {s : State} {c : Instr} {engine : Byte} {act : Engine → State → State × Reply}
    (h : ∀ k, s.fitted k = true → Moves s (act k s).1) :
    Effect s (s.serveCommand c fun t => t.forEngine engine act) := .served (.forEngine h)

theorem Effect.raiseReset (s : State) (kind : ResetKind) : Effect s (s.raiseReset kind) := by
  have abandoned : s.cfs.abandon.working = s.cfs.working ∧ s.cfs.abandon.marks = s.cfs.marks ∧
      (s.cfs.abandon.write.isSome = true → s.cfs.write.isSome = true) := by
    unfold Cfs.abandon
    split <;> simp
  exact .outer ⟨rfl, rfl, rfl, rfl, abandoned.1, abandoned.2.1, abandoned.2.2, s.linkKept_raiseReset kind⟩

theorem Effect.restartWhenSent (s : State) : Effect s s.restartWhenSent := by
  unfold State.restartWhenSent
  split
  · exact .raiseReset s _
  · exact .refl s

/-- The response at the head goes out, and with the last one after a RESTART the reset is raised. -/
theorem Effect.responseSent (s : State) : Effect s s.responseSent := by
  unfold State.responseSent
  split
  · exact .refl s
  next r rest sent =>
    exact .trans (.outer_of_link (by rfl) (by rfl) (by rfl) (by rfl) (by rfl) (State.linkKept_sent sent)) (.restartWhenSent _)

theorem Effect.loseRetained (s : State) : Effect s s.loseRetained :=
  .outer ⟨rfl, rfl, rfl, rfl, rfl, rfl, id, State.linkGood_congr rfl rfl rfl⟩

theorem Effect.setResetting (s : State) (r : Option ResetKind) : Effect s (s.setResetting r) :=
  .moves (.quiet (by simp [State.coreSame, Part.same]))

theorem Effect.supplyDip (s : State) : Effect s s.supplyDip := by
  unfold State.supplyDip
  split
  · exact .trans (.moves (.setBsm s _)) (.raiseReset _ _)
  · exact .refl s

theorem Effect.retentionLoss (s : State) : Effect s s.retentionLoss := by
  unfold State.retentionLoss
  split
  · exact .trans (.loseRetained s) (.setResetting _ _)
  · exact .refl s

theorem Effect.powerOn (s : State) : Effect s s.powerOn :=
  .trans (.moves (.setBsm s _)) (.trans (.raiseReset _ _) (.loseRetained _))

theorem Effect.resetEnd (s : State) : Effect s s.resetEnd := by
  unfold State.resetEnd
  split
  · split
    · exact .startUp s _
    · exact .refl s
  · exact .refl s

theorem Effect.writeConfig (s : State) (sec : Byte) (contents : List Byte) : Effect s (s.writeConfig sec contents).1 := by
  unfold State.writeConfig
  split
  · exact .refl s
  split
  · exact .refl s
  split
  · exact .refl s
  next resting =>
    split
    · exact .refl s
    · exact .trans (.beginWrite _ (by simpa using resting)) (.moves (.emit _ _))

theorem Effect.restart (s : State) : Effect s s.restart.1 := by
  unfold State.restart
  repeat' split
  · exact .refl s
  · exact .refl s
  · exact .outer_of_link rfl rfl rfl rfl rfl (State.linkGood_congr rfl rfl rfl)

/-- Every command has an effect of that kind. -/
theorem exec_effect {c : Instr} {s t : State} (h : exec c s = .next t) : Effect s t := by
  cases c <;> obtain rfl := Host.Outcome.next.inj h
  case post => exact .served (.post_request s ..)
  case amend => exact .served (.amend s ..)
  case retire => exact .served (.retire_request s ..)
  case readEntry => exact .served (.quiet (by simp [State.coreSame, Part.same]))
  case listEntries => exact .served (.quiet (by simp [State.coreSame, Part.same]))
  case readEngine => exact .servedFor fun k _ => .setNotices s _
  case start => exact .servedFor fun k => .start
  case stop => exact .servedFor fun k fitted => (Moves.takeStop .request fitted : Moves s (s.takeStop k .request))
  case isolate => exact .servedFor fun k => .setIsolation _
  case restore => exact .servedFor fun k => .setIsolation _
  case setHold => exact .servedFor fun k => .setHold _
  case step => exact .servedFor fun k => .stepHold
  case ackTrip => exact .servedFor fun k => .ackTrip
  case clearLockout => exact .servedFor fun k _ => .clearLockout s k
  case clearPickupFault => exact .servedFor fun k _ => .clearPickupFault s k
  case readCounters => exact .servedFor fun k _ => .readCounters s _ k
  case setDemand => exact .served (.setDemand s _)
  case selectSource => exact .served (.selectSource s _)
  case readStatus => exact .served (.setNotices s _)
  case readPlan => exact .served (.refl s)
  case readConfig => exact .served (.quiet (by simp [State.coreSame, Part.same]))
  case writeConfig c sec contents =>
    exact .serveCommand (.writeConfig s sec contents) (by simp)
  case restart =>
    refine .trans (.serveCommand (.restart s) ?_) (.restartWhenSent _)
    unfold State.restart
    repeat' split
    all_goals rfl
  case requestFrameComplete =>
    exact .running (.outer_of_link (by simp) (by simp) (by simp) (by simp) (by simp) s.linkKept_frameComplete)
  case frameGapTimeout => exact .running (.outer_of_link rfl rfl rfl rfl rfl (State.linkGood_congr rfl rfl rfl))
  case serveRequest =>
    exact .running (.outer_of_link (by simp) (by simp) (by simp) (by simp) (by simp) s.linkKept_serveRequest)
  case responseSent => exact .running (.responseSent s)
  case characterReceived ch framingError =>
    exact .running (.outer_of_link (by simp) (by simp) (by simp) (by simp) (by simp)
      (s.linkKept_characterReceived ch framingError))
  case inputSample raw => exact .moves (.running (.inputSample s raw))
  case levelChange => exact .moves (.running (.take fun _ _ => .levelSeen ..))
  case codeAccepted => exact .moves (.running (.codeAccepted s))
  case invalidTimeout => exact .moves (.running (.invalidTimeout s))
  case demandLapse => exact .moves (.running (.demandLapse s))
  case expiryCount => exact .moves (.running (.expiryCount s))
  case entryExpired => exact .moves (.running (.ite (fun _ => .expiryCount s) fun _ => .refl s))
  case limitsChanged => exact .moves (.running (.take fun _ _ => .limitsChanged ..))
  case replan => exact .moves (.running (.take fun _ _ => .replan ..))
  case plannerCount => exact .moves (.running (.plannerCount s))
  case startDwellComplete => exact .moves (.running (.startDwellComplete s))
  case shedDwellComplete => exact .moves (.running (.shedDwellComplete s))
  case startOrderTaken => exact .moves (.running (.take fun _ _ => .ifFitted (.takeStart _)))
  case stopOrderTaken => exact .moves (.running (.take fun _ _ => .ifFitted (.takeStop _)))
  case pairHanded => exact .moves (.running (.take fun _ _ => .takePairs ..))
  case setpointUpdate => exact .moves (.running (.ifFitted .setpointUpdate))
  case notchStep => exact .moves (.running (.ifFitted .notchStep))
  case speedUpdate => exact .moves (.running (.ite .speedUpdate fun _ => .refl s))
  case prelubeTimeout => exact .moves (.running (.ifFitted .prelubeTimeout))
  case crankTimeout => exact .moves (.running (.ifFitted .crankTimeout))
  case restEnd => exact .moves (.running (.ifFitted .restEnd))
  case runupTimeout => exact .moves (.running (.ifFitted .runupTimeout))
  case cooldownEnd => exact .moves (.running (.ifFitted .cooldownEnd))
  case stopFail => exact .moves (.running (.ifFitted .stopFail))
  case crankGrantTaken => exact .moves (.running (.take fun _ _ => .takeGrant ..))
  case gapEnd => exact .moves (.running (.gapEnd s))
  case rerequestTimerEnd => exact .moves (.running (.rerequestEnd s))
  case phaseChange => exact .moves (.running (.take fun _ _ => .setBsm _ _))
  case batterySample tenths => exact .moves (.running (.batterySample s tenths))
  case batteryLowPosted => exact .moves (.running (.batteryLowPosted s))
  case batteryLowRetired => exact .moves (.running (.batteryLowRetired s))
  case sagReport => exact .moves (.running (.take fun _ _ => .ite .sagSeen fun _ => .refl _))
  case supplyDip => exact .supplyDip s
  case retentionLoss => exact .retentionLoss s
  case powerOn => exact .powerOn s
  case resetEnd => exact .resetEnd s
  case coolantSample k celsius => exact .moves (.running (.ite (fun _ => .coolantSample s k celsius) fun _ => .refl s))
  case hotPosted k => exact .moves (.running (.ite (fun _ => .hotPosted s k) fun _ => .refl s))
  case hotRetired k => exact .moves (.running (.ite (fun _ => .hotRetired s k) fun _ => .refl s))
  case overheat => exact .moves (.running (.take fun _ _ => .ite .overheatSeen fun _ => .refl _))
  case warmupRetired k => exact .moves (.running (.ite (fun _ => .warmupRetired s k) fun _ => .refl s))
  case dctCount => exact .moves (.running (.setDct s _))
  case runSinceSaveFull k => exact .moves (.running (.ite (fun _ => .requestSave s k) fun _ => .refl s))
  case countedEvent => exact .moves (.running (.take fun _ _ => .ite (fun _ => .countEvents ..) fun _ => .refl _))
  case saveWriteBegin => exact .moves (.running (.saveBegin s))
  case saveWriteEnd => exact .moves (.running (.saveEnd s))
  case writeComplete => exact .running (.writeComplete s)
  case pickupPulse k p => exact .moves (.running (.ite (fun _ => .pickupPulse s k p) fun _ => .refl s))
  case releaseLevelCrossed rising => exact .moves (.ite (fun _ => .setBsm s _) fun _ => .refl s)
  -- The remaining case is the recall, which has no `case` tag: the word is a token.
  exact .moves (.running (.take fun _ _ => .ifFitted .takeRecall))

end Sys2Proof.Machine

namespace Sys2Proof.Machine

/-! ## The records a change of state leaves -/

/-- The state of engine k replaced by a new one. -/
theorem State.enter_state (s : State) (k j : Engine) (new : EState) (c : List CountedEvent)
    (f : EngineRec → EngineRec) : ((s.enter k new c f).eng j).state = if j = k then new else (s.eng j).state := by
  rw [State.enter_eng]
  split <;> rfl

theorem State.eng_congr {s t : State} (h : t.engines = s.engines) : t.eng = s.eng := by funext k; simp [State.eng, h]

/-- A change of state is the record's change, with what it hands on and retires, and then the arbiter's part. -/
theorem State.enter_split (s : State) (k : Engine) (new : EState) (c : List CountedEvent) (f : EngineRec → EngineRec) :
    ∃ u : State, s.enter k new c f = u.arbiterOnChange k (s.eng k).state new ∧ u.car = s.car ∧ u.cfs = s.cfs ∧
      u.engines = s.engines.set k { f (s.eng k) with state := new } ∧ s.tableKept u := by
  unfold State.enter
  extract_lets old raw now t u
  have setEngines : t.engines = s.engines.set k now := by simp [t, State.setEng]
  refine ⟨u, rfl, ?_, ?_, ?_, ?_⟩
  · simp only [u]
    split <;> simp [t]
  · simp only [u]
    split <;> simp [t]
  · refine Eq.trans ?_ setEngines
    simp only [u]
    split <;> simp
  · have recorded : s.tableKept t := State.tableKept_of_eq (by simp [t]) (by simp [t])
    simp only [u]
    split
    · have retired := t.tableKept_retireInternal .warmup k
      exact ⟨retired.1 ∘ recorded.1, retired.2 ∘ recorded.2⟩
    · exact recorded

/-! ## The table -/

theorem State.tableKept_trans {s t u : State} (h : s.tableKept t) (h' : t.tableKept u) : s.tableKept u :=
  ⟨h'.1 ∘ h.1, h'.2 ∘ h.2⟩

theorem State.tableKept_enter (s : State) (k : Engine) (new : EState) (c : List CountedEvent)
    (f : EngineRec → EngineRec) : s.tableKept (s.enter k new c f) := by
  obtain ⟨u, h, -, -, -, kept⟩ := s.enter_split k new c f
  rw [h]
  exact State.tableKept_trans kept (State.tableKept_of_eq (by simp) (by simp))

theorem Moves.tableKept {s t : State} (h : Moves s t) : s.tableKept t := by
  induction h with
  | refl s => exact State.tableKept_of_eq rfl rfl
  | trans _ _ ih ih' => exact State.tableKept_trans ih ih'
  | edits _ _ _ _ kept => exact kept
  | records table limits => exact State.tableKept_of_eq table limits
  | enter => exact State.tableKept_enter _ _ _ _ _
  | _ => exact State.tableKept_of_eq (by simp) (by simp)

/-! ## The crank supply is safe -/

theorem State.crankSafe_congr {s t : State} (holder : t.car.holder = s.car.holder) (phase : t.car.phase = s.car.phase)
    (states : ∀ k, (t.eng k).state = .cranking → (s.eng k).state = .cranking) (h : s.crankSafe) : t.crankSafe := by
  refine ⟨fun k hk => ?_, ?_⟩
  · rw [holder]
    exact h.1 k (states k hk)
  · rw [holder, phase]
    exact h.2

theorem State.crankSafe_of_car {s t : State} (car : t.car = s.car) (engines : t.engines = s.engines) (h : s.crankSafe) :
    t.crankSafe := State.crankSafe_congr (by rw [car]) (by rw [car]) (by rw [State.eng_congr engines]; exact fun _ => id) h

/-- With the phase IDLE or RECOVERY no engine holds the supply, and none is CRANKING. -/
theorem State.crankSafe.free {s : State} (h : s.crankSafe) (phase : s.car.phase ≠ .granted) :
    s.car.holder = none ∧ ∀ k, (s.eng k).state ≠ .cranking := by
  have holder : s.car.holder = none := by
    cases hh : s.car.holder with
    | none => rfl
    | some k => exact absurd (h.2.mp (by simp [hh])) phase
  refine ⟨holder, fun k hk => ?_⟩
  have := h.1 k hk
  rw [holder] at this
  cases this

/-- A free supply: no engine CRANKING and no holder, in a phase that is not GRANTED. -/
theorem State.crankSafe_of_free {s : State} (holder : s.car.holder = none) (phase : s.car.phase ≠ .granted)
    (states : ∀ k, (s.eng k).state ≠ .cranking) : s.crankSafe :=
  ⟨fun k hk => absurd hk (states k), by simp [holder, phase]⟩

theorem State.crankSafe_decideGrant {s : State} (h : s.crankSafe) : s.decideGrant.crankSafe := by
  obtain ⟨he, -⟩ | ⟨k, idle, -, -, car, -⟩ := s.decideGrant_cases
  · rw [he]; exact h
  · have free := (h.free (by rw [idle]; simp)).2
    refine ⟨fun j hj => absurd ?_ (free j), by simp [car]⟩
    rwa [State.eng_congr (s := s) (by simp)] at hj

theorem State.formWish_car (s : State) : s.formWish.car.queue = s.car.queue ∧ s.formWish.car.holder = s.car.holder ∧
    s.formWish.car.phase = s.car.phase ∧ s.formWish.car.gapTimer = s.car.gapTimer := by
  obtain ⟨h, -⟩ | ⟨-, -, h⟩ | ⟨-, -, h⟩ := s.formWish_cases <;> rw [h] <;> exact ⟨rfl, rfl, rfl, rfl⟩

theorem State.giveUpIfWithdrawn_car (s : State) : s.giveUpIfWithdrawn.car.queue = s.car.queue ∧
    s.giveUpIfWithdrawn.car.holder = s.car.holder ∧ s.giveUpIfWithdrawn.car.phase = s.car.phase ∧
      s.giveUpIfWithdrawn.car.gapTimer = s.car.gapTimer := by
  unfold State.giveUpIfWithdrawn
  split <;> exact ⟨rfl, rfl, rfl, rfl⟩

/-- A used release frees the supply. -/
theorem State.releaseUsed_free {s : State} {k : Engine} (h : s.car.holder = some k) :
    (s.releaseUsed k).car.holder = none ∧ (s.releaseUsed k).car.phase ≠ .granted := by
  obtain ⟨holder, -, gap, noGap⟩ := s.releaseUsed_car k h
  refine ⟨holder, ?_⟩
  obtain g | g := Nat.eq_zero_or_pos s.cfg.arbiter.crankGap
  · rw [(noGap g).1]; simp
  · rw [(gap g).1]; simp

theorem State.crankSafe_releaseUsed {s : State} {k : Engine} (h : s.crankSafe) (out : (s.eng k).state ≠ .cranking) :
    (s.releaseUsed k).crankSafe := by
  by_cases holds : s.car.holder = some k
  · obtain ⟨holder, phase⟩ := State.releaseUsed_free holds
    refine State.crankSafe_of_free holder phase fun j hj => ?_
    rw [State.eng_congr (s := s) (by simp)] at hj
    have := h.1 j hj
    rw [holds] at this
    obtain rfl := Option.some.inj this
    exact out hj
  · rw [State.releaseUsed_other s k holds]
    exact h

theorem State.crankSafe_join {s : State} {k : Engine} (h : s.crankSafe) : (s.join k).crankSafe := by
  unfold State.join
  split
  · exact h
  · exact State.crankSafe_congr rfl rfl (fun _ => id) h

theorem State.crankSafe_formWish {s : State} (h : s.crankSafe) : s.formWish.crankSafe := by
  obtain ⟨-, holder, phase, -⟩ := s.formWish_car
  exact State.crankSafe_congr holder phase (by rw [State.eng_congr (s := s) (by simp)]; exact fun _ => id) h

/-- The arbiter's part in a change of state up to the wish: what leaves, releases and joins (R120, R123). -/
def State.supplyMoved (s : State) (k : Engine) (old new : EState) : State :=
  let left := if old = .crankWait ∧ new ≠ .cranking ∧ new ≠ .crankWait then s.leave k else s
  let released := if old = .cranking ∧ new ≠ .cranking then left.releaseUsed k else left
  if new = .crankWait ∧ old ≠ .crankWait then released.join k else released

theorem State.arbiterOnChange_eq (s : State) (k : Engine) (old new : EState) : s.arbiterOnChange k old new =
    if new = .crankWait ∨ old = .cranking then (s.supplyMoved k old new).formWish.decideGrant
    else (s.supplyMoved k old new).formWish := rfl

theorem State.supplyMoved_keeps (s : State) (k : Engine) (old new : EState) :
    (s.supplyMoved k old new).engines = s.engines ∧ (s.supplyMoved k old new).cfs = s.cfs ∧
      (s.supplyMoved k old new).limits = s.limits := by
  unfold State.supplyMoved
  simp only []
  refine ⟨?_, ?_, ?_⟩ <;> repeat' split
  all_goals simp

theorem State.crankSafe_supplyMoved {s : State} {k : Engine} {old new : EState} (h : s.crankSafe)
    (state : (s.eng k).state = new) : (s.supplyMoved k old new).crankSafe := by
  unfold State.supplyMoved
  extract_lets left released
  have hl : left.crankSafe := by
    simp only [left]
    split
    · exact State.crankSafe_congr rfl rfl (fun _ => id) h
    · exact h
  have hr : released.crankSafe := by
    have kept : left.eng k = s.eng k := by
      simp only [left]
      split <;> rfl
    simp only [released]
    split
    next out => exact State.crankSafe_releaseUsed hl (by rw [kept, state]; exact out.2)
    next => exact hl
  split
  · exact State.crankSafe_join hr
  · exact hr

/-- The arbiter's part in a change of state keeps the supply safe. -/
theorem State.crankSafe_arbiterOnChange {s : State} {k : Engine} {old new : EState} (h : s.crankSafe)
    (state : (s.eng k).state = new) : (s.arbiterOnChange k old new).crankSafe := by
  have wished := State.crankSafe_formWish (State.crankSafe_supplyMoved (old := old) h state)
  rw [State.arbiterOnChange_eq]
  split
  · exact State.crankSafe_decideGrant wished
  · exact wished

/-- Before the arbiter's part a change of state that the holder alone may make into CRANKING keeps the supply safe. -/
theorem State.crankSafe_recorded {s u : State} {k : Engine} {r : EngineRec} (h : s.crankSafe) (car : u.car = s.car)
    (engines : u.engines = s.engines.set k r) (crank : r.state = .cranking → s.car.holder = some k) : u.crankSafe := by
  refine ⟨fun j hj => ?_, by rw [car]; exact h.2⟩
  rw [State.eng, engines, PerEngine.get_set] at hj
  rw [car]
  split at hj
  next eq => rw [eq, crank hj]
  next => exact h.1 j hj

theorem State.crankSafe_enter {s : State} {k : Engine} {new : EState} {c : List CountedEvent}
    {f : EngineRec → EngineRec} (h : s.crankSafe) (may : s.mayEnter k new) : (s.enter k new c f).crankSafe := by
  obtain ⟨u, eq, car, -, engines, -⟩ := s.enter_split k new c f
  rw [eq]
  refine State.crankSafe_arbiterOnChange (State.crankSafe_recorded h car engines may.2.1) ?_
  rw [State.eng, engines, PerEngine.get_set_self]

/-- An unused release by an engine that is not CRANKING keeps the supply safe. -/
theorem State.crankSafe_releaseUnused {s : State} {k : Engine} (h : s.crankSafe) (out : (s.eng k).state ≠ .cranking) :
    (s.releaseUnused k).crankSafe := by
  unfold State.releaseUnused
  split
  next holds =>
    refine State.crankSafe_decideGrant (State.crankSafe_formWish ?_)
    obtain ⟨-, holder, phase, -⟩ := State.giveUpIfWithdrawn_car
      ((s.setCar { s.car with holder := none, gapTimer := none }).setPhase .idle none)
    refine State.crankSafe_of_free holder (by rw [phase]; simp [State.setPhase]) fun j hj => ?_
    rw [State.eng_congr (s := s) (by simp)] at hj
    have := h.1 j hj
    rw [holds] at this
    obtain rfl := Option.some.inj this
    exact out hj
  next => exact h

theorem State.crankSafe_externalGrant {s : State} (asserted : Bool) (h : s.crankSafe) :
    (s.externalGrant asserted).crankSafe := by
  unfold State.externalGrant
  split
  · exact h
  · split
    · exact State.crankSafe_decideGrant (State.crankSafe_congr rfl rfl (fun _ => id) h)
    · split
      · exact State.crankSafe_congr rfl rfl (fun _ => id) h
      · exact State.crankSafe_congr rfl rfl (fun _ => id) h
    · exact h

theorem State.crankSafe_gapEnd {s : State} (h : s.crankSafe) : s.gapEnd.crankSafe := by
  unfold State.gapEnd
  split
  · split
    next ended =>
      obtain ⟨holder, states⟩ := h.free (by rw [ended.1]; simp)
      exact State.crankSafe_decideGrant
        (State.crankSafe_of_free holder (by simp [State.setPhase]) states)
    next => exact h
  · exact h

theorem State.crankSafe_rerequestEnd {s : State} (h : s.crankSafe) : s.rerequestEnd.crankSafe := by
  unfold State.rerequestEnd
  split
  · split
    · exact State.crankSafe_congr rfl rfl (fun _ => id) h
    · exact h
  · exact h

theorem Moves.crankSafe {s t : State} (h : Moves s t) : s.crankSafe → t.crankSafe := by
  induction h with
  | refl s => exact id
  | trans _ _ ih ih' => exact ih' ∘ ih
  | edits car engines => exact State.crankSafe_of_car car engines
  | records _ _ car states =>
    exact State.crankSafe_congr (by rw [car]) (by rw [car]) fun k => by rw [states]; exact id
  | enter c f may => exact fun h => State.crankSafe_enter h may
  | decideGrant s => exact State.crankSafe_decideGrant
  | releaseUnused out => exact fun h => State.crankSafe_releaseUnused h out
  | externalGrant s b => exact State.crankSafe_externalGrant b
  | gapEnd s => exact State.crankSafe_gapEnd
  | rerequestEnd s => exact State.crankSafe_rerequestEnd

end Sys2Proof.Machine

namespace Sys2Proof.Machine

/-! ## The crank queue -/

/-- The queue holds each engine once, and exactly the fitted engines that wait in some states, other than the holder. -/
def State.queueHolds (s : State) (states : Engine → EState) : Prop :=
  s.car.queue.Nodup ∧
    ∀ k, k ∈ s.car.queue ↔ s.fitted k = true ∧ states k = .crankWait ∧ s.car.holder ≠ some k

theorem State.queueGood_iff (s : State) : s.queueGood ↔ s.queueHolds fun k => (s.eng k).state := Iff.rfl

theorem State.queueHolds_congr {s t : State} {st : Engine → EState} (queue : t.car.queue = s.car.queue)
    (holder : t.car.holder = s.car.holder) (cfg : t.cfg = s.cfg) (h : s.queueHolds st) : t.queueHolds st := by
  unfold State.queueHolds
  rw [queue, holder, State.fitted_of_cfg cfg]
  exact h

theorem State.queueGood_congr {s t : State} (queue : t.car.queue = s.car.queue) (holder : t.car.holder = s.car.holder)
    (cfg : t.cfg = s.cfg) (states : ∀ k, (t.eng k).state = (s.eng k).state) (h : s.queueGood) : t.queueGood := by
  rw [State.queueGood_iff] at h ⊢
  simp only [states]
  exact State.queueHolds_congr queue holder cfg h

theorem State.queueHolds_leave {s : State} {k : Engine} {st st' : Engine → EState} (h : s.queueHolds st)
    (out : st' k ≠ .crankWait) (others : ∀ j, j ≠ k → st' j = st j) : (s.leave k).queueHolds st' := by
  refine ⟨h.1.erase k, fun j => ?_⟩
  have erased : j ∈ s.car.queue.erase k ↔ j ≠ k ∧ j ∈ s.car.queue := h.1.mem_erase_iff
  by_cases eq : j = k
  · subst eq
    simp only [State.leave, State.setCar_car, erased, ne_eq, not_true_eq_false, false_and, out]
    simp
  · rw [others j eq]
    simp only [State.leave, State.setCar_car, erased, h.2 j]
    simp only [eq, ne_eq, not_false_eq_true, true_and]
    rfl

theorem State.queueHolds_join {s : State} {k : Engine} {st st' : Engine → EState} (h : s.queueHolds st)
    (fitted : s.fitted k = true) (out : st k ≠ .crankWait) (wait : st' k = .crankWait)
    (others : ∀ j, j ≠ k → st' j = st j) : (s.join k).queueHolds st' := by
  have absent : k ∉ s.car.queue := fun mem => out ((h.2 k).mp mem).2.1
  unfold State.join
  split
  next held =>
    have holds : s.car.holder = some k := by simpa [absent] using held
    refine ⟨h.1, fun j => ?_⟩
    by_cases eq : j = k
    · subst eq; simp [absent, holds]
    · rw [others j eq]; exact h.2 j
  next free =>
    have other : s.car.holder ≠ some k := by simpa [absent] using free
    refine ⟨?_, fun j => ?_⟩
    · simpa [List.nodup_append] using ⟨h.1, fun j hj eq => absent (eq ▸ hj)⟩
    · by_cases eq : j = k
      · subst eq
        simp only [State.setCar_car, List.mem_append, List.mem_singleton, or_true, true_iff]
        exact ⟨fitted, wait, other⟩
      · rw [others j eq, State.fitted_congr (s := s) (by simp)]
        simpa [eq] using h.2 j

/-- A used release by an engine that does not wait leaves the queue as it should be. -/
theorem State.queueHolds_releaseUsed {s : State} {k : Engine} {st : Engine → EState} (h : s.queueHolds st)
    (out : st k ≠ .crankWait) : (s.releaseUsed k).queueHolds st := by
  by_cases holds : s.car.holder = some k
  · obtain ⟨holder, queue, -⟩ := s.releaseUsed_car k holds
    refine ⟨by rw [queue]; exact h.1, fun j => ?_⟩
    rw [queue, holder, State.fitted_congr (s := s) (by simp), h.2 j, holds]
    by_cases eq : j = k
    · subst eq; simp [out]
    · simp [Ne.symm eq]
  · rw [State.releaseUsed_other s k holds]
    exact h

theorem State.queueHolds_formWish {s : State} {st : Engine → EState} (h : s.queueHolds st) :
    s.formWish.queueHolds st := by
  obtain ⟨queue, holder, -, -⟩ := s.formWish_car
  exact State.queueHolds_congr queue holder (State.cfg_congr (by simp)) h

/-- A grant decision with no holder before takes the engine granted out of the queue. -/
theorem State.queueHolds_decideGrant {s : State} {st : Engine → EState} (h : s.queueHolds st)
    (free : s.car.phase = .idle → s.car.holder = none) : s.decideGrant.queueHolds st := by
  obtain ⟨he, -⟩ | ⟨k, idle, -, -, car, -⟩ := s.decideGrant_cases
  · rw [he]; exact h
  · refine ⟨by rw [car]; exact h.1.erase k, fun j => ?_⟩
    rw [car, State.fitted_congr (s := s) (by simp)]
    have erased : j ∈ s.car.queue.erase k ↔ j ≠ k ∧ j ∈ s.car.queue := h.1.mem_erase_iff
    rw [erased, h.2 j, free idle]
    by_cases eq : j = k
    · simp [eq]
    · simp [eq, Ne.symm eq]

/-- A change of states that is none for the queue. -/
theorem State.queueHolds_states {s : State} {k : Engine} {st st' : Engine → EState} (h : s.queueHolds st)
    (same : (st' k = .crankWait ∧ s.car.holder ≠ some k) ↔ (st k = .crankWait ∧ s.car.holder ≠ some k))
    (others : ∀ j, j ≠ k → st' j = st j) : s.queueHolds st' := by
  refine ⟨h.1, fun j => ?_⟩
  by_cases eq : j = k
  · subst eq
    rw [h.2 j, same]
  · rw [others j eq]
    exact h.2 j

/-- What leaves, releases and joins in a change of state keeps the queue that of the states (R120). -/
theorem State.queueHolds_supplyMoved {s : State} {k : Engine} {st st' : Engine → EState} (h : s.queueHolds st)
    (fitted : s.fitted k = true) (crank : st' k = .cranking → s.car.holder = some k)
    (others : ∀ j, j ≠ k → st' j = st j) : (s.supplyMoved k (st k) (st' k)).queueHolds st' := by
  unfold State.supplyMoved
  extract_lets left released
  by_cases waited : st k = .crankWait
  · have notReleased : released = left := if_neg (by simp [waited])
    rw [if_neg (by simp [waited]), notReleased]
    simp only [left]
    split
    next out => exact State.queueHolds_leave h out.2.2 others
    next stays =>
      refine State.queueHolds_states h ?_ others
      by_cases cranking : st' k = .cranking
      · simp [crank cranking]
      · have : st' k = .crankWait := by simpa [waited, cranking] using stays
        rw [this, waited]
  · have stays : left = s := if_neg (by simp [waited])
    have released_ok : released.queueHolds st ∧ released.fitted k = true := by
      simp only [released, stays]
      split
      · exact ⟨State.queueHolds_releaseUsed h waited, by rw [State.fitted_congr (s := s) (by simp), fitted]⟩
      · exact ⟨h, fitted⟩
    split
    next joins => exact State.queueHolds_join released_ok.1 released_ok.2 waited joins.1 others
    next stays =>
      have : st' k ≠ .crankWait := by simpa [waited] using stays
      exact State.queueHolds_states released_ok.1 (by simp [this, waited]) others

theorem State.crankSafe.noHolder {s : State} (h : s.crankSafe) (idle : s.car.phase = .idle) : s.car.holder = none :=
  (h.free (by rw [idle]; simp)).1

theorem State.queueGood_decideGrant {s : State} (h : s.queueGood) (safe : s.crankSafe) : s.decideGrant.queueGood := by
  rw [State.queueGood_iff, State.eng_congr (s := s) (by simp)]
  exact State.queueHolds_decideGrant h safe.noHolder

theorem State.queueGood_formWish {s : State} (h : s.queueGood) : s.formWish.queueGood := by
  rw [State.queueGood_iff, State.eng_congr (s := s) (by simp)]
  exact State.queueHolds_formWish h

/-- A change of state keeps the queue good (R120). -/
theorem State.queueGood_enter {s : State} {k : Engine} {new : EState} {c : List CountedEvent}
    {f : EngineRec → EngineRec} (safe : s.crankSafe) (h : s.queueGood) (may : s.mayEnter k new) :
    (s.enter k new c f).queueGood := by
  obtain ⟨u, eq, car, cfs, engines, -⟩ := s.enter_split k new c f
  have state : (u.eng k).state = new := by rw [State.eng, engines, PerEngine.get_set_self]
  have others (j : Engine) (hj : j ≠ k) : (u.eng j).state = (s.eng j).state := by
    rw [State.eng, engines, PerEngine.get_set_other _ _ _ _ hj, State.eng]
  have before : u.queueHolds fun j => (s.eng j).state :=
    State.queueHolds_congr (by rw [car]) (by rw [car]) (State.cfg_congr cfs) h
  have safeU : u.crankSafe := State.crankSafe_recorded safe car engines may.2.1
  have moved : (u.supplyMoved k (s.eng k).state new).queueGood := by
    have := State.queueHolds_supplyMoved (st' := fun j => (u.eng j).state) before
      (by rw [State.fitted_congr cfs]; exact may.1) (by rw [state, car]; exact may.2.1) others
    rw [state] at this
    rw [State.queueGood_iff, State.eng_congr (u.supplyMoved_keeps _ _ _).1]
    exact this
  have wished := State.crankSafe_formWish (State.crankSafe_supplyMoved (old := (s.eng k).state) safeU state)
  rw [eq, State.arbiterOnChange_eq]
  split
  · exact State.queueGood_decideGrant (State.queueGood_formWish moved) wished
  · exact State.queueGood_formWish moved

/-- An unused release by an engine that does not wait keeps the queue good. -/
theorem State.queueGood_releaseUnused {s : State} {k : Engine} (safe : s.crankSafe) (h : s.queueGood)
    (out : (s.eng k).state ≠ .cranking) (absent : ¬ (s.fitted k = true ∧ (s.eng k).state = .crankWait)) :
    (s.releaseUnused k).queueGood := by
  by_cases holds : s.car.holder = some k
  · rw [State.releaseUnused, if_pos holds]
    have car := State.giveUpIfWithdrawn_car
      ((s.setCar { s.car with holder := none, gapTimer := none }).setPhase .idle none)
    generalize hu : State.giveUpIfWithdrawn _ = u at car
    have engines : u.engines = s.engines := by rw [← hu]; simp
    have cfs : u.cfs = s.cfs := by rw [← hu]; simp
    simp only [State.setPhase, State.emit_keeps, State.setCar_car] at car
    obtain ⟨queue, holder, phase, -⟩ := car
    have good : u.queueGood := by
      refine ⟨by rw [queue]; exact h.1, fun j => ?_⟩
      rw [queue, holder, State.fitted_congr cfs, State.eng_congr engines, h.2 j, holds]
      by_cases eq : j = k
      · subst eq
        simp only [ne_eq, not_true_eq_false, and_false, false_iff, reduceCtorEq, not_false_eq_true, and_true]
        exact absent
      · simp [Ne.symm eq]
    have safeU : u.crankSafe := by
      refine State.crankSafe_of_free holder (by rw [phase]; simp) fun j hj => ?_
      rw [State.eng_congr engines] at hj
      have := safe.1 j hj
      rw [holds] at this
      obtain rfl := Option.some.inj this
      exact out hj
    exact State.queueGood_decideGrant (State.queueGood_formWish good) (State.crankSafe_formWish safeU)
  · rw [State.releaseUnused, if_neg holds]
    exact h

theorem State.queueGood_externalGrant {s : State} (asserted : Bool) (safe : s.crankSafe) (h : s.queueGood) :
    (s.externalGrant asserted).queueGood := by
  unfold State.externalGrant
  split
  · exact h
  · split
    · exact State.queueGood_decideGrant (State.queueGood_congr rfl rfl rfl (fun _ => rfl) h)
        (State.crankSafe_congr rfl rfl (fun _ => id) safe)
    · split
      · exact State.queueGood_congr rfl rfl rfl (fun _ => rfl) h
      · exact State.queueGood_congr rfl rfl rfl (fun _ => rfl) h
    · exact h

theorem State.queueGood_gapEnd {s : State} (safe : s.crankSafe) (h : s.queueGood) : s.gapEnd.queueGood := by
  unfold State.gapEnd
  split
  · split
    next ended =>
      obtain ⟨holder, states⟩ := safe.free (by rw [ended.1]; simp)
      exact State.queueGood_decideGrant (State.queueGood_congr rfl rfl rfl (fun _ => rfl) h)
        (State.crankSafe_of_free holder (by simp [State.setPhase]) states)
    next => exact h
  · exact h

theorem State.queueGood_rerequestEnd {s : State} (h : s.queueGood) : s.rerequestEnd.queueGood := by
  unfold State.rerequestEnd
  split
  · split
    · exact State.queueGood_congr rfl rfl rfl (fun _ => rfl) h
    · exact h
  · exact h

theorem Moves.queueGood {s t : State} (h : Moves s t) : s.crankSafe → s.queueGood → t.queueGood := by
  induction h with
  | refl s => exact fun _ => id
  | trans h _ ih ih' => exact fun safe good => ih' (h.crankSafe safe) (ih safe good)
  | edits car engines cfs =>
    exact fun _ => State.queueGood_congr (by rw [car]) (by rw [car]) (State.cfg_congr cfs) fun k => by rw [State.eng_congr engines]
  | records _ _ car states cfs => exact fun _ => State.queueGood_congr (by rw [car]) (by rw [car]) (State.cfg_congr cfs) states
  | enter c f may => exact fun safe good => State.queueGood_enter safe good may
  | decideGrant s => exact fun safe good => State.queueGood_decideGrant good safe
  | releaseUnused out absent => exact fun safe good => State.queueGood_releaseUnused safe good out absent
  | externalGrant s b => exact State.queueGood_externalGrant b
  | gapEnd s => exact State.queueGood_gapEnd
  | rerequestEnd s => exact fun _ => State.queueGood_rerequestEnd

/-! ## At rest during a write -/

theorem State.writeResting_of_writing {s t : State} (cfg : t.cfg = s.cfg) (writing : t.writing = true → s.writing = true)
    (states : ∀ k, (t.eng k).state = (s.eng k).state) (h : s.writeResting) : t.writeResting := by
  unfold State.writeResting
  rw [State.fitted_of_cfg cfg]
  simp only [states]
  exact fun w => h (writing w)

theorem State.writeResting_congr {s t : State} (cfs : t.cfs = s.cfs) (states : ∀ k, (t.eng k).state = (s.eng k).state)
    (h : s.writeResting) : t.writeResting :=
  State.writeResting_of_writing (State.cfg_congr cfs) (by rw [State.writing_congr cfs]; exact id) states h

theorem State.writeResting_enter {s : State} {k : Engine} {new : EState} {c : List CountedEvent}
    {f : EngineRec → EngineRec} (h : s.writeResting) (may : s.mayEnter k new) : (s.enter k new c f).writeResting := by
  intro writing j fitted
  rw [State.writing_congr (s := s) (by simp)] at writing
  rw [State.fitted_congr (s := s) (by simp)] at fitted
  rw [State.enter_state]
  split
  next =>
    obtain ⟨fittedK, -, running | resting | idle⟩ := may
    · simp [h writing k fittedK] at running
    · exact resting
    · simp [writing] at idle
  next => exact h writing j fitted

theorem Moves.writeResting {s t : State} (h : Moves s t) : s.writeResting → t.writeResting := by
  induction h with
  | refl s => exact id
  | trans _ _ ih ih' => exact ih' ∘ ih
  | edits _ engines cfs => exact State.writeResting_congr cfs fun k => by rw [State.eng_congr engines]
  | records _ _ _ states cfs => exact State.writeResting_congr cfs states
  | enter c f may => exact fun h => State.writeResting_enter h may
  | _ =>
    exact State.writeResting_congr (by simp) fun k =>
      congrArg EngineRec.state (congrFun (State.eng_congr (by simp)) k)

end Sys2Proof.Machine

namespace Sys2Proof.Machine

/-! ## The line -/

/-- What the line keeps between two formings of the wish: QUIET in EXCLUSIVE; in SHARED WITHDRAWN only with a holder, and the
re-request timer runs exactly in BACKOFF (R128, R130). -/
def State.lineLoose (s : State) : Prop :=
  (s.cfg.arbiter.sharing = .exclusive → s.car.line = .quiet ∧ s.car.rerequest = none) ∧
    (s.cfg.arbiter.sharing = .shared → (s.car.line = .withdrawn → s.car.holder.isSome = true) ∧
      (s.car.line = .backoff ↔ s.car.rerequest.isSome = true))

/-- In SHARED the line agrees with the wish (R127). -/
def State.lineWished (s : State) : Prop :=
  s.cfg.arbiter.sharing = .shared →
    (s.car.line = .quiet → ¬ s.wantsSupply) ∧ (s.car.line = .asking ∨ s.car.line = .held → s.wantsSupply)

theorem State.lineGood_iff (s : State) : s.lineGood ↔ s.lineLoose ∧ s.lineWished := by
  unfold State.lineGood State.lineLoose State.lineWished
  constructor
  · rintro ⟨ex, sh⟩
    exact ⟨⟨ex, fun h => (sh h).2.2⟩, fun h => ⟨(sh h).1, (sh h).2.1⟩⟩
  · rintro ⟨⟨ex, sh⟩, wish⟩
    exact ⟨ex, fun h => ⟨(wish h).1, (wish h).2, sh h⟩⟩

theorem State.lineLoose_congr {s t : State} (cfg : t.cfg = s.cfg) (line : t.car.line = s.car.line)
    (rerequest : t.car.rerequest = s.car.rerequest) (holder : s.car.holder.isSome = true → t.car.holder.isSome = true)
    (h : s.lineLoose) : t.lineLoose := by
  unfold State.lineLoose
  rw [cfg, line, rerequest]
  exact ⟨h.1, fun sh => ⟨fun w => holder ((h.2 sh).1 w), (h.2 sh).2⟩⟩

theorem Sharing.shared_of_ne {x : Sharing} (h : x ≠ .exclusive) : x = .shared := by
  cases x
  · exact absurd rfl h
  · rfl

/-- De-asserting the request leaves the line in BACKOFF with its timer at 0. -/
theorem State.lineGood_deassert {s : State} (shared : s.cfg.arbiter.sharing = .shared) : s.deassert.lineGood := by
  have cfg : s.deassert.cfg = s.cfg := rfl
  unfold State.lineGood
  rw [cfg, shared]
  simp [State.deassert]

theorem State.wantsSupply_congr {s t : State} (queue : t.car.queue = s.car.queue) (holder : t.car.holder = s.car.holder)
    (cfg : t.cfg = s.cfg) (states : ∀ k, (t.eng k).state = (s.eng k).state) : t.wantsSupply ↔ s.wantsSupply := by
  simp only [State.wantsSupply, queue, holder, cfg, State.fitted_of_cfg cfg, states]

/-- Forming the wish brings the line in agreement with it. -/
theorem State.lineGood_formWish {s : State} (h : s.lineLoose) : s.formWish.lineGood := by
  obtain ⟨ex, sh⟩ := h
  unfold State.formWish
  split
  next mode => exact ⟨fun _ => ex mode, fun h => by simp [mode] at h⟩
  next mode =>
    have shared := Sharing.shared_of_ne mode
    obtain ⟨withdrawn, backoff⟩ := sh shared
    have wish := s.wish_iff
    have good (line : s.car.line = .quiet → ¬ s.wantsSupply)
        (asks : s.car.line = .asking ∨ s.car.line = .held → s.wantsSupply) : s.lineGood :=
      ⟨fun h => by simp [shared] at h, fun _ => ⟨line, asks, withdrawn, backoff⟩⟩
    split
    next quiet =>
      split
      next wants =>
        have same := State.wantsSupply_congr (s := s) (t := s.setCar { s.car with line := .asking }) rfl rfl rfl fun _ => rfl
        have cfg : (s.setCar { s.car with line := .asking }).cfg = s.cfg := rfl
        refine ⟨fun h => by simp [cfg, shared] at h, fun _ => ⟨nofun, fun _ => same.mpr (wish.mp wants), nofun, ?_⟩⟩
        simpa [quiet] using backoff
      next wants => exact good (fun _ => fun w => wants (wish.mpr w)) (by simp [quiet])
    all_goals try
      split
      next wants => exact good (by simp [*]) fun _ => wish.mp wants
      next => exact State.lineGood_deassert shared
    all_goals exact good (by simp [*]) (by simp [*])

theorem State.lineGood_decideGrant {s : State} (h : s.lineGood) : s.decideGrant.lineGood := by
  obtain ⟨he, -⟩ | ⟨k, -, held, -, car, -⟩ := s.decideGrant_cases
  · rw [he]; exact h
  · rw [State.lineGood_iff] at h ⊢
    refine ⟨State.lineLoose_congr (s := s) (State.cfg_congr (by simp)) (by rw [car]) (by rw [car]) (by simp [car]) h.1, fun shared => ?_⟩
    have cfg : s.decideGrant.cfg = s.cfg := State.cfg_congr (by simp)
    have line : s.car.line = .held := by
      rw [cfg] at shared
      simpa [State.supplyHeld, shared] using held
    rw [car]
    exact ⟨by simp [line], fun _ => .inr (.inl (by simp [car]))⟩

theorem State.lineLoose_join {s : State} {k : Engine} (h : s.lineLoose) : (s.join k).lineLoose := by
  unfold State.join
  split
  · exact h
  · exact State.lineLoose_congr rfl rfl rfl id h

/-- The release of the holder, with the line given up in WITHDRAWN, leaves the line loose. -/
theorem State.lineLoose_giveUp {s u : State} (h : s.lineLoose) (cfs : u.cfs = s.cfs) (line : u.car.line = s.car.line)
    (rerequest : u.car.rerequest = s.car.rerequest) : u.giveUpIfWithdrawn.lineLoose := by
  have cfg := State.cfg_congr cfs
  unfold State.giveUpIfWithdrawn
  split
  next withdrawn =>
    refine ((State.lineGood_iff _).mp (State.lineGood_deassert (Sharing.shared_of_ne fun mode => ?_))).1
    rw [cfg] at mode
    have := (h.1 mode).1
    rw [← line, withdrawn] at this
    cases this
  next kept =>
    unfold State.lineLoose
    rw [cfg, line, rerequest]
    exact ⟨h.1, fun sh => ⟨fun w => absurd (line.trans w) kept, (h.2 sh).2⟩⟩

theorem State.lineLoose_releaseUsed {s : State} {k : Engine} (h : s.lineLoose) : (s.releaseUsed k).lineLoose := by
  by_cases holds : s.car.holder = some k
  · unfold State.releaseUsed
    rw [if_pos holds]
    extract_lets src t
    have given : t.lineLoose := State.lineLoose_giveUp h rfl rfl rfl
    split
    · exact State.lineLoose_congr rfl rfl rfl id given
    · exact given
  · rw [State.releaseUsed_other s k holds]
    exact h

theorem State.lineLoose_supplyMoved {s : State} {k : Engine} {old new : EState} (h : s.lineLoose) :
    (s.supplyMoved k old new).lineLoose := by
  unfold State.supplyMoved
  extract_lets left released
  have hl : left.lineLoose := by
    simp only [left]
    split
    · exact State.lineLoose_congr rfl rfl rfl id h
    · exact h
  have hr : released.lineLoose := by
    simp only [released]
    split
    · exact State.lineLoose_releaseUsed hl
    · exact hl
  split
  · exact State.lineLoose_join hr
  · exact hr

theorem State.lineGood_arbiterOnChange {s : State} {k : Engine} {old new : EState} (h : s.lineLoose) :
    (s.arbiterOnChange k old new).lineGood := by
  have wished := State.lineGood_formWish (State.lineLoose_supplyMoved (k := k) (old := old) (new := new) h)
  rw [State.arbiterOnChange_eq]
  split
  · exact State.lineGood_decideGrant wished
  · exact wished

/-- After every change of state the line agrees with the wish. -/
theorem State.lineGood_enter {s : State} {k : Engine} {new : EState} {c : List CountedEvent}
    {f : EngineRec → EngineRec} (h : s.lineLoose) : (s.enter k new c f).lineGood := by
  obtain ⟨u, eq, car, cfs, -⟩ := s.enter_split k new c f
  rw [eq]
  exact State.lineGood_arbiterOnChange (State.lineLoose_congr (State.cfg_congr cfs) (by rw [car]) (by rw [car]) (by rw [car]; exact id) h)

theorem State.lineGood_releaseUnused {s : State} {k : Engine} (h : s.lineGood) : (s.releaseUnused k).lineGood := by
  have loose := (s.lineGood_iff.mp h).1
  unfold State.releaseUnused
  split
  · exact State.lineGood_decideGrant (State.lineGood_formWish (State.lineLoose_giveUp loose rfl rfl rfl))
  · exact h

theorem State.lineGood_externalGrant {s : State} (asserted : Bool) (h : s.lineGood) :
    (s.externalGrant asserted).lineGood := by
  unfold State.externalGrant
  split
  · exact h
  next mode =>
    have shared := Sharing.shared_of_ne mode
    obtain ⟨-, asks, -, backoff⟩ := h.2 shared
    split
    next _ _ asking =>
      refine State.lineGood_decideGrant ⟨fun h => absurd h mode, fun _ => ⟨nofun, fun _ => ?_, nofun, ?_⟩⟩
      · exact (State.wantsSupply_congr (s := s) rfl rfl rfl fun _ => rfl).mpr (asks (.inl asking))
      · simpa [asking] using backoff
    next _ _ held =>
      split
      next holder =>
        refine ⟨fun h => absurd h mode, fun _ => ⟨nofun, by simp, fun _ => holder, ?_⟩⟩
        simpa [held] using backoff
      next => exact State.lineGood_deassert shared
    next => exact h

theorem State.lineGood_congr {s t : State} (car : t.car = s.car) (cfg : t.cfg = s.cfg)
    (states : ∀ k, (t.eng k).state = (s.eng k).state) (h : s.lineGood) : t.lineGood := by
  unfold State.lineGood
  rw [cfg, State.wantsSupply_congr (s := s) (by rw [car]) (by rw [car]) cfg states, car]
  exact h

theorem State.lineGood_gapEnd {s : State} (h : s.lineGood) : s.gapEnd.lineGood := by
  unfold State.gapEnd
  split
  · split
    · refine State.lineGood_decideGrant ?_
      have same := State.wantsSupply_congr (s := s)
        (t := (s.setCar { s.car with gapTimer := none }).setPhase .idle none) rfl rfl rfl fun _ => rfl
      exact ⟨h.1, fun sh => by rw [same]; exact h.2 sh⟩
    · exact h
  · exact h

theorem State.lineGood_rerequestEnd {s : State} (h : s.lineGood) : s.rerequestEnd.lineGood := by
  unfold State.rerequestEnd
  split
  next n _ =>
    split
    next due =>
      have wish := s.wish_iff
      have same := State.wantsSupply_congr (s := s)
        (t := s.setCar { s.car with line := if s.wish then .asking else .quiet, rerequest := none }) rfl rfl rfl
        fun _ => rfl
      refine ⟨fun ex => ?_, fun sh => ?_⟩
      · have := (h.1 ex).1
        rw [due.1] at this
        cases this
      · rw [same]
        cases hw : s.wish <;> simp [hw] at wish ⊢ <;> simpa using wish
    next => exact h
  · exact h

theorem Moves.lineGood {s t : State} (h : Moves s t) : s.lineGood → t.lineGood := by
  induction h with
  | refl s => exact id
  | trans _ _ ih ih' => exact ih' ∘ ih
  | edits car engines cfs => exact State.lineGood_congr car (State.cfg_congr cfs) fun k => by rw [State.eng_congr engines]
  | records _ _ car states cfs => exact State.lineGood_congr car (State.cfg_congr cfs) states
  | enter c f _ => exact fun h => State.lineGood_enter ((State.lineGood_iff _).mp h).1
  | decideGrant s => exact State.lineGood_decideGrant
  | releaseUnused => exact State.lineGood_releaseUnused
  | externalGrant s b => exact State.lineGood_externalGrant b
  | gapEnd s => exact State.lineGood_gapEnd
  | rerequestEnd s => exact State.lineGood_rerequestEnd

end Sys2Proof.Machine

namespace Sys2Proof.Machine

/-! ## The configuration apply (R193) -/

theorem Moves.foldl {act : Engine → State → State} (h : ∀ k t, Moves t (act k t)) (ks : List Engine) (s : State) :
    Moves s (ks.foldl (fun t k => act k t) s) := by
  induction ks generalizing s with
  | nil => exact .refl s
  | cons k ks ih => exact .trans (h k s) (ih _)

theorem Moves.forFitted {act : Engine → State → State} (h : ∀ k t, Moves t (act k t)) (s : State) :
    Moves s (s.forFitted act) := .foldl h _ s

/-- An entry at an apply keeps its owner, its kind and its expiry. -/
theorem State.applyEntry_keeps {s : State} {e f : Entry} (h : s.applyEntry e = some f) :
    f.owner = e.owner ∧ f.kind = e.kind ∧ f.expiry = e.expiry := by
  unfold State.applyEntry at h
  split at h <;> try split at h
  all_goals cases h
  all_goals exact ⟨rfl, rfl, rfl⟩

theorem State.tableKept_applied (s : State) : s.tableKept (s.changeTable s.appliedTable) := by
  have table := (s.changeTable_spec s.appliedTable).1
  have slot (n : Nat) : slotAt s.appliedTable n =
      { slotAt s.table n with entry := (slotAt s.table n).entry.bind s.applyEntry } := by
    simp only [slotAt, State.appliedTable, List.getD_eq_getElem?_getD, List.getElem?_map]
    cases s.table[n]? <;> rfl
  refine ⟨fun good => ?_, fun good => ?_⟩
  · obtain ⟨⟨length, slots⟩, -⟩ := s.tableGood_iff.mp good
    rw [State.tableGood_iff, State.changeTable_limits, table]
    refine ⟨⟨by rw [State.appliedTable, List.length_map, length], fun n => ?_⟩, rfl⟩
    have good := slots n
    rw [slot]
    unfold slotGood at good ⊢
    cases he : (slotAt s.table n).entry with
    | none => simp
    | some e =>
      rw [he] at good
      cases hf : s.applyEntry e with
      | none => simp [hf]
      | some f =>
        obtain ⟨owner, kind, -⟩ := State.applyEntry_keeps hf
        simpa [hf, owner, kind] using good
  · rw [State.expiriesGood_iff, table]
    intro f m hf hm
    simp only [liveEntries, State.appliedTable, List.filterMap_map, List.mem_filterMap, Function.comp_apply,
      Option.bind_eq_some_iff] at hf
    obtain ⟨x, hx, e, he, applied⟩ := hf
    refine good e m (List.mem_filterMap.mpr ⟨x, hx, he⟩) ?_
    rw [← hm, (State.applyEntry_keeps applied).2.2]

/-- An engine becomes or ceases to be fitted with the apply. -/
def State.refits (s : State) (old : Image) (k : Engine) : Bool := s.fitted k != fittedBy old.roster.fitted k

/-- The blocks before the table at an apply: filters, plan, records, arbiter, sensing, battery, and the events of engines no
longer fitted. -/
def State.appliedBlocks (s : State) (old : Image) : State :=
  ((((((s.applyLic (s.refits old)).applyPlan).applyEngines (s.refits old)).applyCar old.arbiter.sharing).applySensing
    (s.refits old)).applyBsm).dropUnfitted

/-- The table and the counters at an apply. -/
def State.appliedTables (s : State) (old : Image) : State :=
  ((s.appliedBlocks old).changeTable (s.appliedBlocks old).appliedTable).applyDct (s.refits old)

theorem State.apply_eq (s : State) (old : Image) :
    s.apply old = ((s.appliedTables old).formWish.decideGrant).emit (.replan .apply) := rfl

/-- At an apply the arbiter keeps its queue, holder, phase and gap; a change of mode takes the line to QUIET (R132). -/
theorem State.appliedBlocks_car (s : State) (old : Image) : (s.appliedBlocks old).car =
    if s.cfg.arbiter.sharing = old.arbiter.sharing then s.car else { s.car with line := .quiet, rerequest := none } := by
  have cfg : ((s.applyLic (s.refits old)).applyPlan.applyEngines (s.refits old)).cfg = s.cfg :=
    State.cfg_congr (by simp)
  simp only [State.appliedBlocks, State.dropUnfitted_keeps, State.applyBsm_keeps, State.applySensing_keeps,
    State.applyCar, cfg]
  split <;> simp

theorem State.appliedBlocks_keeps (s : State) (old : Image) : (s.appliedBlocks old).cfs = s.cfs ∧
    (s.appliedBlocks old).table = s.table ∧ (s.appliedBlocks old).limits = s.limits := by
  simp [State.appliedBlocks]

/-- An engine newly or no longer fitted has a fresh record, any other keeps its own. -/
theorem State.appliedBlocks_eng (s : State) (old : Image) (k : Engine) :
    (s.appliedBlocks old).eng k = if s.refits old k then .fresh else s.eng k := by
  have eng : ((s.applyLic (s.refits old)).applyPlan).eng = s.eng := State.eng_congr (by simp)
  simp only [State.appliedBlocks, State.eng, State.dropUnfitted_keeps, State.applyBsm_keeps,
    State.applySensing_keeps, State.applyCar_keeps]
  simp only [State.applyEngines, State.setNotices_keeps, State.setEngines_engines, PerEngine.get_of, eng]
  rfl

theorem State.appliedBlocks_link (s : State) (old : Image) : Part.link.same s (s.appliedBlocks old) := by
  simp [State.appliedBlocks, Part.same, State.applyEngines, State.setNotices]

theorem State.tableKept_appliedBlocks (s : State) (old : Image) : s.tableKept (s.appliedBlocks old) :=
  State.tableKept_of_eq (s.appliedBlocks_keeps old).2.1 (s.appliedBlocks_keeps old).2.2

theorem Moves.applyDct (s : State) (changed : Engine → Bool) : Moves s (s.applyDct changed) := by
  unfold State.applyDct
  exact .trans (.setDct s _) (.forFitted (fun k t => .lockoutTest t k) _)

theorem Moves.appliedTables (s : State) (old : Image) : Moves (s.appliedBlocks old) (s.appliedTables old) := by
  unfold State.appliedTables
  generalize s.appliedBlocks old = t
  exact .trans (.changeTable t.tableKept_applied) (.applyDct _ _)

theorem State.appliedTables_car (s : State) (old : Image) : (s.appliedTables old).car = (s.appliedBlocks old).car := by
  simp [State.appliedTables]

/-- What an apply ends with: the wish, the grant decision and the re-plan. -/
theorem Moves.applyEnd (s : State) : Moves s.formWish (s.formWish.decideGrant.emit (.replan .apply)) :=
  .trans (.decideGrant _) (.emit _ _)

/-! ## The end of a configuration write -/

/-- The write over at the Configuration Store (R191, R193). -/
def State.writeEnded (s : State) (d : SectionData) : State := (s.setCfs (s.cfs.finish d)).emit (.replan .write)

theorem State.writeComplete_eq (s : State) : s.writeComplete =
    match s.cfs.write with
    | some d => (if (s.writeEnded d).valid then (s.writeEnded d).apply s.cfg else s.writeEnded d).forFitted
        fun k v => v.runDemandStart k
    | none => s := rfl

theorem Marks.put_same (d : SectionData) : (Marks.same true).put d = Marks.same true := by cases d <;> rfl

/-- A write that leaves the configuration invalid leaves the defaults in use. -/
theorem State.writeEnded_cfg {s : State} {d : SectionData} (h : (s.writeEnded d).valid = false) :
    (s.writeEnded d).cfg = s.cfg := by
  have before : s.valid = false := by
    by_contra valid
    have marks : s.cfs.marks = Marks.same true := by simpa [State.valid] using valid
    simp [State.valid, State.writeEnded, Cfs.finish, marks, Marks.put_same] at h
  simp [State.cfg, h, before]

/-- With the write over, an apply if the configuration is valid: a property that holds then or after the apply, and that
moves keep, holds at the end of the write. -/
theorem State.writeComplete_ends {P : State → Prop} {s : State} (moves : ∀ {s t}, Moves s t → P s → P t) (h : P s)
    (applied : ∀ d, s.cfs.write = some d → (s.writeEnded d).valid = true →
      P ((s.writeEnded d).appliedTables s.cfg).formWish)
    (ended : ∀ d, s.cfs.write = some d → (s.writeEnded d).valid = false → P (s.writeEnded d)) : P s.writeComplete := by
  rw [State.writeComplete_eq]
  split
  next d write =>
    refine moves (.forFitted (fun k t => .runDemandStart t k) _) ?_
    split
    next valid => exact moves (.applyEnd _) (applied d write valid)
    next invalid => exact ended d write (by simpa using invalid)
  next => exact h

theorem State.tableKept_writeComplete (s : State) : s.tableKept s.writeComplete := by
  refine s.writeComplete_ends (P := s.tableKept) (fun m h => State.tableKept_trans h m.tableKept)
    (State.tableKept_of_eq rfl rfl) (fun d _ _ => ?_) fun d _ _ => State.tableKept_of_eq rfl rfl
  refine State.tableKept_trans (State.tableKept_of_eq (t := s.writeEnded d) rfl rfl) ?_
  refine State.tableKept_trans (State.tableKept_appliedBlocks _ s.cfg) ?_
  exact State.tableKept_trans (Moves.appliedTables _ _).tableKept (State.tableKept_of_eq (by simp) (by simp))

theorem State.link_writeComplete (s : State) : Part.link.same s s.writeComplete := by
  refine s.writeComplete_ends (P := fun t => Part.link.same s t) (fun m h => Part.same_trans h m.link)
    (Part.same_refl _ _) (fun d _ _ => ?_) fun d _ _ => Part.link_same_of_cli rfl
  refine Part.same_trans (p := .link) (t := s.writeEnded d) (Part.link_same_of_cli rfl) ?_
  refine Part.same_trans (p := .link) (State.appliedBlocks_link _ s.cfg) ?_
  exact Part.same_trans (p := .link) (Moves.appliedTables _ _).link (Part.link_same_of_cli (by simp))

theorem State.crankSafe_writeComplete {s : State} (h : s.crankSafe) : s.writeComplete.crankSafe := by
  refine s.writeComplete_ends Moves.crankSafe h (fun d _ _ => State.crankSafe_formWish ?_) fun d _ _ =>
    State.crankSafe_of_car (s := s) rfl rfl h
  refine (Moves.appliedTables _ _).crankSafe ?_
  have car := (s.writeEnded d).appliedBlocks_car s.cfg
  refine State.crankSafe_congr (s := s) ?_ ?_ (fun k => ?_) h
  · rw [car]; split <;> rfl
  · rw [car]; split <;> rfl
  · rw [State.appliedBlocks_eng]
    split
    · exact nofun
    · exact id

theorem State.writeResting_writeComplete {s : State} (h : s.writeResting) : s.writeComplete.writeResting := by
  have ended (d : SectionData) (t : State) (cfs : t.cfs = (s.writeEnded d).cfs) : t.writeResting := by
    intro writing
    simp [State.writing, cfs, State.writeEnded, Cfs.finish] at writing
  refine s.writeComplete_ends Moves.writeResting h (fun d _ _ => ended d _ ?_) fun d _ _ => ended d _ rfl
  rw [(State.formWish_keeps _).2.2.2.2.2.2.2.2.2.2.1, (Moves.appliedTables _ _).cfs, (State.appliedBlocks_keeps _ _).1]

/-- With every fitted engine at rest nothing waits for the crank supply, before the apply or after it. -/
theorem State.queueGood_appliedBlocks {s : State} {d : SectionData} (write : s.cfs.write = some d)
    (resting : s.writeResting) (h : s.queueGood) : ((s.writeEnded d).appliedBlocks s.cfg).queueGood := by
  have rests := resting (by simp [State.writing, write])
  have queue : ((s.writeEnded d).appliedBlocks s.cfg).car.queue = s.car.queue := by
    rw [State.appliedBlocks_car]
    split <;> rfl
  have empty (k : Engine) : k ∉ s.car.queue := by
    intro mem
    obtain ⟨fitted, waits, -⟩ := (h.2 k).mp mem
    have := rests k fitted
    rw [waits] at this
    cases this
  refine ⟨by rw [queue]; exact h.1, fun k => ?_⟩
  rw [queue, State.appliedBlocks_eng]
  refine ⟨fun mem => absurd mem (empty k), fun ⟨fitted, waits, _⟩ => ?_⟩
  split at waits
  · cases waits
  next kept =>
    have fitted' : s.fitted k = true := by
      rw [State.fitted_congr ((s.writeEnded d).appliedBlocks_keeps s.cfg).1] at fitted
      have same : (s.writeEnded d).fitted k = fittedBy s.cfg.roster.fitted k := by
        simpa [State.refits] using kept
      rw [State.fitted, ← same, fitted]
    have := rests k fitted'
    rw [show (s.eng k).state = .crankWait from waits] at this
    cases this

theorem State.queueGood_writeComplete {s : State} (safe : s.crankSafe) (resting : s.writeResting) (h : s.queueGood) :
    s.writeComplete.queueGood := by
  refine (s.writeComplete_ends (P := fun t => t.crankSafe ∧ t.queueGood)
    (fun m g => ⟨m.crankSafe g.1, m.queueGood g.1 g.2⟩) ⟨safe, h⟩ (fun d write _ => ?_) fun d _ invalid => ?_).2
  · have safeA : ((s.writeEnded d).appliedBlocks s.cfg).crankSafe := by
      have car := (s.writeEnded d).appliedBlocks_car s.cfg
      refine State.crankSafe_congr (s := s) ?_ ?_ (fun k => ?_) safe
      · rw [car]; split <;> rfl
      · rw [car]; split <;> rfl
      · rw [State.appliedBlocks_eng]
        split
        · exact nofun
        · exact id
    have goodA := State.queueGood_appliedBlocks write resting h
    have tables := Moves.appliedTables (s.writeEnded d) s.cfg
    exact ⟨State.crankSafe_formWish (tables.crankSafe safeA), State.queueGood_formWish (tables.queueGood safeA goodA)⟩
  · exact ⟨State.crankSafe_of_car (s := s) rfl rfl safe,
      State.queueGood_congr (s := s) rfl rfl (State.writeEnded_cfg invalid) (fun _ => rfl) h⟩

/-- A change of mode takes the line to QUIET; in the same mode it stands as before. -/
theorem State.lineLoose_appliedBlocks {s : State} (d : SectionData) (h : s.lineLoose) :
    ((s.writeEnded d).appliedBlocks s.cfg).lineLoose := by
  have cfg : ((s.writeEnded d).appliedBlocks s.cfg).cfg = (s.writeEnded d).cfg :=
    State.cfg_congr ((s.writeEnded d).appliedBlocks_keeps s.cfg).1
  unfold State.lineLoose
  rw [cfg, State.appliedBlocks_car]
  split
  next mode =>
    rw [mode]
    exact h
  next => exact ⟨fun _ => ⟨rfl, rfl⟩, fun _ => ⟨nofun, by simp⟩⟩

theorem State.lineGood_writeComplete {s : State} (h : s.lineGood) : s.writeComplete.lineGood := by
  refine s.writeComplete_ends Moves.lineGood h (fun d _ _ => State.lineGood_formWish ?_) fun d _ invalid =>
    State.lineGood_congr (s := s) rfl (State.writeEnded_cfg invalid) (fun _ => rfl) h
  have loose := State.lineLoose_appliedBlocks d (s.lineGood_iff.mp h).1
  have car := (s.writeEnded d).appliedTables_car s.cfg
  exact State.lineLoose_congr (State.cfg_congr (Moves.appliedTables _ _).cfs) (by rw [car]) (by rw [car])
    (by rw [car]; exact id) loose

/-! ## The end of a reset -/

/-- The invariants of the table, the crank supply, the line, the write and the link. -/
structure State.good (s : State) : Prop where
  table : s.tableGood
  expiries : s.expiriesGood
  crank : s.crankSafe
  queue : s.queueGood
  line : s.lineGood
  write : s.writeResting
  link : s.linkGood

@[simp] theorem liveEntries_blank (n : Nat) : liveEntries (List.replicate n .blank) = [] := by
  simp [liveEntries, Slot.blank]

/-- Right after a reset every invariant holds (R42, R93, R134, R187). -/
theorem State.started_good (cfs : Cfs) (cfg : Image) (dct : Dct) (write : cfs.write = none) :
    (State.started cfs cfg dct).good := by
  have blank (n : Nat) : slotAt (State.started cfs cfg dct).table n = .blank := by
    simp only [State.started, slotAt, List.getD_eq_getElem?_getD, List.getElem?_replicate]
    split <;> rfl
  have states (k : Engine) : ((State.started cfs cfg dct).eng k).state = .stopping ∨
      ((State.started cfs cfg dct).eng k).state = .stopped := by
    simp only [State.started, State.eng, PerEngine.get_of]
    split
    · exact .inl rfl
    · exact .inr rfl
  have noWish : ¬ (State.started cfs cfg dct).wantsSupply := by
    rintro (h | h | ⟨-, k, -, h⟩)
    · exact h rfl
    · cases h
    · rcases states k with hs | hs <;> simp [hs] at h
  exact {
    table := ⟨List.length_replicate, fun n => by rw [blank]; trivial, by
      change Limits.open = resolve (List.replicate _ .blank)
      simp only [resolve, liveEntries_blank]
      rfl⟩
    expiries := fun e m he _ => by simp [State.started] at he
    crank := State.crankSafe_of_free rfl nofun fun k hk => by rcases states k with hs | hs <;> rw [hs] at hk <;> cases hk
    queue := ⟨List.nodup_nil, fun k => ⟨nofun, fun ⟨_, hk, _⟩ => by
      rcases states k with hs | hs <;> rw [hs] at hk <;> cases hk⟩⟩
    line := ⟨fun _ => ⟨rfl, rfl⟩, fun _ => ⟨fun _ => noWish, nofun, nofun, nofun, nofun⟩⟩
    write := fun h => by simp [State.writing, State.started, write] at h
    link := by simp [State.linkGood, State.started, Cli.reset, busyWaiting] }

theorem State.good_of_moves {s t : State} (m : Moves s t) (h : s.good) : t.good where
  table := m.tableKept.1 h.table
  expiries := m.tableKept.2 h.expiries
  crank := m.crankSafe h.crank
  queue := m.queueGood h.crank h.queue
  line := m.lineGood h.line
  write := m.writeResting h.write
  link := State.linkKept_of_same m.link h.link

theorem Moves.setPending (s : State) (x : List Instr) : Moves s (s.setPending x) :=
  .quiet (by simp [State.coreSame, Part.same])

theorem Moves.setFreeCount (s : State) (x : Nat) : Moves s (s.setFreeCount x) :=
  .quiet (by simp [State.coreSame, Part.same])

/-- The start-up that ends a reset leaves every invariant. -/
theorem State.startUp_good (s : State) (kind : ResetKind) : (s.startUp kind).good := by
  unfold State.startUp
  extract_lets cfs dct
  exact State.good_of_moves
    (.trans (.setPending _ _) (.trans (.setFreeCount _ _) (.forFitted (fun k t => .lockoutTest t k) _)))
    (State.started_good _ _ _ rfl)

/-! ## 0.1 s with no command waiting -/

theorem tickDwell_isSome (timer : Option Nat) (dwell : Nat) : (tickDwell timer dwell).isSome = timer.isSome := by
  simp [tickDwell]

theorem State.idle_eng_state (s : State) (k : Engine) : (s.idle.eng k).state = (s.eng k).state := by
  unfold State.idle
  split
  · rfl
  · simp only [State.eng, State.setDsl_engines, State.setCar_engines, State.setEngines_engines, PerEngine.get_of]
    split <;> rfl

theorem State.idle_car (s : State) : s.idle.car.queue = s.car.queue ∧ s.idle.car.holder = s.car.holder ∧
    s.idle.car.phase = s.car.phase ∧ s.idle.car.line = s.car.line ∧
      s.idle.car.rerequest.isSome = s.car.rerequest.isSome := by
  unfold State.idle
  split
  · exact ⟨rfl, rfl, rfl, rfl, rfl⟩
  · exact ⟨rfl, rfl, rfl, rfl, tickDwell_isSome _ _⟩

theorem State.idle_cfg (s : State) : s.idle.cfg = s.cfg := State.cfg_congr (by simp)

theorem State.lineGood_idle {s : State} (h : s.lineGood) : s.idle.lineGood := by
  obtain ⟨queue, holder, -, line, rerequest⟩ := s.idle_car
  have wants := State.wantsSupply_congr queue holder s.idle_cfg s.idle_eng_state
  have stopped : s.idle.car.rerequest = none ↔ s.car.rerequest = none := by
    rw [← Option.not_isSome_iff_eq_none, ← Option.not_isSome_iff_eq_none, rerequest]
  unfold State.lineGood
  rw [s.idle_cfg, line, wants, holder, stopped, rerequest]
  exact h

/-! ## Every step -/

theorem Effect.tableKept {s t : State} (h : Effect s t) : s.tableKept t := by
  induction h with
  | moves m => exact m.tableKept
  | trans _ _ ih ih' => exact State.tableKept_trans ih ih'
  | outer h => exact State.tableKept_of_eq h.1 h.2.1
  | beginWrite => exact State.tableKept_of_eq rfl rfl
  | writeComplete s => exact s.tableKept_writeComplete
  | startUp s kind => exact ⟨fun _ => (s.startUp_good kind).table, fun _ => (s.startUp_good kind).expiries⟩

theorem State.outerChange.cfg {s t : State} (h : s.outerChange t) : t.cfg = s.cfg := by
  obtain ⟨-, -, -, -, working, marks, -⟩ := h
  simp [State.cfg, State.valid, working, marks]

theorem State.outerChange.state {s t : State} (h : s.outerChange t) (k : Engine) :
    (t.eng k).state = (s.eng k).state := by rw [State.eng_congr h.2.2.2.1]

theorem Effect.crankSafe {s t : State} (h : Effect s t) : s.crankSafe → t.crankSafe := by
  induction h with
  | moves m => exact m.crankSafe
  | trans _ _ ih ih' => exact ih' ∘ ih
  | outer h => exact State.crankSafe_of_car h.2.2.1 h.2.2.2.1
  | beginWrite => exact State.crankSafe_of_car rfl rfl
  | writeComplete s => exact State.crankSafe_writeComplete
  | startUp s kind => exact fun _ => (s.startUp_good kind).crank

theorem Effect.writeResting {s t : State} (h : Effect s t) : s.writeResting → t.writeResting := by
  induction h with
  | moves m => exact m.writeResting
  | trans _ _ ih ih' => exact ih' ∘ ih
  | outer h => exact State.writeResting_of_writing h.cfg h.2.2.2.2.2.2.1 h.state
  | beginWrite d resting =>
    refine fun _ _ k fitted => List.all_eq_true.mp resting k ?_
    exact List.mem_filter.mpr ⟨k.mem_all, fitted⟩
  | writeComplete s => exact State.writeResting_writeComplete
  | startUp s kind => exact fun _ => (s.startUp_good kind).write

theorem Effect.queueGood {s t : State} (h : Effect s t) :
    s.crankSafe → s.writeResting → s.queueGood → t.queueGood := by
  induction h with
  | moves m => exact fun safe _ => m.queueGood safe
  | trans h _ ih ih' => exact fun safe rest good => ih' (h.crankSafe safe) (h.writeResting rest) (ih safe rest good)
  | outer h => exact fun _ _ => State.queueGood_congr (by rw [h.2.2.1]) (by rw [h.2.2.1]) h.cfg h.state
  | beginWrite => exact fun _ _ => State.queueGood_congr rfl rfl rfl fun _ => rfl
  | writeComplete s => exact State.queueGood_writeComplete
  | startUp s kind => exact fun _ _ _ => (s.startUp_good kind).queue

theorem Effect.lineGood {s t : State} (h : Effect s t) : s.lineGood → t.lineGood := by
  induction h with
  | moves m => exact m.lineGood
  | trans _ _ ih ih' => exact ih' ∘ ih
  | outer h => exact State.lineGood_congr h.2.2.1 h.cfg h.state
  | beginWrite => exact State.lineGood_congr rfl rfl fun _ => rfl
  | writeComplete s => exact State.lineGood_writeComplete
  | startUp s kind => exact fun _ => (s.startUp_good kind).line

theorem Effect.linkKept {s t : State} (h : Effect s t) : s.linkKept t := by
  induction h with
  | moves m => exact State.linkKept_of_same m.link
  | trans _ _ ih ih' => exact ih' ∘ ih
  | outer h => exact h.2.2.2.2.2.2.2
  | beginWrite => exact State.linkGood_congr rfl rfl rfl
  | writeComplete s => exact State.linkKept_of_same s.link_writeComplete
  | startUp s kind => exact fun _ => (s.startUp_good kind).link

/-- A step is 0.1 s with no command waiting, or the effect of a command. -/
theorem step_cases {s t : State} (h : step s = .next t) : t = s.idle ∨ Effect s t := by
  unfold step at h
  split at h
  · exact .inl (Host.Outcome.next.inj h).symm
  · exact .inr (.trans (.moves (.setPending s _)) (exec_effect h))

/-- Settles O21: the moves and the other effects keep the table, one lemma each. -/
theorem stepKeepsTableGood : Obligations.StepKeepsTableGood := by
  have kept {s t : State} (h : step s = .next t) : s.tableKept t := by
    obtain rfl | effect := step_cases h
    · exact State.tableKept_of_eq (by simp) (by simp)
    · exact effect.tableKept
  exact ⟨fun _ _ good h => (kept h).1 good, fun _ _ good h => (kept h).2 good⟩

/-- Settles O43: each of the invariants of the crank supply is kept by every effect and by 0.1 s. -/
theorem stepKeepsCrankSafe : Obligations.StepKeepsCrankSafe := by
  refine ⟨fun s t safe h => ?crank, fun s j k safe hj hk => ?relay, fun s t safe rest good h => ?queue,
    fun s t rest h => ?write, fun s t good h => ?line⟩
  case crank =>
    obtain rfl | effect := step_cases h
    · obtain ⟨-, holder, phase, -⟩ := s.idle_car
      exact State.crankSafe_congr holder phase (fun k => by rw [s.idle_eng_state]; exact id) safe
    · exact effect.crankSafe safe
  case relay =>
    simp only [State.crankRelay, Bool.and_eq_true, decide_eq_true_eq] at hj hk
    exact Option.some.inj ((safe.1 j hj.2).symm.trans (safe.1 k hk.2))
  case queue =>
    obtain rfl | effect := step_cases h
    · obtain ⟨queue, holder, -⟩ := s.idle_car
      exact State.queueGood_congr queue holder s.idle_cfg s.idle_eng_state good
    · exact effect.queueGood safe rest good
  case write =>
    obtain rfl | effect := step_cases h
    · exact State.writeResting_congr (by simp) s.idle_eng_state rest
    · exact effect.writeResting rest
  case line =>
    obtain rfl | effect := step_cases h
    · exact State.lineGood_idle good
    · exact effect.lineGood good

/-- Settles O57: no effect but the link's own touches its queues, and those keep them. -/
theorem stepKeepsLinkGood : Obligations.StepKeepsLinkGood := by
  intro s t good h
  obtain rfl | effect := step_cases h
  · exact State.linkKept_of_same (Part.link_same_of_cli (by simp)) good
  · exact effect.linkKept good

/-- Settles O6: the reset state is a part right after a reset. -/
theorem resetStateGood : Obligations.ResetStateGood := by
  have good : State.reset.good := State.started_good _ _ _ rfl
  exact ⟨good.table, good.expiries, good.crank, good.queue, good.line, good.write, good.link⟩

/-- Settles O1. -/
theorem stepTakesFrontCommand : Obligations.StepTakesFrontCommand := by
  intro c rest s front
  rw [step, front]

end Sys2Proof.Machine

namespace Sys2Proof.Machine

/-! ## Frames, part by part -/

/-- A frame, spelled out for each part of the state. -/
theorem State.onlyChanges_iff (s t : State) (ps : List Part) : s.onlyChanges t ps ↔
    (.lic ∉ ps → t.lic = s.lic) ∧ (.dsl ∉ ps → t.dsl = s.dsl) ∧ (.table ∉ ps → t.table = s.table) ∧
    (.limits ∉ ps → t.limits = s.limits) ∧ (.plan ∉ ps → t.plan = s.plan) ∧
    (∀ k, .engine k ∉ ps → t.eng k = s.eng k) ∧ (.car ∉ ps → t.car = s.car) ∧
    (∀ k, .sense k ∉ ps → t.sense k = s.sense k) ∧ (.bsm ∉ ps → t.bsm = s.bsm) ∧
    (∀ k, .duty k ∉ ps → t.dutyOf k = s.dutyOf k) ∧ (.saves ∉ ps → Part.saves.same s t) ∧
    (.link ∉ ps → Part.link.same s t) ∧ (.answer ∉ ps → t.cli.answer = s.cli.answer) ∧
    (.notices ∉ ps → t.cli.notices = s.cli.notices) ∧ (.cfs ∉ ps → t.cfs = s.cfs) ∧
    (.resetting ∉ ps → t.resetting = s.resetting) ∧ (.handed ∉ ps → t.handed = s.handed) ∧
    (.freeCount ∉ ps → t.freeCount = s.freeCount) ∧ (.pending ∉ ps → t.pending = s.pending) := by
  refine ⟨fun h => ⟨h .lic, h .dsl, h .table, h .limits, h .plan, fun k => h (.engine k), h .car, fun k => h (.sense k),
    h .bsm, fun k => h (.duty k), h .saves, h .link, h .answer, h .notices, h .cfs, h .resetting, h .handed, h .freeCount,
    h .pending⟩, ?_⟩
  rintro ⟨lic, dsl, table, limits, plan, engine, car, sense, bsm, duty, saves, link, answer, notices, cfs, resetting,
    handed, freeCount, pending⟩ p hp
  cases p
  case lic => exact lic hp
  case dsl => exact dsl hp
  case table => exact table hp
  case limits => exact limits hp
  case plan => exact plan hp
  case engine k => exact engine k hp
  case car => exact car hp
  case sense k => exact sense k hp
  case bsm => exact bsm hp
  case duty k => exact duty k hp
  case saves => exact saves hp
  case link => exact link hp
  case answer => exact answer hp
  case notices => exact notices hp
  case cfs => exact cfs hp
  case resetting => exact resetting hp
  case handed => exact handed hp
  case freeCount => exact freeCount hp
  case pending => exact pending hp

theorem State.onlyChanges.table {s t : State} {ps : List Part} (h : s.onlyChanges t ps) (out : .table ∉ ps) :
    t.table = s.table := h _ out

theorem State.onlyChanges.cfs {s t : State} {ps : List Part} (h : s.onlyChanges t ps) (out : .cfs ∉ ps) :
    t.cfs = s.cfs := h _ out

/-! ## A request taken -/

/-- A request taken whose owner answers and leaves u: the answer is told, and beside the link and it the state is u. -/
theorem State.served {s u : State} {c : Instr} {owner : State → State × Reply} {status : Status} {payload : List Byte}
    {ps : List Part} (taken : s.takes c = true) (own : owner s = (u, ⟨status, payload⟩)) (frame : s.onlyChanges u ps)
    (link : .link ∉ ps) :
    s.answers (s.serveCommand c owner) c status payload ∧
      s.onlyChanges (s.serveCommand c owner) (ps ++ answerParts) ∧
      u.onlyChanges (s.serveCommand c owner) answerParts := by
  have changes := s.serveCommand_changes c owner taken
  have answers := s.serveCommand_answers c owner taken
  rw [own] at changes answers
  have responses : u.cli.responses = s.cli.responses := (frame .link link).2.2.2.2.1
  exact ⟨answers responses, (frame.mono (by simp)).trans (changes.mono (by simp)), changes⟩

/-- A request taken whose owner answers and does nothing. -/
theorem State.served_idle {s : State} {c : Instr} {owner : State → State × Reply} {status : Status}
    {payload : List Byte} (taken : s.takes c = true) (own : owner s = (s, ⟨status, payload⟩)) :
    s.answers (s.serveCommand c owner) c status payload ∧
      s.onlyChanges (s.serveCommand c owner) answerParts := by
  obtain ⟨answers, frame, -⟩ := State.served taken own (s.onlyChanges_refl []) (by simp)
  exact ⟨answers, frame⟩

/-- A request taken for a fitted engine is taken, and its owner acts for that engine. -/
theorem State.takesFor_iff (s : State) (c : Instr) (engine : Byte) (k : Engine) :
    s.takesFor c engine k = true ↔ s.takes c = true ∧ engineField engine = some k ∧ s.fitted k = true := by
  simp [State.takesFor, and_assoc]

theorem State.forEngine_of {s : State} {engine : Byte} {k : Engine} (field : engineField engine = some k)
    (fitted : s.fitted k = true) (act : Engine → State → State × Reply) : s.forEngine engine act = act k s := by
  simp [State.forEngine, field, fitted]

/-! ## Frames of the operations on the table, the demand and the crank supply -/

theorem State.changeTable_onlyChanges (s : State) (x : List Slot) :
    s.onlyChanges (s.changeTable x) [.table, .limits, .handed] := by
  simp [State.onlyChanges_iff, Part.same, State.eng, State.sense, State.dutyOf]

theorem State.postInternal_onlyChanges (s : State) (c : Condition) (k : Engine) :
    s.onlyChanges (s.postInternal c k) [.table, .limits, .handed] := by
  simp [State.onlyChanges_iff, Part.same, State.eng, State.sense, State.dutyOf]

theorem State.retireInternal_onlyChanges (s : State) (c : Condition) (k : Engine) :
    s.onlyChanges (s.retireInternal c k) [.table, .limits, .handed] := by
  simp [State.onlyChanges_iff, Part.same, State.eng, State.sense, State.dutyOf]

theorem State.demandStep_onlyChanges (s : State) (d : Dsl) : s.onlyChanges (s.demandStep d) [.dsl, .handed] := by
  simp [State.onlyChanges_iff, Part.same, State.eng, State.sense, State.dutyOf]

@[simp] theorem State.demandStep_dsl (s : State) (d : Dsl) : (s.demandStep d).dsl = d := by
  unfold State.demandStep
  split <;> simp

@[simp] theorem State.demandStep_handed (s : State) (d : Dsl) : (s.demandStep d).handed =
    s.handed ++ if d.demand = s.dsl.demand then [] else [.replan .demand] := by
  unfold State.demandStep
  split <;> simp

end Sys2Proof.Machine

namespace Sys2Proof.Machine

/-! ## 0.1 s, and the commands held in reset -/

theorem timerCounts_tickDwell (timer : Option Nat) (length : Nat) : timerCounts timer (tickDwell timer length) length := by
  refine ⟨by rintro rfl; rfl, ?_⟩
  rintro n rfl
  refine ⟨fun below => ?_, fun full => ?_⟩ <;> simp [tickDwell] <;> omega

theorem State.idle_of_awake {s : State} (h : s.awake = true) : s.idle =
    ((s.setEngines (.of fun k => if s.fitted k then (s.eng k).tick s.cfg.timing else s.eng k)).setCar
      (s.car.tick s.cfg.arbiter)).setDsl s.dsl.tick := by
  unfold State.idle
  rw [if_neg (by simpa [State.awake] using h)]

theorem State.idle_eng {s : State} (h : s.awake = true) (k : Engine) :
    s.idle.eng k = if s.fitted k then (s.eng k).tick s.cfg.timing else s.eng k := by
  simp [State.idle_of_awake h, State.eng]

/-- Settles O2. -/
theorem emptyQueueCountsTenthOfSecond : Obligations.EmptyQueueCountsTenthOfSecond := by
  intro s empty awake
  have car : s.idle.car = s.car.tick s.cfg.arbiter := by simp [State.idle_of_awake awake]
  have dsl : s.idle.dsl = s.dsl.tick := by simp [State.idle_of_awake awake]
  refine ⟨s.idle, by rw [step, empty], fun k fitted => ?_, fun k fitted => ?_, ?_, ?_, ?_, fun n len hold => ?_,
    fun hold => ?_, ?_, ?_⟩
  · rw [State.idle_eng awake, if_pos fitted]
    exact ⟨timerCounts_tickDwell _ _, timerCounts_tickDwell _ _, timerCounts_tickDwell _ _, timerCounts_tickDwell _ _,
      timerCounts_tickDwell _ _, timerCounts_tickDwell _ _, rfl⟩
  · rw [State.idle_eng awake, if_neg (by simp [fitted])]
  · rw [car]
    exact timerCounts_tickDwell _ _
  · rw [car]
    exact timerCounts_tickDwell _ _
  · rw [car]
    rfl
  · rw [dsl]
    simp only [Dsl.tick, hold, Option.map_some]
    split <;> rfl
  · rw [dsl]
    simp [Dsl.tick, hold]
  · rw [dsl]
    rfl
  · rw [State.onlyChanges_iff]
    have engines (k : Engine) : Part.engine k ∈ [Part.engine .e1, .engine .e2, .engine .e3, .engine .e4, .car, .dsl] := by
      cases k <;> simp
    refine ⟨fun _ => ?_, fun h => absurd (by simp) h, fun _ => ?_, fun _ => ?_, fun _ => ?_,
      fun k h => absurd (engines k) h, fun h => absurd (by simp) h, ?_⟩ <;>
      simp [State.idle_of_awake awake, State.sense, State.dutyOf, Part.same]

theorem State.serveCommand_of_reset {s : State} (held : s.resetting.isSome = true) (c : Instr)
    (owner : State → State × Reply) : s.serveCommand c owner = s := by
  unfold State.serveCommand State.serve
  split <;> simp [held]

/-- Settles O8: every event runs only out of reset, and every request is served only out of reset. -/
theorem resetHoldsOutputsAndBlocks : Obligations.ResetHoldsOutputsAndBlocks := by
  intro s held
  have off : s.resetting.isNone = false := by simpa using held
  refine ⟨fun k => by simp [State.crankRelay, State.fuel, State.prelubePump, State.setpointOut, State.loadLimit, off],
    by simp [State.apuReq, off], by simp [State.attention, off], fun c => ?_⟩
  have run (act : State → State) : s.running act = s := s.running_of_reset act held
  have serve := State.serveCommand_of_reset held
  cases c
  case supplyDip => trivial
  case retentionLoss => trivial
  case powerOn => trivial
  case releaseLevelCrossed => trivial
  case resetEnd => trivial
  case restart c =>
    have waits : s.restartWhenSent = s := by simp [State.restartWhenSent, off]
    exact congrArg Host.Outcome.next ((congrArg State.restartWhenSent (serve _ _)).trans waits)
  case post | amend | retire | readEntry | listEntries | setDemand | selectSource | readStatus | readPlan | readConfig
      | writeConfig | readEngine | start | stop | isolate | restore | setHold | step | ackTrip | clearLockout
      | clearPickupFault | readCounters =>
    exact congrArg Host.Outcome.next (serve _ _)
  all_goals exact congrArg Host.Outcome.next (run _)

end Sys2Proof.Machine

namespace Sys2Proof.Machine

/-! ## What a command leaves of the blocks that only their own commands change -/

/-- The blocks that only their own commands change, and the queue of waiting commands. -/
inductive OwnedBlock where
  | lic | dsl | bsm | plan | dct | cfs | pending
deriving DecidableEq

/-- A block is the same in two states. -/
def OwnedBlock.same (b : OwnedBlock) (s t : State) : Prop :=
  match b with
  | .lic => t.lic = s.lic
  | .dsl => t.dsl = s.dsl
  | .bsm => t.bsm = s.bsm
  | .plan => t.plan = s.plan
  | .dct => t.dct = s.dct
  | .cfs => t.cfs = s.cfs
  | .pending => t.pending = s.pending

/-- The blocks a command may change. -/
def Instr.ownBlocks : Instr → List OwnedBlock
  | .inputSample _ => [.lic, .dsl]
  | .codeAccepted | .invalidTimeout | .demandLapse | .setDemand _ _ | .selectSource _ _ => [.dsl]
  | .phaseChange | .batterySample _ | .releaseLevelCrossed _ => [.bsm]
  | .replan | .plannerCount | .startDwellComplete | .shedDwellComplete => [.plan]
  | .readCounters _ _ _ | .clearLockout _ _ | .dctCount | .runSinceSaveFull _ | .countedEvent _ | .saveWriteBegin
  | .saveWriteEnd => [.dct]
  | .writeConfig _ _ _ | .restart _ | .responseSent => [.cfs]
  | .supplyDip => [.bsm, .cfs]
  | .retentionLoss => [.dct, .cfs]
  | .powerOn => [.bsm, .dct, .cfs]
  | .writeComplete => [.lic, .bsm, .plan, .dct, .cfs]
  | .resetEnd => [.lic, .dsl, .bsm, .plan, .dct, .cfs]
  | _ => []

/-- Every block but the ones named is unchanged from s to t. -/
def State.spares (s t : State) (own : List OwnedBlock) : Prop := ∀ b, b ∉ own → b.same s t

namespace State.spares

variable {s t u : State} {own : List OwnedBlock} {act : State → State}

theorem refl : s.spares s own := fun b _ => by cases b <;> rfl

theorem trans (h : s.spares t own) (h' : t.spares u own) : s.spares u own := fun b hb => by
  have := h b hb
  have := h' b hb
  cases b <;> exact Eq.trans ‹_› ‹_›

theorem of (h : (.lic ∉ own → t.lic = s.lic) ∧ (.dsl ∉ own → t.dsl = s.dsl) ∧ (.bsm ∉ own → t.bsm = s.bsm) ∧
    (.plan ∉ own → t.plan = s.plan) ∧ (.dct ∉ own → t.dct = s.dct) ∧ (.cfs ∉ own → t.cfs = s.cfs) ∧
    (.pending ∉ own → t.pending = s.pending)) : s.spares t own := by
  obtain ⟨lic, dsl, bsm, plan, dct, cfs, pending⟩ := h
  intro b hb
  cases b
  case lic => exact lic hb
  case dsl => exact dsl hb
  case bsm => exact bsm hb
  case plan => exact plan hb
  case dct => exact dct hb
  case cfs => exact cfs hb
  case pending => exact pending hb

theorem ite {p : Prop} [Decidable p] (h : s.spares t own) : s.spares (if p then t else s) own := by
  split
  · exact h
  · exact refl

theorem running (h : s.spares (act s) own) : s.spares (s.running act) own := by
  unfold State.running
  split
  · exact refl
  · exact h

theorem take {α : Type} {p : Event → Option α} {act : α → State → State} (h : ∀ a t, spares t (act a t) own) :
    s.spares (s.take p act) own := by
  unfold State.take
  split
  · exact trans (of (by simp)) (h _ _)
  · exact refl

theorem served {c : Instr} {owner : State → State × Reply} (h : s.spares (owner s).1 own) :
    s.spares (s.serveCommand c owner) own := by
  have setCli (t : State) (x : Cli) : t.spares (t.setCli x) own := of (by simp)
  unfold State.serveCommand State.serve
  split
  next =>
    repeat' split
    · exact refl
    · exact trans h (trans (setCli _ _) (setCli _ _))
    · exact refl
    · exact setCli _ _
    · exact trans h (setCli _ _)
  next => exact refl

theorem servedFor {c : Instr} {engine : Byte} {act : Engine → State → State × Reply}
    (h : ∀ k, s.spares (act k s).1 own) : s.spares (s.serveCommand c fun t => t.forEngine engine act) own := by
  refine served ?_
  unfold State.forEngine
  repeat' split
  · exact h _
  · exact refl
  · exact refl

end State.spares

theorem State.startUp_pending (s : State) (kind : ResetKind) : (s.startUp kind).pending = s.pending :=
  State.forFitted_keeps State.pending _ _ fun k t => by simp

theorem State.resetEnd_pending (s : State) : s.resetEnd.pending = s.pending := by
  unfold State.resetEnd
  repeat' split
  · exact s.startUp_pending _
  · rfl
  · rfl

/-- A command changes no block but its own. -/
theorem exec_spares {c : Instr} {s t : State} (h : exec c s = .next t) : s.spares t (Instr.ownBlocks c) := by
  cases c <;> obtain rfl := Host.Outcome.next.inj h <;> simp only [Instr.ownBlocks]
  case post | amend | retire | readEntry | listEntries | setDemand | selectSource | readStatus | readPlan | readConfig
      | writeConfig =>
    exact .served (.of (by simp))
  case readEngine | start | stop | isolate | restore | setHold | step | ackTrip | clearLockout | clearPickupFault |
      readCounters =>
    exact .servedFor fun k => .of (by simp)
  case requestFrameComplete | frameGapTimeout | serveRequest | responseSent | characterReceived | inputSample |
      codeAccepted | invalidTimeout | demandLapse | expiryCount | plannerCount | startDwellComplete |
      shedDwellComplete | gapEnd | rerequestTimerEnd | batterySample | batteryLowPosted | batteryLowRetired | dctCount
      | saveWriteBegin | saveWriteEnd | writeComplete =>
    exact .running (.of (by simp))
  case entryExpired | speedUpdate | coolantSample | hotPosted | hotRetired | warmupRetired | runSinceSaveFull |
      pickupPulse | setpointUpdate | notchStep | prelubeTimeout | crankTimeout | restEnd | runupTimeout | cooldownEnd
      | stopFail =>
    exact .running (.ite (.of (by simp)))
  case levelChange | limitsChanged | replan | pairHanded | phaseChange | crankGrantTaken =>
    exact .running (.take fun _ _ => .of (by simp))
  case startOrderTaken | stopOrderTaken | sagReport | overheat | countedEvent =>
    exact .running (.take fun _ _ => .ite (.of (by simp)))
  case restart c =>
    exact .trans (t := s.serveCommand (.restart c) State.restart) (.served (.of (by simp))) (.of (by simp))
  case supplyDip | retentionLoss | powerOn => exact .of (by simp)
  case releaseLevelCrossed => exact .of (by simp)
  case resetEnd => exact .of (by simp [s.resetEnd_pending])
  -- The remaining case is the recall, which has no `case` tag: the word is a token.
  exact .running (.take fun _ _ => .ite (.of (by simp)))

/-- Settles O3. -/
theorem onlyOwnCommandsChangeBlocks : Obligations.OnlyOwnCommandsChangeBlocks := by
  refine ⟨fun c s t h => ⟨?lic, ?dsl, ?bsm, ?plan⟩, fun c s t h => ⟨?dct, ?cfs⟩, fun c s t h => ?pending⟩
  case lic =>
    have spared := exec_spares h .lic
    cases c
    case inputSample | writeComplete | resetEnd => trivial
    all_goals exact spared (by simp [Instr.ownBlocks])
  case dsl =>
    have spared := exec_spares h .dsl
    cases c
    case inputSample | codeAccepted | invalidTimeout | demandLapse | setDemand | selectSource | resetEnd => trivial
    all_goals exact spared (by simp [Instr.ownBlocks])
  case bsm =>
    have spared := exec_spares h .bsm
    cases c
    case phaseChange | batterySample | writeComplete | supplyDip | powerOn | releaseLevelCrossed | resetEnd => trivial
    all_goals exact spared (by simp [Instr.ownBlocks])
  case plan =>
    have spared := exec_spares h .plan
    cases c
    case replan | plannerCount | startDwellComplete | shedDwellComplete | writeComplete | resetEnd => trivial
    all_goals exact spared (by simp [Instr.ownBlocks])
  case dct =>
    have spared := exec_spares h .dct
    cases c
    case readCounters | clearLockout | dctCount | runSinceSaveFull | countedEvent | saveWriteBegin | saveWriteEnd | writeComplete |
        retentionLoss | powerOn | resetEnd => trivial
    all_goals exact spared (by simp [Instr.ownBlocks])
  case cfs =>
    have spared := exec_spares h .cfs
    cases c
    case writeConfig | restart | responseSent | writeComplete | supplyDip | retentionLoss | powerOn | resetEnd => trivial
    all_goals exact spared (by simp [Instr.ownBlocks])
  case pending => exact exec_spares h .pending (by cases c <;> simp [Instr.ownBlocks])

end Sys2Proof.Machine

namespace Sys2Proof.Machine

/-! ## The slots of the internal conditions -/

theorem internalSlot_inj {c d : Condition} {j k : Engine} (hc : c ≠ .batteryLow)
    (h : internalSlot c j = internalSlot d k) : c = d ∧ j = k := by
  revert hc h
  cases c <;> cases d <;> cases j <;> cases k <;> decide

theorem internalSlot_lt (c : Condition) (k : Engine) : internalSlot c k < Config.slots := by
  cases c <;> cases k <;> decide

/-- A post puts the entry with the next generation into the condition's slot, where that is FREE, and leaves every other. -/
theorem State.postInternal_slot (s : State) (c : Condition) (k : Engine) (n : Nat) :
    slotAt (s.postInternal c k).table n =
      if n = internalSlot c k ∧ n < s.table.length ∧ s.fitted k = true ∧ s.stands c k = false
      then ⟨nextGen (slotAt s.table n).gen, some (s.internalEntry c k)⟩ else slotAt s.table n := by
  by_cases posts : s.fitted k = true ∧ s.stands c k = false
  · rw [State.postInternal_table s c k posts.1 posts.2, postAt, slotAt_set]
    by_cases hn : n = internalSlot c k
    · simp [hn, posts]
    · simp [hn]
  · have idle : s.postInternal c k = s := by
      refine s.postInternal_idle c k ?_
      cases hf : s.fitted k <;> cases hs : s.stands c k <;> simp_all
    rw [idle, if_neg]
    exact fun h => posts h.2.2

/-- A retirement frees the condition's slot, its generation kept, and leaves every other. -/
theorem State.retireInternal_slot (s : State) (c : Condition) (k : Engine) (n : Nat) :
    slotAt (s.retireInternal c k).table n =
      if n = internalSlot c k then ⟨(slotAt s.table n).gen, none⟩ else slotAt s.table n := by
  cases hs : s.stands c k with
  | false =>
    rw [s.retireInternal_idle c k hs]
    split
    next hn =>
      have free : (slotAt s.table n).entry = none := by simpa [State.stands, Slot.live, hn] using hs
      cases hx : slotAt s.table n
      rw [hx] at free
      simpa using free
    next => rfl
  | true =>
    rw [State.retireInternal_table s c k hs, freeAt, slotAt_set]
    have inside := live_in_table _ _ hs
    by_cases hn : n = internalSlot c k
    · simp [hn, inside]
    · simp [hn]

/-! ## The lockout test of every fitted engine -/

/-- The lockout test of engine j finds its count reached. -/
def State.lockedOut (s : State) (j : Engine) : Bool :=
  s.fitted j && decide (s.cfg.thresholds.lockoutCount ≤ (s.dutyOf j).stored.consecutive)

theorem State.postInternal_length (s : State) (c : Condition) (k : Engine) :
    (s.postInternal c k).table.length = s.table.length := by
  unfold State.postInternal
  split
  · rw [(State.changeTable_spec s _).1, postAt, List.length_set]
  · rfl

theorem State.lockoutTest_length (s : State) (k : Engine) : (s.lockoutTest k).table.length = s.table.length := by
  unfold State.lockoutTest
  split
  · exact s.postInternal_length _ _
  · rfl

theorem State.lockedOut_congr {s t : State} (cfs : t.cfs = s.cfs) (dct : t.dct = s.dct) (k : Engine) :
    t.lockedOut k = s.lockedOut k := by
  rw [State.lockedOut, State.lockedOut, State.fitted_congr cfs, State.cfg_congr cfs, State.dutyOf, State.dutyOf, dct]

theorem State.lockoutTest_stands (s : State) (full : s.table.length = Config.slots) (j k : Engine) :
    (s.lockoutTest j).stands .lockout k = (s.stands .lockout k || (decide (k = j) && s.lockedOut j)) := by
  unfold State.lockoutTest
  split
  next count =>
    rw [State.stands, State.postInternal_slot]
    by_cases hk : k = j
    · subst hk
      have inside := internalSlot_lt .lockout k
      cases hf : s.fitted k <;> cases hs : s.stands .lockout k <;>
        simp_all [State.lockedOut, State.stands, Slot.live]
    · rw [if_neg fun h => hk (internalSlot_inj (by simp) h.1).2]
      simp [hk, State.stands]
  next count => simp [State.lockedOut, count]

theorem State.foldl_lockoutTest_stands (ks : List Engine) (s : State) (full : s.table.length = Config.slots)
    (k : Engine) : (ks.foldl (fun t j => t.lockoutTest j) s).stands .lockout k =
      (s.stands .lockout k || (ks.contains k && s.lockedOut k)) := by
  induction ks generalizing s with
  | nil => simp
  | cons j ks ih =>
    have same : (s.lockoutTest j).lockedOut k = s.lockedOut k := State.lockedOut_congr (by simp) (by simp) k
    rw [List.foldl_cons, ih _ ((s.lockoutTest_length j).trans full), s.lockoutTest_stands full, same]
    by_cases hk : k = j
    · subst hk
      cases s.stands .lockout k <;> cases s.lockedOut k <;> simp
    · simp [hk]

/-- After the lockout test of every fitted engine a LOCKOUT stands where it stood or where the count calls for it. -/
theorem State.forFitted_lockoutTest_stands (s : State) (full : s.table.length = Config.slots) (k : Engine) :
    (s.forFitted fun j t => t.lockoutTest j).stands .lockout k = (s.stands .lockout k || s.lockedOut k) := by
  rw [State.forFitted, s.foldl_lockoutTest_stands _ full]
  cases hf : s.fitted k <;> simp [State.fittedEngines, State.lockedOut, hf, Engine.mem_all]

theorem State.lockoutTest_slot (s : State) (j : Engine) {n : Nat} (other : ∀ k, n ≠ internalSlot .lockout k) :
    slotAt (s.lockoutTest j).table n = slotAt s.table n := by
  unfold State.lockoutTest
  split
  · rw [State.postInternal_slot, if_neg fun h => other j h.1]
  · rfl

/-! ## Resets raised -/

/-- Settles O7. -/
theorem logicSupplyRaisesResets : Obligations.LogicSupplyRaisesResets := by
  intro s
  refine ⟨fun normal => ?dip, fun dipped => ?loss, ?powerOn, fun rising dipped => ?level⟩
  case dip =>
    refine ⟨_, rfl, ?_⟩
    simp only [State.supplyDip, if_pos normal]
    refine ⟨rfl, rfl, rfl, ?_, fun write => ?_, ?_⟩
    · simp only [State.raiseReset, State.setCfs_cfs, Cfs.abandon]
      cases hw : s.cfs.write <;> simp [hw]
    · simp [State.raiseReset, Cfs.abandon, write]
    · simp [State.onlyChanges_iff, Part.same, State.eng, State.sense, State.dutyOf]
  case loss =>
    refine ⟨_, rfl, ?_⟩
    simp only [State.retentionLoss, if_pos dipped]
    refine ⟨rfl, rfl, ?_⟩
    simp [State.onlyChanges_iff, Part.same, State.eng, State.sense, State.loseRetained]
    exact fun k => by cases k <;> simp
  case powerOn =>
    refine ⟨_, rfl, rfl, rfl, rfl, rfl, ?_⟩
    simp [State.onlyChanges_iff, Part.same, State.eng, State.sense, State.loseRetained, State.powerOn]
    exact fun k => by cases k <;> simp
  case level =>
    refine ⟨_, rfl, ?_⟩
    simp only [State.releaseCrossed, if_pos dipped]
    exact ⟨rfl, by simp [State.onlyChanges_iff, Part.same, State.eng, State.sense, State.dutyOf]⟩

/-! ## The end of a reset -/

theorem State.resetEnd_of {s : State} {kind : ResetKind} (held : s.resetting = some kind)
    (released : kind = .restart ∨ ∃ n, s.bsm.releaseHold = some n ∧ 50 ≤ n) : s.resetEnd = s.startUp kind := by
  have release : s.released kind = true := by
    obtain rfl | ⟨n, hold, reached⟩ := released
    · rfl
    · cases kind <;> simp [State.released, hold, Config.releaseHoldMs, reached]
  simp [State.resetEnd, held, release]

/-- Settles O4. -/
theorem factoryPowerOnReachesReset : Obligations.FactoryPowerOnReachesReset := by
  intro s held released nv store free pending
  have cfs : s.cfs.load .powerOn = .factory := by
    simp [Cfs.load, nv]
    rfl
  have dct : s.dct.afterReset .powerOn s.fitted (fittedBy Cfs.factory.inUse.roster.fitted) = .factory := by
    have duty (k : Engine) : s.dct.dutyAfter .powerOn s.fitted (fittedBy 3) k = .begin .zero false := by
      simp [Dct.dutyAfter, store, StoreRecord.load]
    have loaded : PerEngine.of (s.dct.dutyAfter .powerOn s.fitted (fittedBy 3)) = .same (.begin .zero false) :=
      PerEngine.eq_of_get _ _ fun k => by simp [duty]
    change Dct.mk (PerEngine.of (s.dct.dutyAfter .powerOn s.fitted (fittedBy 3))) _ _ _ = _
    rw [loaded, store]
    rfl
  have start : s.startUp .powerOn = State.reset.forFitted fun k t => t.lockoutTest k := by
    simp only [State.startUp, cfs, dct, pending, free]
    rfl
  have idle : (State.reset.forFitted fun k t => t.lockoutTest k) = State.reset := by decide
  exact congrArg Host.Outcome.next ((State.resetEnd_of held (.inr released)).trans (start.trans idle))

/-- The part right after a reset, before the lockout test. -/
def State.begun (s : State) (kind : ResetKind) : State :=
  ((State.started (s.cfs.load kind) (s.cfs.load kind).inUse
    (s.dct.afterReset kind s.fitted (fittedBy (s.cfs.load kind).inUse.roster.fitted))).setPending s.pending).setFreeCount
      s.freeCount

theorem State.startUp_eq (s : State) (kind : ResetKind) :
    s.startUp kind = (s.begun kind).forFitted fun k t => t.lockoutTest k := rfl

/-- The lockout tests at the end of a reset touch the table, the limits and the events handed alone. -/
theorem State.startUp_keeps (s : State) (kind : ResetKind) :
    (s.startUp kind).lic = licReset ∧ (s.startUp kind).dsl = .reset (s.cfs.load kind).inUse.inputs.defaultSource ∧
    (s.startUp kind).plan = .reset ∧ (s.startUp kind).engines = (s.begun kind).engines ∧
    (s.startUp kind).car = .reset ∧ (s.startUp kind).sensing = .same .reset ∧ (s.startUp kind).bsm = .reset ∧
    (s.startUp kind).dct = (s.begun kind).dct ∧ (s.startUp kind).cli = .reset ∧
    (s.startUp kind).cfs = s.cfs.load kind ∧ (s.startUp kind).resetting = none := by
  rw [State.startUp_eq]
  refine ⟨?_, ?_, ?_, ?_, ?_, ?_, ?_, ?_, ?_, ?_, ?_⟩
  · exact State.forFitted_keeps State.lic _ _ fun k t => by simp
  · exact State.forFitted_keeps State.dsl _ _ fun k t => by simp
  · exact State.forFitted_keeps State.plan _ _ fun k t => by simp
  · exact State.forFitted_keeps State.engines _ _ fun k t => by simp
  · exact State.forFitted_keeps State.car _ _ fun k t => by simp
  · exact State.forFitted_keeps State.sensing _ _ fun k t => by simp
  · exact State.forFitted_keeps State.bsm _ _ fun k t => by simp
  · exact State.forFitted_keeps State.dct _ _ fun k t => by simp
  · exact State.forFitted_keeps State.cli _ _ fun k t => by simp
  · exact State.forFitted_keeps State.cfs _ _ fun k t => by simp
  · exact State.forFitted_keeps State.resetting _ _ fun k t => by simp

theorem State.startUp_cfg (s : State) (kind : ResetKind) : (s.startUp kind).cfg = (s.cfs.load kind).inUse := by
  obtain ⟨-, -, -, -, -, -, -, -, -, cfs, -⟩ := s.startUp_keeps kind
  simp [State.cfg, State.valid, Cfs.inUse, cfs]

theorem State.startUp_slot (s : State) (kind : ResetKind) {n : Nat} (other : ∀ k, n ≠ internalSlot .lockout k) :
    slotAt (s.startUp kind).table n = .blank := by
  have kept : slotAt (s.startUp kind).table n = slotAt (s.begun kind).table n :=
    State.forFitted_keeps (fun t => slotAt t.table n) _ _ fun k t => t.lockoutTest_slot k other
  rw [kept]
  simp only [State.begun, State.started, State.setFreeCount_table, State.setPending_table, slotAt,
    List.getD_eq_getElem?_getD, List.getElem?_replicate]
  split <;> rfl

/-- A LOCKOUT stands at the end of a reset exactly where the consecutive failures call for it (R164, R170). -/
theorem State.startUp_stands (s : State) (kind : ResetKind) (k : Engine) :
    (s.startUp kind).stands .lockout k = (s.startUp kind).lockedOut k := by
  obtain ⟨-, -, -, -, -, -, -, dct, -, cfs, -⟩ := s.startUp_keeps kind
  have full : (s.begun kind).table.length = Config.slots := by simp [State.begun, State.started]
  have free : (s.begun kind).stands .lockout k = false := by
    simp only [State.begun, State.started, State.stands, State.setFreeCount_table, State.setPending_table, slotAt,
      List.getD_eq_getElem?_getD, List.getElem?_replicate]
    split <;> rfl
  rw [State.startUp_eq, State.forFitted_lockoutTest_stands _ full, free, Bool.false_or, ← State.startUp_eq]
  exact (State.lockedOut_congr cfs dct k).symm

theorem StoreRecord.load_good (r : StoreRecord) (k : Engine) (d : DutyRecord) (h : r = .written k d true) :
    r.load k = .begin d true := by
  simp [StoreRecord.load, h]

theorem StoreRecord.load_bad (r : StoreRecord) (k : Engine) (h : ∀ d, r ≠ .written k d true) :
    r.load k = .begin .zero false := by
  unfold StoreRecord.load
  split
  next e d =>
    split
    next he => exact absurd (he ▸ rfl) (h d)
    next => rfl
  next => rfl

/-- Settles O5. -/
theorem resetEndStartsEveryBlock : Obligations.ResetEndStartsEveryBlock := by
  refine ⟨fun s kind held released => ?blocks, fun s kind held released => ?counters⟩
  all_goals
    have ends : exec .resetEnd s = .next (s.startUp kind) :=
      congrArg Host.Outcome.next (State.resetEnd_of held released)
    obtain ⟨lic, dsl, plan, engines, car, sensing, bsm, dct, cli, cfs, resetting⟩ := s.startUp_keeps kind
    have cfg := s.startUp_cfg kind
    have fitted (k : Engine) : (s.startUp kind).fitted k = fittedBy (s.cfs.load kind).inUse.roster.fitted k := by
      rw [State.fitted, cfg]
  case blocks =>
    refine ⟨_, ends, resetting, by rw [cfs]; rfl, by rw [cfs]; rfl, fun bad => ?_, fun good marks => ?_,
      fun m im good hm him => ?_, lic, by rw [cfg, dsl], plan, car, bsm, cli, fun k => ?_, fun k => ?_,
      fun n other => s.startUp_slot kind other, s.startUp_pending kind⟩
    · simp [cfs, Cfs.load, bad]
    · simp [State.valid, cfs, Cfs.load, good, marks, Image.keepValid, Marks.same]
    · subst hm him
      simp [cfs, Cfs.load, good, Image.keepValid]
    · rw [fitted, State.eng, engines]
      simp [State.begun, State.started]
    · rw [State.sense, sensing, PerEngine.get_same]
  case counters =>
    have queue : (s.startUp kind).dct.queue = (s.startUp kind).fittedEngines := by
      rw [dct, State.fittedEngines, show (s.startUp kind).fitted = _ from funext fitted]
      rfl
    refine ⟨_, ends, queue, by rw [dct]; rfl, by rw [dct]; rfl, fun k fit => ?_⟩
    have now : fittedBy (s.cfs.load kind).inUse.roster.fitted k = true := fitted k ▸ fit
    have duty : (s.startUp kind).dutyOf k =
        if kind = .powerOn ∨ s.fitted k = false then (s.dct.store.get k).load k
        else .begin (s.dutyOf k).stored (s.dutyOf k).restored := by
      rw [State.dutyOf, dct]
      simp [State.begun, State.started, Dct.afterReset, Dct.dutyAfter, now, State.dutyOf]
    refine ⟨?_, ?_, fun loads d good => ?_, fun loads bad => ?_, fun kept was => ?_, ?_⟩
    · rw [duty]
      unfold StoreRecord.load
      repeat' split
      all_goals rfl
    · rw [duty]
      unfold StoreRecord.load
      repeat' split
      all_goals rfl
    · rw [duty, if_pos loads, StoreRecord.load_good _ _ _ good]
      exact ⟨rfl, rfl⟩
    · rw [duty, if_pos loads, StoreRecord.load_bad _ _ bad]
      exact ⟨rfl, rfl⟩
    · rw [duty, if_neg (by simp [kept, was])]
      exact ⟨rfl, rfl⟩
    · rw [State.startUp_stands, State.lockedOut, fit]
      simp

end Sys2Proof.Machine

namespace Sys2Proof.Machine

/-! ## Inputs and demand (chapter 1) -/

/-- Out of reset an event acts. -/
theorem State.running_next {s : State} (act : State → State) (awake : s.awake = true) :
    (Host.Outcome.next (s.running act) : Host.Outcome State Fault Refusal) = .next (act s) := by
  rw [s.running_of_awake act awake]

theorem Filter.sample_level_changed (f : Filter) (count : Nat) (raw : Bool) :
    (f.sample count raw).2 = true ↔ (f.sample count raw).1.level ≠ f.level := by
  unfold Filter.sample
  split
  · simp
  split
  · simp
  split
  next other _ => simpa using other
  next => simp

theorem State.sampleInput_changed (s : State) (raw : Lines Bool) (i : Input) :
    (s.sampleInput raw i).2 = true ↔ (s.sampleInput raw i).1.level ≠ (s.lic.get i).level := by
  unfold State.sampleInput
  split
  · exact Filter.sample_level_changed _ _ _
  · simp

theorem State.sampled_of_changed {s : State} {raw : Lines Bool} {i : Input} (h : (s.sampleInput raw i).2 = true) :
    s.sampled i = true := by
  by_contra out
  simp [State.sampleInput, out] at h

/-- A sampled input is handed to the blocks that read it, an engine's only while it is fitted. -/
theorem State.mem_readers {s : State} {i : Input} (sampled : s.sampled i = true) (b : Block) :
    b ∈ s.readers i ↔ reads i b = true ∧ ∀ k, b = .esq k → s.fitted k = true := by
  cases i
  case iso k =>
    have fitted : s.fitted k = true := sampled
    cases b <;> simp [State.readers, reads, eq_comm (a := k)]
    rintro rfl
    exact fitted
  case lube k =>
    have fitted : s.fitted k = true := sampled
    cases b <;> simp [State.readers, reads, eq_comm (a := k)]
    rintro rfl
    exact fitted
  all_goals cases b <;> simp [State.readers, reads, State.fittedEngines, Engine.mem_all]

theorem mem_readInputs {i : Input} {b : Block} (h : reads i b = true) : i ∈ readInputs := by
  cases i
  case tl1 | tl2 | tl3 | tl4 => cases b <;> cases h
  all_goals simp [readInputs, Engine.mem_all]

theorem State.mem_levelEvents (s : State) (raw : Lines Bool) (e : Event) : e ∈ s.levelEvents raw ↔
    ∃ i b, e = .level i b (s.sampleInput raw i).1.level ∧
      (s.sampleInput raw i).1.level ≠ (s.lic.get i).level ∧ reads i b = true ∧ ∀ k, b = .esq k → s.fitted k = true := by
  simp only [State.levelEvents, List.mem_flatMap]
  constructor
  · rintro ⟨i, -, he⟩
    split at he
    next changed =>
      obtain ⟨b, hb, rfl⟩ := List.mem_map.mp he
      obtain ⟨read, fitted⟩ := (State.mem_readers (State.sampled_of_changed changed) b).mp hb
      exact ⟨i, b, rfl, (s.sampleInput_changed raw i).mp changed, read, fitted⟩
    next => simp at he
  · rintro ⟨i, b, rfl, changed, read, fitted⟩
    refine ⟨i, mem_readInputs read, ?_⟩
    have changes := (s.sampleInput_changed raw i).mpr changed
    rw [if_pos changes]
    exact List.mem_map.mpr ⟨b, (State.mem_readers (State.sampled_of_changed changes) b).mpr ⟨read, fitted⟩, rfl⟩

theorem State.inputSample_lic (s : State) (raw : Lines Bool) (i : Input) :
    (s.inputSample raw).lic.get i = (s.sampleInput raw i).1 := by simp [State.inputSample]

/-- Settles O9. -/
theorem inputSampleFiltersAndHandsChanges : Obligations.InputSampleFiltersAndHandsChanges := by
  refine ⟨fun s raw awake => ?_, fun s i => ⟨?_, ?_, ?_⟩⟩
  · have sampled {i : Input} (h : s.sampled i = true) :
        (s.inputSample raw).lic.get i = ((s.lic.get i).sample (s.filterCount i) (raw.get i)).1 := by
      rw [s.inputSample_lic, State.sampleInput, if_pos h]
    refine ⟨_, State.running_next _ awake, fun i hs fresh agrees => ?_, fun i hs fresh differs below => ?_,
      fun i hs fresh differs reached => ?_, fun i hs fresh => ?_, fun i hs => ?_, ⟨s.levelEvents raw, rfl, fun e => ?_⟩, ?_⟩
    · simp [sampled hs, Filter.sample, fresh, agrees]
    · simp [sampled hs, Filter.sample, fresh, differs, Nat.not_le.mpr below]
    · simp [sampled hs, Filter.sample, fresh, differs, reached]
    · simp [sampled hs, Filter.sample, fresh]
    · simp [s.inputSample_lic, State.sampleInput, hs]
    · simp only [s.inputSample_lic]
      exact s.mem_levelEvents raw e
    · simp [State.onlyChanges_iff, Part.same, State.eng, State.sense, State.dutyOf]
  · rintro (rfl | rfl | rfl | rfl | rfl) <;> exact ⟨rfl, rfl⟩
  · rintro (rfl | rfl) <;> exact ⟨rfl, rfl⟩
  · rintro k (rfl | rfl) <;> exact ⟨rfl, rfl⟩

/-- A sample leaves the decoded notch, the fault and all that the link has set, and puts its code under test. -/
theorem Dsl.sample_keeps (d : Dsl) (code : BitVec 4) (ticks timeout : Nat) :
    (d.sample code ticks timeout).code = some code ∧ (d.sample code ticks timeout).decoded = d.decoded ∧
      (d.sample code ticks timeout).fault = d.fault ∧ (d.sample code ticks timeout).source = d.source ∧
      (d.sample code ticks timeout).linkDemand = d.linkDemand ∧ (d.sample code ticks timeout).hold = d.hold ∧
      (d.sample code ticks timeout).lapsed = d.lapsed := by
  unfold Dsl.sample
  split
  next same =>
    unfold Dsl.sameCode Dsl.advanceInvalid
    repeat' split
    all_goals exact ⟨same, rfl, rfl, rfl, rfl, rfl, rfl⟩
  next =>
    unfold Dsl.newCode Dsl.advanceInvalid
    simp only []
    repeat' split
    all_goals exact ⟨rfl, rfl, rfl, rfl, rfl, rfl, rfl⟩

/-- A code that differs begins to settle. -/
theorem Dsl.sample_new {d : Dsl} {code : BitVec 4} (ticks timeout : Nat) (new : d.code ≠ some code) :
    (d.sample code ticks timeout).settle = some 0 ∧ (d.sample code ticks timeout).acceptDue = d.acceptDue ∧
      (notchOf code ≠ none → (d.sample code ticks timeout).invalidTimer = none) := by
  unfold Dsl.sample Dsl.newCode Dsl.advanceInvalid
  rw [if_neg new]
  simp only []
  repeat' split
  all_goals simp [*]

/-- An invalid code after an invalid one, the same or another, runs the invalid timer on (R9). -/
theorem Dsl.sample_invalid {d : Dsl} {code c : BitVec 4} (ticks timeout : Nat) (invalid : notchOf code = none)
    (under : d.code = some c) (before : notchOf c = none) :
    (d.sample code ticks timeout).invalidTimer = (d.advanceInvalid timeout).invalidTimer ∧
      (d.sample code ticks timeout).timeoutDue = (d.advanceInvalid timeout).timeoutDue := by
  unfold Dsl.sample
  split
  · cases hd : d.invalidTimer with
    | none => simp [Dsl.sameCode, invalid, Dsl.advanceInvalid, hd]
    | some n =>
      simp [Dsl.sameCode, invalid, Dsl.advanceInvalid, hd]
      split <;> simp
  · cases hd : d.invalidTimer with
    | none => simp [Dsl.newCode, invalid, under, before, Dsl.advanceInvalid, hd]
    | some n =>
      simp [Dsl.newCode, invalid, under, before, Dsl.advanceInvalid, hd]
      split <;> simp

/-- The first invalid code after a valid one, or after none, starts the invalid timer (R9). -/
theorem Dsl.sample_firstInvalid {d : Dsl} {code : BitVec 4} (ticks timeout : Nat) (invalid : notchOf code = none)
    (before : ∀ c, d.code = some c → (notchOf c).isSome) : (d.sample code ticks timeout).invalidTimer = some 0 := by
  have new : d.code ≠ some code := fun same => by simpa [invalid] using before code same
  have valid : (d.code.any fun c => (notchOf c).isNone) = false := by
    cases hc : d.code with
    | none => rfl
    | some c => simpa using before c hc
  simp [Dsl.sample, new, Dsl.newCode, invalid, valid]

/-- Settles O10. -/
theorem inputSampleSettlesThrottleCode : Obligations.InputSampleSettlesThrottleCode := by
  refine ⟨fun s raw awake => ?_, ?_⟩
  · have dsl : (s.inputSample raw).dsl = s.dsl.sample (codeOf (s.inputSample raw).lic)
        (s.cfg.inputs.settleMs / 10) (s.cfg.inputs.invalidTimeout * 10) := by simp [State.inputSample]
    refine ⟨_, State.running_next _ awake, ?_⟩
    simp only [dsl]
    generalize codeOf (s.inputSample raw).lic = code
    generalize s.dsl = d
    generalize s.cfg.inputs.settleMs / 10 = ticks
    generalize s.cfg.inputs.invalidTimeout * 10 = timeout
    obtain ⟨under, decoded, fault, source, linkDemand, hold, lapsed⟩ := d.sample_keeps code ticks timeout
    refine ⟨under, decoded, fault, source, linkDemand, hold, lapsed, fun new => ?_, fun n m same notch settle => ?_,
      fun n same notch settled => ?_, fun n new notch => ?_, Dsl.sample_firstInvalid ticks timeout,
      fun c m invalid before was timer => ?_, fun c invalid before was stopped => ?_⟩
    · obtain ⟨settle, due, -⟩ := Dsl.sample_new ticks timeout new
      exact ⟨settle, due⟩
    · refine ⟨fun below => ?_, fun reached => ?_⟩
      · simp [Dsl.sample, same, Dsl.sameCode, notch, settle, Nat.not_le.mpr below]
      · simp [Dsl.sample, same, Dsl.sameCode, notch, settle, reached]
    · simp [Dsl.sample, same, Dsl.sameCode, notch, settled]
    · obtain ⟨-, -, stops⟩ := Dsl.sample_new ticks timeout new
      exact stops (by simp [notch])
    · obtain ⟨timer', due⟩ := Dsl.sample_invalid ticks timeout invalid before was
      rw [timer', due]
      refine ⟨fun below => ?_, fun reached => ?_⟩
      · simp [Dsl.advanceInvalid, timer, Nat.not_le.mpr below]
      · simp [Dsl.advanceInvalid, timer, reached]
    · obtain ⟨timer, -⟩ := Dsl.sample_invalid ticks timeout invalid before was
      rw [timer]
      simp [Dsl.advanceInvalid, stopped]
  · refine ⟨rfl, rfl, rfl, rfl, rfl, rfl, rfl, rfl, rfl, by decide, fun l => ?_⟩
    unfold codeOf
    generalize l.tl4.level = a, l.tl3.level = b, l.tl2.level = c, l.tl1.level = d
    revert a b c d
    decide

/-- Settles O11. -/
theorem demandEventsMoveDemand : Obligations.DemandEventsMoveDemand := by
  refine ⟨fun s awake => ⟨fun n due => ?accepted, fun due => ?timeout⟩, fun s n len awake hold reached => ?lapse⟩
  case accepted =>
    refine ⟨_, State.running_next _ awake, ?_⟩
    simp only [State.codeAccepted, due]
    cases fault : s.dsl.fault <;>
      simp [State.flagTrainlineFault, State.setNotices, State.onlyChanges_iff, Part.same, State.eng, State.sense,
        State.dutyOf]
  case timeout =>
    refine ⟨_, State.running_next _ awake, ?_⟩
    simp only [State.invalidTimeout, due]
    cases fault : s.dsl.fault <;>
      simp [State.flagTrainlineFault, State.setNotices, State.onlyChanges_iff, Part.same, State.eng, State.sense,
        State.dutyOf]
  case lapse =>
    refine ⟨_, State.running_next _ awake, ?_⟩
    have due : s.dsl.lapseDue = true := by simpa [Dsl.lapseDue, hold] using reached
    simp [State.demandLapse, due, State.flagDemandLapsed, State.setNotices, State.onlyChanges_iff, Part.same, State.eng,
      State.sense, State.dutyOf]

/-- A request of the Demand Selector that replaces its state: D follows, and only a change of D is handed on. -/
theorem State.served_demandStep {s : State} {c : Instr} {owner : State → State × Reply} {d : Dsl} {status : Status}
    (taken : s.takes c = true) (own : owner s = (s.demandStep d, .bare status)) :
    s.answers (s.serveCommand c owner) c status [] ∧ (s.serveCommand c owner).dsl = d ∧
      (s.serveCommand c owner).handed = s.handed ++ (if d.demand = s.dsl.demand then [] else [.replan .demand]) ∧
      s.onlyChanges (s.serveCommand c owner) (.dsl :: .handed :: answerParts) := by
  obtain ⟨answers, frame, after⟩ := State.served taken own (s.demandStep_onlyChanges d) (by simp)
  exact ⟨answers, (after .dsl (by simp [answerParts])).trans (by simp),
    (after .handed (by simp [answerParts])).trans (by simp), frame⟩

/-- Settles O12. -/
theorem linkRequestsMoveDemand : Obligations.LinkRequestsMoveDemand := by
  refine ⟨fun s c notch taken => ⟨fun source => ?_, fun source => ?_⟩,
    fun s c source taken => ⟨fun field => ?_, fun field => ?_, fun x field other => ?_⟩⟩
  · refine ⟨_, rfl, State.served_idle taken ?_⟩
    simp [State.setDemand, source, Reply.bare]
  · have own : s.setDemand notch = (s.demandStep { s.dsl with
        linkDemand := min notch.toNat 8, hold := some (0, s.cfg.inputs.demandHold * 10), lapsed := false },
        .bare (if 8 < notch.toNat then .clamped else .ok)) := by simp only [State.setDemand, source]
    obtain ⟨answers, dsl, handed, frame⟩ := State.served_demandStep (owner := fun t => t.setDemand notch) taken own
    refine ⟨_, rfl, answers, dsl, ?_, ?_, frame⟩
    · rw [dsl]
      simp [Dsl.demand, source]
    · rw [dsl]
      exact handed
  · refine ⟨_, rfl, State.served_idle taken ?_⟩
    simp [State.selectSource, field, Reply.bare]
  · refine ⟨_, rfl, State.served_idle taken ?_⟩
    simp [State.selectSource, field, Reply.bare]
  · have own : s.selectSource source = (s.demandStep { s.dsl with
        source := x, linkDemand := 0, hold := none, lapsed := false }, .bare .ok) := by
      simp only [State.selectSource, field, if_neg other]
    obtain ⟨answers, dsl, handed, frame⟩ := State.served_demandStep (owner := fun t => t.selectSource source) taken own
    refine ⟨_, rfl, answers, dsl, ?_, ?_, frame⟩
    · rw [dsl]
      cases x <;> simp [Dsl.demand]
    · rw [dsl]
      exact handed

end Sys2Proof.Machine

namespace Sys2Proof.Machine

/-! ## The grant decision -/

theorem State.supplyHeld_of {s : State} (h : s.cfg.arbiter.sharing = .exclusive ∨ s.car.line = .held) :
    s.supplyHeld = true := by
  unfold State.supplyHeld
  obtain h | h := h <;> simp [h]

theorem State.not_supplyHeld_of {s : State} (h : s.cfg.arbiter.sharing = .shared ∧ s.car.line ≠ .held) :
    s.supplyHeld = false := by
  simp [State.supplyHeld, h.1, h.2]

/-- With nothing to grant, or nothing to grant it with, a grant decision does nothing. -/
theorem State.decideGrant_none {s : State} (h : s.car.phase ≠ .idle ∨ s.supplyHeld = false ∨
    ∀ j ∈ s.car.queue, s.limits.inhibit.get j = true) : s.decideGrant = s := by
  obtain ⟨he, -⟩ | ⟨k, idle, held, first, -⟩ := s.decideGrant_cases
  · exact he
  · obtain h | h | h := h
    · exact absurd idle h
    · rw [held] at h
      cases h
    · have mem := List.mem_of_find?_eq_some first
      have free := List.find?_some first
      rw [h k mem] at free
      cases free

/-- A grant decision on a free supply that is held grants the oldest uninhibited engine. -/
theorem State.decideGrant_some {s : State} {j : Engine} (idle : s.car.phase = .idle) (held : s.supplyHeld = true)
    (first : s.car.queue.find? (fun x => !s.limits.inhibit.get x) = some j) :
    s.decideGrant.car = { s.car with queue := s.car.queue.erase j, holder := some j, phase := .granted } ∧
      s.decideGrant.handed = (s.handed.filter fun e => e ≠ .sag j) ++ [.phase .granted (some j), .grant j] := by
  obtain ⟨-, no | no | no⟩ | ⟨k, -, -, eligible, car, handed⟩ := s.decideGrant_cases
  · exact absurd idle no
  · rw [held] at no
    cases no
  · rw [State.eligible, first] at no
    cases no
  · obtain rfl : j = k := by
      rw [State.eligible, first] at eligible
      exact Option.some.inj eligible
    exact ⟨car, handed⟩

theorem State.decideGrant_onlyChanges (s : State) : s.onlyChanges s.decideGrant [.car, .handed] := by
  simp [State.onlyChanges_iff, Part.same, State.eng, State.sense, State.dutyOf]

theorem State.formWish_onlyChanges (s : State) : s.onlyChanges s.formWish [.car] := by
  simp [State.onlyChanges_iff, Part.same, State.eng, State.sense, State.dutyOf]

theorem State.formWish_eng (s : State) : s.formWish.eng = s.eng := State.eng_congr (by simp)

theorem State.formWish_cfg (s : State) : s.formWish.cfg = s.cfg := State.cfg_congr (by simp)

theorem State.wantsSupply_formWish (s : State) : s.formWish.wantsSupply ↔ s.wantsSupply := by
  obtain ⟨queue, holder, -, -⟩ := s.formWish_car
  exact State.wantsSupply_congr queue holder s.formWish_cfg fun k => by rw [s.formWish_eng]

/-- A grant takes an engine out of the queue and makes it holder: the supply is wanted before and after. -/
theorem State.wantsSupply_decideGrant (s : State) : s.decideGrant.wantsSupply ↔ s.wantsSupply := by
  obtain ⟨he, -⟩ | ⟨k, -, -, first, car, -⟩ := s.decideGrant_cases
  · rw [he]
  · have mem := List.mem_of_find?_eq_some first
    exact ⟨fun _ => .inl (List.ne_nil_of_mem mem), fun _ => .inr (.inl (by simp [car]))⟩

theorem State.decideGrant_line (s : State) :
    s.decideGrant.car.line = s.car.line ∧ s.decideGrant.car.rerequest = s.car.rerequest ∧
      s.decideGrant.car.gapTimer = s.car.gapTimer := by
  obtain ⟨he, -⟩ | ⟨k, -, -, -, car, -⟩ := s.decideGrant_cases
  · rw [he]
    exact ⟨rfl, rfl, rfl⟩
  · rw [car]
    exact ⟨rfl, rfl, rfl⟩

/-! ## The line follows -/

theorem State.lineFollows_congr {s t u : State} {released : Bool} (line : u.car.line = t.car.line)
    (rerequest : u.car.rerequest = t.car.rerequest) (wants : u.wantsSupply ↔ t.wantsSupply)
    (h : s.lineFollows t released) : s.lineFollows u released := by
  unfold State.lineFollows
  rw [line, rerequest, wants]
  exact h

/-- What the line is told before the wish is formed: at the release of a holder a line WITHDRAWN is given up (R130). -/
def State.lineTold (s m : State) (released : Bool) : Prop :=
  m.cfg = s.cfg ∧
    (released = true ∧ s.car.line = .withdrawn → m.car.line = .backoff ∧ m.car.rerequest = some 0) ∧
    (released = false ∨ s.car.line ≠ .withdrawn → m.car.line = s.car.line ∧ m.car.rerequest = s.car.rerequest)

theorem State.lineTold_of {s m : State} (cfg : m.cfg = s.cfg) (line : m.car.line = s.car.line)
    (rerequest : m.car.rerequest = s.car.rerequest) : s.lineTold m false := ⟨cfg, nofun, fun _ => ⟨line, rerequest⟩⟩

/-- Forming the wish makes the line follow it. -/
theorem State.lineFollows_formWish {s m : State} {released : Bool} (told : s.lineTold m released) :
    s.lineFollows m.formWish released := by
  obtain ⟨cfg, gaveUp, kept⟩ := told
  unfold State.lineFollows
  rw [m.wantsSupply_formWish, ← m.wish_iff]
  by_cases gives : released = true ∧ s.car.line = .withdrawn
  · obtain ⟨line, rerequest⟩ := gaveUp gives
    have idle : m.formWish = m := by simp [State.formWish, line]
    simp [idle, gives, line, rerequest]
  · obtain ⟨line, rerequest⟩ := kept (by cases released <;> simp_all)
    cases mode : s.cfg.arbiter.sharing with
    | exclusive =>
      have idle : m.formWish = m := by simp [State.formWish, cfg, mode]
      simp [idle, line, rerequest]
    | shared =>
      cases hl : s.car.line <;> cases hw : m.wish <;>
        simp_all [State.formWish, State.deassert]

/-! ## A change of state at the arbiter -/

/-- What the arbiter keeps of the queue, the holder, the phase and the gap while only the line may move. -/
theorem State.supplyKept_formWish {s m : State} (car : m.car = s.car) (cfg : m.cfg = s.cfg) : s.supplyKept m.formWish := by
  obtain ⟨queue, holder, phase, gap⟩ := m.formWish_car
  rw [car] at queue holder phase gap
  exact ⟨queue, holder, phase, gap, State.lineFollows_formWish (State.lineTold_of cfg (by rw [car]) (by rw [car]))⟩

/-- The holder's release leaves the supply free, and the grant decision of the free supply follows the wish. -/
theorem State.supplyFreed_of {s m : State} (told : s.lineTold m true) (queue : m.car.queue = s.car.queue)
    (holder : m.car.holder = none) (idle : m.car.phase = .idle) (gap : m.car.gapTimer = none)
    (handed : .phase .idle none ∈ m.handed) : s.supplyFreed m.formWish.decideGrant := by
  obtain ⟨queue', holder', phase', gap'⟩ := m.formWish_car
  obtain ⟨line, rerequest, gap''⟩ := m.formWish.decideGrant_line
  have limits : m.formWish.decideGrant.limits = m.formWish.limits := by simp
  have mode : m.formWish.cfg.arbiter.sharing = s.cfg.arbiter.sharing := by rw [m.formWish_cfg, told.1]
  refine ⟨?_, by rw [gap'', gap', gap], State.lineFollows_congr line rerequest m.formWish.wantsSupply_decideGrant
    (State.lineFollows_formWish told), fun none => ?_, fun j first held => ?_⟩
  · exact m.formWish.decideGrant_handed _ (by simpa using handed) nofun
  · rw [line, limits, ← queue, ← queue', ← mode] at none
    rw [State.decideGrant_none (none.elim (fun all => .inr (.inr all)) fun out => .inr (.inl (State.not_supplyHeld_of out)))]
    exact ⟨by rw [queue', queue], by rw [holder', holder], by rw [phase', idle]⟩
  · rw [line, ← mode] at held
    rw [limits, ← queue, ← queue'] at first
    obtain ⟨car, handed⟩ := State.decideGrant_some (by rw [phase', idle]) (State.supplyHeld_of held) first
    rw [car, handed, ← queue, ← queue']
    simp

theorem State.supplyMoved_of_quiet {s : State} {k : Engine} {old new : EState} (joins : new ≠ .crankWait)
    (leaves : old ≠ .crankWait ∨ new = .cranking) (releases : old ≠ .cranking) : s.supplyMoved k old new = s := by
  unfold State.supplyMoved
  simp only [joins, releases, false_and, if_false]
  obtain h | h := leaves <;> simp [h]

/-- A change of state that neither joins, leaves nor releases moves only the line. -/
theorem State.supplyKept_arbiterOnChange {s m : State} {k : Engine} {old new : EState} (car : m.car = s.car)
    (cfg : m.cfg = s.cfg) (joins : new ≠ .crankWait) (leaves : old ≠ .crankWait ∨ new = .cranking)
    (releases : old ≠ .cranking) : s.supplyKept (m.arbiterOnChange k old new) := by
  rw [State.arbiterOnChange_eq, State.supplyMoved_of_quiet joins leaves releases, if_neg (by simp [joins, releases])]
  exact State.supplyKept_formWish car cfg

/-- The release of a used grant. -/
theorem State.releaseUsed_told {s m : State} {k : Engine} (car : m.car = s.car) (cfg : m.cfg = s.cfg)
    (holder : s.car.holder = some k) : s.lineTold (m.releaseUsed k) true := by
  refine ⟨by rw [← cfg]; exact State.cfg_congr (by simp), fun ⟨_, line⟩ => ?_, fun h => ?_⟩
  · unfold State.releaseUsed State.giveUpIfWithdrawn
    by_cases gap : m.cfg.arbiter.crankGap = 0 <;> simp [car, holder, line, gap, State.setPhase, State.deassert]
  · have line : s.car.line ≠ .withdrawn := by simpa using h
    unfold State.releaseUsed State.giveUpIfWithdrawn
    by_cases gap : m.cfg.arbiter.crankGap = 0 <;> simp [car, holder, line, gap, State.setPhase]

theorem State.releaseUsed_phases {s : State} {k : Engine} (holder : s.car.holder = some k) :
    .phase .recovery none ∈ (s.releaseUsed k).handed ∧
      (s.cfg.arbiter.crankGap = 0 → .phase .idle none ∈ (s.releaseUsed k).handed) := by
  unfold State.releaseUsed
  by_cases gap : s.cfg.arbiter.crankGap = 0 <;> simp [holder, gap, State.setPhase]

/-- An exit of engine k from its state, other than by a grant and into none that waits for one (R120, R123, R124). -/
theorem State.supplyLeft_arbiterOnChange {s m : State} {k : Engine} {new : EState} (car : m.car = s.car)
    (cfg : m.cfg = s.cfg) (joins : new ≠ .crankWait) (granted : new ≠ .cranking) :
    s.supplyLeft (m.arbiterOnChange k (s.eng k).state new) k := by
  refine ⟨fun waits => ?_, fun cranks holder => ?_, fun waits cranks =>
    State.supplyKept_arbiterOnChange car cfg joins (.inl waits) cranks⟩
  · rw [State.arbiterOnChange_eq, waits, if_neg (by simp [joins])]
    have moved : m.supplyMoved k .crankWait new = m.leave k := by simp [State.supplyMoved, joins, granted]
    rw [moved]
    obtain ⟨queue, holder, phase, gap⟩ := (m.leave k).formWish_car
    refine ⟨by rw [queue, ← car]; rfl, fun nodup => ?_, by rw [holder, ← car]; rfl, by rw [phase, ← car]; rfl,
      by rw [gap, ← car]; rfl, State.lineFollows_formWish (State.lineTold_of cfg ?_ ?_)⟩
    · rw [queue]
      simp only [State.leave, State.setCar_car, car]
      exact nodup.not_mem_erase
    · rw [← car]; rfl
    · rw [← car]; rfl
  · rw [State.arbiterOnChange_eq, cranks, if_pos (.inr rfl)]
    have moved : m.supplyMoved k .cranking new = m.releaseUsed k := by simp [State.supplyMoved, joins, granted]
    rw [moved]
    have holds : m.car.holder = some k := by rw [car, holder]
    have told := State.releaseUsed_told car cfg holder
    obtain ⟨freed, queue, gap, noGap⟩ := m.releaseUsed_car k holds
    obtain ⟨recovery, idle⟩ := State.releaseUsed_phases holds
    obtain ⟨queue', holder', phase', gap'⟩ := (m.releaseUsed k).formWish_car
    rw [cfg] at gap noGap idle
    refine ⟨(m.releaseUsed k).formWish.decideGrant_handed _ (by simpa using recovery) nofun, fun pos => ?_, fun zero => ?_⟩
    · obtain ⟨phase, timer⟩ := gap pos
      rw [State.decideGrant_none (.inl (by rw [phase', phase]; simp))]
      exact ⟨by rw [queue', queue, car], by rw [holder', freed], by rw [phase', phase], by rw [gap', timer],
        State.lineFollows_formWish told⟩
    · obtain ⟨phase, timer⟩ := noGap zero
      exact State.supplyFreed_of told (by rw [queue, car]) freed phase timer (idle zero)

/-- With the supply wanted, forming the wish neither gains nor loses it. -/
theorem State.formWish_held {s : State} (wanted : s.wantsSupply) :
    s.formWish.car.line = .held ↔ s.car.line = .held := by
  obtain ⟨idle, -⟩ | ⟨quiet, -, asks⟩ | ⟨-, none, -⟩ := s.formWish_cases
  · rw [idle]
  · simp [asks, quiet]
  · rw [s.wish_iff.mpr wanted] at none
    cases none

/-- An entry into CRANK_WAIT, by an engine in a state that keeps no grant (R120, R121). -/
theorem State.supplyJoined_arbiterOnChange {s m : State} {k : Engine} {old : EState} (car : m.car = s.car)
    (cfg : m.cfg = s.cfg) (limits : m.limits = s.limits) (waits : old ≠ .crankWait) (cranks : old ≠ .cranking) :
    s.supplyJoined (m.arbiterOnChange k old .crankWait) k := by
  have moved : m.supplyMoved k old .crankWait = m.join k := by simp [State.supplyMoved, waits, cranks]
  rw [State.arbiterOnChange_eq, if_pos (.inl rfl), moved]
  obtain ⟨queue, holder, phase, gap⟩ := (m.join k).formWish_car
  obtain ⟨line, rerequest, gap'⟩ := (m.join k).formWish.decideGrant_line
  have cfg' : (m.join k).cfg = s.cfg := by rw [← cfg]; exact State.cfg_congr (by simp)
  have mode : (m.join k).formWish.cfg.arbiter.sharing = s.cfg.arbiter.sharing := by rw [State.formWish_cfg, cfg']
  have limits' : (m.join k).formWish.limits = s.limits := by simp [limits]
  refine ⟨fun out free => ?_, fun waiting busy => ?_⟩
  · have joined : (m.join k).car = { s.car with queue := s.car.queue ++ [k] } := by
      simp [State.join, car, out, free]
    rw [joined] at queue holder phase gap
    have wanted : (m.join k).wantsSupply := .inl (by rw [joined]; simp)
    have told : s.lineTold (m.join k) false := State.lineTold_of cfg' (by rw [joined]) (by rw [joined])
    refine ⟨by rw [gap', gap], State.lineFollows_congr line rerequest (State.wantsSupply_decideGrant _)
      (State.lineFollows_formWish told), fun none => ?_, fun j idle held first => ?_⟩
    · have idle : (m.join k).formWish.decideGrant = (m.join k).formWish := by
        refine State.decideGrant_none ?_
        rw [phase, queue, limits']
        obtain h | ⟨shared, out⟩ | h := none
        · exact .inl h
        · refine .inr (.inl (State.not_supplyHeld_of ⟨by rw [mode, shared], fun held => out ?_⟩))
          rw [State.formWish_held wanted, joined] at held
          exact held
        · exact .inr (.inr h)
      rw [idle]
      exact ⟨queue, holder, phase⟩
    · have held' : (m.join k).formWish.supplyHeld = true := by
        refine State.supplyHeld_of (held.imp (fun h => by rw [mode, h]) fun h => ?_)
        rw [State.formWish_held wanted, joined]
        exact h
      obtain ⟨car', handed⟩ := State.decideGrant_some (by rw [phase, idle]) held' (j := j) (by rw [queue, limits', first])
      rw [car', handed, queue]
      simp
  · have idle : m.join k = m := by
      obtain h | h := waiting <;> simp [State.join, car, h]
    rw [idle] at phase ⊢
    rw [State.decideGrant_none (.inl (by rw [phase, car]; exact busy))]
    exact State.supplyKept_formWish car cfg

end Sys2Proof.Machine

namespace Sys2Proof.Machine

/-! ## One change of state -/

/-- A change of state up to the WARMUP entry: the record, the changed flag, and what is handed on. -/
def State.recorded (s : State) (k : Engine) (new : EState) (counted : List CountedEvent)
    (f : EngineRec → EngineRec) : State :=
  let now : EngineRec := { f (s.eng k) with state := new }
  ((s.setEng k now).flagChanged k).emitAll
    (.replan (.engine ((s.eng k).inO != now.inO)) :: if counted.isEmpty then [] else [.counted k counted])

/-- A change of state up to the arbiter's part. -/
def State.entered (s : State) (k : Engine) (new : EState) (counted : List CountedEvent) (f : EngineRec → EngineRec) :
    State :=
  if new.endsWarmup then (s.recorded k new counted f).retireInternal .warmup k else s.recorded k new counted f

section

variable (s : State) (k : Engine) (new : EState) (c : List CountedEvent) (f : EngineRec → EngineRec)

theorem State.enter_eq : s.enter k new c f = (s.entered k new c f).arbiterOnChange k (s.eng k).state new := rfl

theorem State.recorded_keeps : (s.recorded k new c f).car = s.car ∧ (s.recorded k new c f).cfs = s.cfs ∧
    (s.recorded k new c f).limits = s.limits ∧ (s.recorded k new c f).table = s.table := by
  simp [State.recorded]

theorem State.entered_keeps : (s.entered k new c f).car = s.car ∧ (s.entered k new c f).cfs = s.cfs := by
  obtain ⟨car, cfs, -, -⟩ := s.recorded_keeps k new c f
  unfold State.entered
  split <;> simp [car, cfs]

theorem State.entered_cfg : (s.entered k new c f).cfg = s.cfg := State.cfg_congr (s.entered_keeps k new c f).2

theorem State.entered_limits (stays : new.endsWarmup = false) : (s.entered k new c f).limits = s.limits := by
  simp [State.entered, stays, s.recorded_keeps k new c f]

theorem State.enter_fitted : (s.enter k new c f).fitted = s.fitted := State.fitted_congr (by simp)

theorem State.enter_cli : (s.enter k new c f).cli =
    { s.cli with notices := { s.cli.notices with changed := s.cli.notices.changed.set k true } } := by
  have cli : (s.recorded k new c f).cli =
      { s.cli with notices := { s.cli.notices with changed := s.cli.notices.changed.set k true } } := by
    simp [State.recorded, State.flagChanged, State.setNotices]
  rw [State.enter_eq, (State.arbiterOnChange_keeps _ _ _ _).2.2.2.2.2.2.2.2.2.1]
  unfold State.entered
  split <;> simp [cli]

theorem State.enter_onlyChanges : s.onlyChanges (s.enter k new c f) (engineParts k) := by
  have record (j : Engine) : (s.enter k new c f).eng j = if j = k then { f (s.eng k) with state := new } else s.eng j :=
    s.enter_eng k j new c f
  simp +contextual [State.onlyChanges_iff, Part.same, State.sense, State.dutyOf, engineParts, record, s.enter_cli k new c f]

/-- Into any state that is not an end of WARMUP the table and the limits stay. -/
theorem State.enter_onlyChanges_of_stays (stays : new.endsWarmup = false) :
    s.onlyChanges (s.enter k new c f) [.engine k, .car, .notices, .handed] := by
  obtain ⟨table, limits⟩ := s.enter_table k new c f stays
  intro p hp
  by_cases h : p ∈ engineParts k
  · simp only [engineParts, List.mem_cons, List.not_mem_nil, or_false] at h hp
    obtain rfl | rfl | rfl | rfl | rfl | rfl := h
    · simp at hp
    · simp at hp
    · exact table
    · exact limits
    · simp at hp
    · simp at hp
  · exact s.enter_onlyChanges k new c f p h

theorem State.enter_changed : (s.enter k new c f).cli.notices.changed.get k = true := by
  simp [s.enter_notices k new c f]

end

/-! ## The limits handed on -/

theorem State.limitsHanded_refl (s : State) (l : Limits) : s.limitsHanded l l = [] := by simp [State.limitsHanded]

theorem State.limitsHanded_congr {s t : State} (fitted : t.fitted = s.fitted) (l l' : Limits) :
    t.limitsHanded l l' = s.limitsHanded l l' := by simp [State.limitsHanded, fitted]

theorem State.limitsHanded_noSag {s : State} {l l' : Limits} {e : Event} (h : e ∈ s.limitsHanded l l') (j : Engine) :
    e ≠ .sag j := by
  unfold State.limitsHanded at h
  split at h
  · simp at h
  · simp only [List.cons_append, List.mem_cons, List.mem_append, List.mem_map, List.not_mem_nil, or_false] at h
    obtain rfl | ⟨k, -, rfl⟩ | rfl := h <;> nofun

theorem State.changeTable_handsOn (s : State) (x : List Slot) :
    (s.changeTable x).handed = s.handed ++ s.limitsHanded s.limits (s.changeTable x).limits := by
  rw [s.changeTable_handsLimits, (s.changeTable_spec x).2.1]

theorem State.postInternal_handsOn (s : State) (c : Condition) (k : Engine) :
    (s.postInternal c k).handed = s.handed ++ s.limitsHanded s.limits (s.postInternal c k).limits := by
  unfold State.postInternal
  split
  · exact s.changeTable_handsOn _
  · simp [State.limitsHanded_refl]

theorem State.retireInternal_handsOn (s : State) (c : Condition) (k : Engine) :
    (s.retireInternal c k).handed = s.handed ++ s.limitsHanded s.limits (s.retireInternal c k).limits := by
  unfold State.retireInternal
  split
  · exact s.changeTable_handsOn _
  · simp [State.limitsHanded_refl]

/-- A change of state hands on what its change of the limits hands on. -/
theorem State.enter_handsOn (s : State) (k : Engine) (new : EState) (c : List CountedEvent) (f : EngineRec → EngineRec) :
    ∀ e ∈ s.limitsHanded s.limits (s.enter k new c f).limits, e ∈ (s.enter k new c f).handed := by
  intro e he
  have limits : (s.enter k new c f).limits = (s.entered k new c f).limits := by simp [State.enter_eq]
  rw [limits] at he
  rw [State.enter_eq]
  refine State.arbiterOnChange_handed _ _ _ _ _ ?_ (State.limitsHanded_noSag he)
  obtain ⟨-, cfs, limits, -⟩ := s.recorded_keeps k new c f
  have fitted := State.limitsHanded_congr (s := s) (State.fitted_congr cfs)
  revert he
  unfold State.entered
  split
  · rw [State.retireInternal_handsOn, fitted, limits]
    exact List.mem_append_right _
  · rw [limits, State.limitsHanded_refl]
    nofun

/-! ## The supply at a change of state -/

theorem State.enter_supplyKept (s : State) (k : Engine) {new : EState} (c : List CountedEvent)
    (f : EngineRec → EngineRec) (joins : new ≠ .crankWait) (leaves : (s.eng k).state ≠ .crankWait ∨ new = .cranking)
    (releases : (s.eng k).state ≠ .cranking) : s.supplyKept (s.enter k new c f) :=
  State.supplyKept_arbiterOnChange (s.entered_keeps k new c f).1 (s.entered_cfg k new c f) joins leaves releases

theorem State.enter_supplyLeft (s : State) (k : Engine) {new : EState} (c : List CountedEvent)
    (f : EngineRec → EngineRec) (joins : new ≠ .crankWait) (granted : new ≠ .cranking) :
    s.supplyLeft (s.enter k new c f) k :=
  State.supplyLeft_arbiterOnChange (s.entered_keeps k new c f).1 (s.entered_cfg k new c f) joins granted

theorem State.enter_supplyJoined (s : State) (k : Engine) (c : List CountedEvent) (f : EngineRec → EngineRec)
    (waits : (s.eng k).state ≠ .crankWait) (cranks : (s.eng k).state ≠ .cranking) :
    s.supplyJoined (s.enter k .crankWait c f) k :=
  State.supplyJoined_arbiterOnChange (s.entered_keeps k _ c f).1 (s.entered_cfg k _ c f) (s.entered_limits k _ c f rfl)
    waits cranks

end Sys2Proof.Machine

namespace Sys2Proof.Machine

/-! ## The oldest event of a kind -/

/-- When only the events of one form are of a kind, the oldest handed event of that form is taken. -/
theorem State.take_first {α : Type} {s : State} {p : Event → Option α} {act : α → State → State} (mk : α → Event)
    {pre post : List Event} {a : α} (only : ∀ e b, p e = some b → e = mk b) (this : p (mk a) = some a)
    (handed : s.handed = pre ++ mk a :: post) (oldest : ∀ b, mk b ∉ pre) :
    s.take p act = act a (s.setHanded (pre ++ post)) := by
  refine s.take_of p act pre post (mk a) a handed this fun e he => ?_
  cases h : p e with
  | none => rfl
  | some b => exact absurd (only e b h ▸ he) (oldest b)

section

variable {s : State} {pre post : List Event} {k : Engine}

theorem exec_levelChange {i : Input} {b : Block} {v : Bool} (awake : s.awake = true)
    (handed : s.handed = pre ++ .level i b v :: post) (oldest : ∀ w, .level i b w ∉ pre) :
    exec (.levelChange i b) s = .next ((s.setHanded (pre ++ post)).levelSeen i b v) := by
  refine (State.running_next _ awake).trans (congrArg Host.Outcome.next ?_)
  refine State.take_first (fun w => .level i b w) (fun e w h => ?_) (by simp) handed oldest
  cases e <;> simp at h
  obtain ⟨⟨rfl, rfl⟩, rfl⟩ := h
  rfl

theorem exec_limitsChanged {b : Block} {p q : Bool} (awake : s.awake = true)
    (handed : s.handed = pre ++ .limits b p q :: post) (oldest : ∀ x y, .limits b x y ∉ pre) :
    exec (.limitsChanged b) s = .next ((s.setHanded (pre ++ post)).limitsChanged b p q) := by
  refine (State.running_next _ awake).trans (congrArg Host.Outcome.next ?_)
  refine State.take_first (a := (p, q)) (fun x => .limits b x.1 x.2) (fun e x h => ?_) (by simp) handed
    fun x => oldest x.1 x.2
  cases e <;> simp at h
  obtain ⟨rfl, rfl⟩ := h
  rfl

theorem exec_startOrderTaken {reason : StartReason} (awake : s.awake = true) (fitted : s.fitted k = true)
    (handed : s.handed = pre ++ .startOrder k reason :: post) (oldest : ∀ x, .startOrder k x ∉ pre) :
    exec (.startOrderTaken k) s = .next ((s.setHanded (pre ++ post)).takeStart k reason) := by
  refine (State.running_next _ awake).trans (congrArg Host.Outcome.next ?_)
  refine (State.take_first (fun x => .startOrder k x) (fun e x h => ?_) (by simp) handed oldest).trans (if_pos fitted)
  cases e <;> simp at h
  obtain ⟨rfl, rfl⟩ := h
  rfl

theorem exec_recall (awake : s.awake = true) (fitted : s.fitted k = true)
    (handed : s.handed = pre ++ .recall k :: post) (oldest : .recall k ∉ pre) :
    exec (.recall k) s = .next ((s.setHanded (pre ++ post)).takeRecall k) := by
  refine (State.running_next _ awake).trans (congrArg Host.Outcome.next ?_)
  refine (State.take_first (a := ()) (fun _ => .recall k) (fun e x h => ?_) (by simp) handed fun _ => oldest).trans
    (if_pos fitted)
  cases e <;> simp at h
  obtain rfl := h
  rfl

theorem exec_stopOrderTaken {reason : StopReason} (awake : s.awake = true) (fitted : s.fitted k = true)
    (handed : s.handed = pre ++ .stopOrder k reason :: post) (oldest : ∀ x, .stopOrder k x ∉ pre) :
    exec (.stopOrderTaken k) s = .next ((s.setHanded (pre ++ post)).takeStop k reason) := by
  refine (State.running_next _ awake).trans (congrArg Host.Outcome.next ?_)
  refine (State.take_first (fun x => .stopOrder k x) (fun e x h => ?_) (by simp) handed oldest).trans (if_pos fitted)
  cases e <;> simp at h
  obtain ⟨rfl, rfl⟩ := h
  rfl

theorem exec_pairHanded {pairs : PerEngine (Option Pair)} (awake : s.awake = true)
    (handed : s.handed = pre ++ .pairs pairs :: post) (oldest : ∀ x, .pairs x ∉ pre) :
    exec .pairHanded s = .next ((s.setHanded (pre ++ post)).takePairs pairs) := by
  refine (State.running_next _ awake).trans (congrArg Host.Outcome.next ?_)
  refine State.take_first (fun x => .pairs x) (fun e x h => ?_) rfl handed oldest
  cases e <;> simp at h
  obtain rfl := h
  rfl

theorem exec_crankGrantTaken (awake : s.awake = true) (handed : s.handed = pre ++ .grant k :: post)
    (oldest : .grant k ∉ pre) :
    exec (.crankGrantTaken k) s = .next ((s.setHanded (pre ++ post)).takeGrant k) := by
  refine (State.running_next _ awake).trans (congrArg Host.Outcome.next ?_)
  refine State.take_first (a := ()) (fun _ => .grant k) (fun e x h => ?_) (by simp) handed fun _ => oldest
  cases e <;> simp at h
  obtain rfl := h
  rfl

theorem exec_phaseChange {p : Phase} {holder : Option Engine} (awake : s.awake = true)
    (handed : s.handed = pre ++ .phase p holder :: post) (oldest : ∀ x y, .phase x y ∉ pre) :
    exec .phaseChange s = .next ((s.setHanded (pre ++ post)).setBsm (s.bsm.takePhase p holder)) := by
  refine (State.running_next _ awake).trans (congrArg Host.Outcome.next ?_)
  refine State.take_first (a := (p, holder)) (fun x => .phase x.1 x.2) (fun e x h => ?_) rfl handed
    fun x => oldest x.1 x.2
  cases e <;> simp at h
  obtain rfl := h
  rfl

theorem exec_sagReport (awake : s.awake = true) (fitted : s.fitted k = true)
    (handed : s.handed = pre ++ .sag k :: post) (oldest : .sag k ∉ pre) :
    exec (.sagReport k) s = .next ((s.setHanded (pre ++ post)).sagSeen k) := by
  refine (State.running_next _ awake).trans (congrArg Host.Outcome.next ?_)
  refine (State.take_first (a := ()) (fun _ => .sag k) (fun e x h => ?_) (by simp) handed fun _ => oldest).trans
    (if_pos fitted)
  cases e <;> simp at h
  obtain rfl := h
  rfl

theorem exec_overheat (awake : s.awake = true) (fitted : s.fitted k = true)
    (handed : s.handed = pre ++ .overheat k :: post) (oldest : .overheat k ∉ pre) :
    exec (.overheat k) s = .next ((s.setHanded (pre ++ post)).overheatSeen k) := by
  refine (State.running_next _ awake).trans (congrArg Host.Outcome.next ?_)
  refine (State.take_first (a := ()) (fun _ => .overheat k) (fun e x h => ?_) (by simp) handed fun _ => oldest).trans
    (if_pos fitted)
  cases e <;> simp at h
  obtain rfl := h
  rfl

theorem exec_countedEvent {events : List CountedEvent} (awake : s.awake = true) (fitted : s.fitted k = true)
    (handed : s.handed = pre ++ .counted k events :: post) (oldest : ∀ x, .counted k x ∉ pre) :
    exec (.countedEvent k) s = .next ((s.setHanded (pre ++ post)).countEvents k events) := by
  refine (State.running_next _ awake).trans (congrArg Host.Outcome.next ?_)
  refine (State.take_first (fun x => .counted k x) (fun e x h => ?_) (by simp) handed oldest).trans (if_pos fitted)
  cases e <;> simp at h
  obtain ⟨rfl, rfl⟩ := h
  rfl

theorem State.setHanded_onlyChanges (s : State) (x : List Event) : s.onlyChanges (s.setHanded x) [.handed] := by
  simp [State.onlyChanges_iff, Part.same, State.eng, State.sense, State.dutyOf]

/-- What changes past the taking of an event changes, with the events handed, in all. -/
theorem State.onlyChanges_after {s t : State} {x : List Event} {ps : List Part}
    (h : (s.setHanded x).onlyChanges t ps) (out : .handed ∈ ps) : s.onlyChanges t ps :=
  ((s.setHanded_onlyChanges x).mono (by simpa using out)).trans h

/-- An event for a fitted engine acts on it. -/
theorem State.ifFitted_next {act : State → State} (awake : s.awake = true) (fitted : s.fitted k = true) :
    (Host.Outcome.next (s.running fun t => t.ifFitted k act) : Host.Outcome State Fault Refusal) = .next (act s) :=
  (State.running_next _ awake).trans (congrArg Host.Outcome.next (if_pos fitted))

end

end Sys2Proof.Machine

namespace Sys2Proof.Machine

/-! ## Pairs, outputs and the setpoint -/

/-- Settles O31. -/
theorem pairsTakenTogether : Obligations.PairsTakenTogether := by
  intro s pre post pairs awake handed oldest
  have eng (k : Engine) : ((s.setHanded (pre ++ post)).takePairs pairs).eng k = { s.eng k with
      pair := if s.fitted k then (pairs.get k).getD (s.eng k).pair else (s.eng k).pair } :=
    State.takePairs_eng (s.setHanded (pre ++ post)) pairs k
  refine ⟨_, exec_pairHanded awake handed oldest, fun k p named fitted => ?_, fun k out => ?_,
    fun k p named fitted online stop => ?_, by simp [State.takePairs], ?_⟩
  · simp [eng, named, fitted]
  · obtain out | out := out
    · simp [eng, out]
    · simp [eng, out]
  · have fitted' : ((s.setHanded (pre ++ post)).takePairs pairs).fitted k = true := by
      rw [State.fitted_congr (s := s) (by simp)]
      exact fitted
    have on : s.resetting = none := by simpa [State.awake] using awake
    have kw : ((s.setHanded (pre ++ post)).takePairs pairs).enKw = s.enKw :=
      State.enKw_congr (by simp)
    simp [State.loadLimit, fitted', on, eng, named, fitted, State.loadLimitOf, online, kw, EngineRec.pairInUse,
      EngineRec.inO, stop]
  · have engines (k : Engine) : Part.engine k ∈ [Part.engine .e1, .engine .e2, .engine .e3, .engine .e4, .handed] := by
      cases k <;> simp
    rw [State.onlyChanges_iff]
    refine ⟨?_, ?_, ?_, ?_, ?_, fun k h => absurd (engines k) h, ?_⟩ <;>
      simp [Part.same, State.sense, State.dutyOf]

/-- Settles O32. -/
theorem outputsFollowState : Obligations.OutputsFollowState := by
  refine ⟨fun s k awake fitted => ?_, fun s k awake fitted => ?_⟩
  · have on : s.resetting.isNone = true := awake
    refine ⟨?_, ?_, ?_, fun invalid => ?_, fun valid out => ?_, fun valid online => ?_⟩
    · simp [State.crankRelay, on, fitted]
    · simp only [State.fuel, on, fitted, Bool.true_and, Bool.and_eq_true]
      cases (s.eng k).state <;> simp
    · simp only [State.prelubePump, on, fitted, Bool.true_and]
      cases (s.eng k).state <;> simp
    · simp [State.setpointOut, State.setpointOf, invalid]
    · simp [State.setpointOut, on, fitted, State.setpointOf, valid, out]
    · simp [State.setpointOut, on, fitted, State.setpointOf, valid, online]
  · have on : s.resetting.isNone = true := awake
    have limit : s.loadLimit k = s.loadLimitOf (s.eng k) := by simp [State.loadLimit, on, fitted]
    refine ⟨fun online => ?_, fun out => ?_, ?_, fun stop => ?_⟩
    · simp [limit, State.loadLimitOf, online]
    · simp [limit, State.loadLimitOf, out]
    · rw [limit]
      unfold State.loadLimitOf
      split
      · exact Nat.min_le_left _ _
      · exact Nat.zero_le _
    · simp [limit, State.loadLimitOf, EngineRec.pairInUse, EngineRec.inO, stop]

/-! ## The setpoint update (R95, R96, R103) -/

theorem State.setEng_onlyChanges (s : State) (k : Engine) (r : EngineRec) : s.onlyChanges (s.setEng k r) [.engine k] := by
  have record (j : Engine) : (s.setEng k r).eng j = if j = k then r else s.eng j := s.eng_setEng k j r
  simp +contextual [State.onlyChanges_iff, Part.same, State.sense, State.dutyOf, record]

theorem State.modEng_onlyChanges (s : State) (k : Engine) (f : EngineRec → EngineRec) :
    s.onlyChanges (s.modEng k f) [.engine k] := s.setEng_onlyChanges k _

/-- No step is due of a record at its target, or before its time. -/
theorem State.stepDue_none {s : State} {r : EngineRec} (h : r.notch = r.pairInUse.target ∨
    (r.notch < r.pairInUse.target ∧ r.settledTime.getD 0 < 2 * s.cfg.timing.tUp) ∨
    (r.pairInUse.target < r.notch ∧ r.settledTime.getD 0 < 2 * s.cfg.timing.tDown)) : s.stepDue r = none := by
  unfold State.stepDue
  simp only []
  obtain h | ⟨below, early⟩ | ⟨above, early⟩ := h
  · simp [h]
  · simp [below, Nat.not_le.mpr early]
  · simp [above, Nat.not_lt.mpr above.le, Nat.not_le.mpr early]

theorem State.stepDue_up {s : State} {r : EngineRec} (online : r.state = .online) (settled : r.settled = true)
    (below : r.notch < r.pairInUse.target) (due : 2 * s.cfg.timing.tUp ≤ r.settledTime.getD 0) :
    s.stepDue r = some (r.notch + 1) := by
  simp [State.stepDue, online, settled, below, due]

theorem State.stepDue_down {s : State} {r : EngineRec} (online : r.state = .online) (settled : r.settled = true)
    (above : r.pairInUse.target < r.notch) (due : 2 * s.cfg.timing.tDown ≤ r.settledTime.getD 0) :
    s.stepDue r = some (r.notch - 1) := by
  simp [State.stepDue, online, settled, above, Nat.not_lt.mpr above.le, due]

/-- The value to which the ramp moves an unsettled setpoint is the one R95 names. -/
theorem State.rampsTo_unique {s : State} {k : Engine} {v w : Nat} (hv : s.rampsTo k v) (hw : s.rampsTo k w) : v = w := by
  obtain below | above := Nat.lt_or_ge (s.eng k).setpoint (s.enRpm (s.eng k).notch)
  · rw [hv.1 below, hw.1 below]
  · rw [hv.2 above, hw.2 above]

theorem State.ramped_settled {s : State} {k : Engine} {m : Nat} (settled : (s.eng k).settled = true)
    (time : (s.eng k).settledTime = some m) :
    s.ramped (s.eng k) = { s.eng k with settledTime := some (min (m + 1) 600) } := by
  simp [State.ramped, settled, time]

theorem State.ramped_moving {s : State} {k : Engine} {v : Nat} (moving : (s.eng k).settled = false)
    (ramps : s.rampsTo k v) : s.ramped (s.eng k) =
      if v = s.enRpm (s.eng k).notch then { s.eng k with setpoint := v, settled := true, settledTime := some 0 }
      else { s.eng k with setpoint := v } := by
  obtain ⟨settled, -⟩ | ⟨-, w, hw, eq⟩ := s.ramped_cases k
  · rw [moving] at settled
    cases settled
  · rw [eq, State.rampsTo_unique ramps hw]

/-- A setpoint update that does not complete a step-down leaves the ramped and compared record, and nothing else. -/
theorem State.setpointUpdate_next {s : State} {k : Engine} (awake : s.awake = true) (fitted : s.fitted k = true)
    (online : (s.eng k).state = .online)
    (going : ¬ ((s.eng k).stopPending = true ∧ (s.ramped (s.eng k)).settled = true ∧ (s.eng k).notch = 0)) :
    ∃ t, exec (.setpointUpdate k) s = .next t ∧ t.eng k = s.compared (s.ramped (s.eng k)) ∧
      s.onlyChanges t [.engine k] := by
  have update : s.setpointUpdate k = s.setEng k (s.compared (s.ramped (s.eng k))) := by
    obtain ⟨out, -⟩ | ⟨-, stop, settled, notch, -⟩ | ⟨-, -, eq⟩ := s.setpointUpdate_cases k
    · exact absurd online out
    · exact absurd ⟨stop, settled, notch⟩ going
    · exact eq
  refine ⟨_, State.ifFitted_next awake fitted, ?_⟩
  rw [update]
  exact ⟨s.eng_setEng_self k _, s.setEng_onlyChanges k _⟩

theorem State.compared_stay {s : State} {r : EngineRec} (h : s.stepDue r = none) : s.compared r = r := by
  simp [State.compared, h]

theorem State.compared_step {s : State} {r : EngineRec} {n : Nat} (h : s.stepDue r = some n) :
    s.compared r = r.stepTo n s.cfg.thresholds.cooldownNotch := by simp [State.compared, h]

/-- The record a comparison leaves, by the settled time at which the ramp has left it. -/
theorem State.compared_ramped {s : State} {k : Engine} {m : Nat} (online : (s.eng k).state = .online)
    (settled : (s.ramped (s.eng k)).settled = true) (time : (s.ramped (s.eng k)).settledTime = some m) :
    ((s.eng k).notch < (s.eng k).pairInUse.target → 2 * s.cfg.timing.tUp ≤ m →
      s.stepDue (s.ramped (s.eng k)) = some ((s.eng k).notch + 1)) ∧
    ((s.eng k).pairInUse.target < (s.eng k).notch → 2 * s.cfg.timing.tDown ≤ m →
      s.stepDue (s.ramped (s.eng k)) = some ((s.eng k).notch - 1)) ∧
    ((s.eng k).notch = (s.eng k).pairInUse.target ∨
        ((s.eng k).notch < (s.eng k).pairInUse.target ∧ m < 2 * s.cfg.timing.tUp) ∨
        ((s.eng k).pairInUse.target < (s.eng k).notch ∧ m < 2 * s.cfg.timing.tDown) →
      s.stepDue (s.ramped (s.eng k)) = none) := by
  obtain ⟨state, -, notch, pair⟩ := s.ramped_keeps (s.eng k)
  rw [← state] at online
  rw [← notch, ← pair]
  have value : (s.ramped (s.eng k)).settledTime.getD 0 = m := by simp [time]
  refine ⟨fun below due => State.stepDue_up online settled below (by rw [value]; exact due),
    fun above due => State.stepDue_down online settled above (by rw [value]; exact due), fun none => State.stepDue_none ?_⟩
  rw [value]
  exact none

theorem State.ramped_running (s : State) (r : EngineRec) :
    (s.ramped r).highLoad = r.highLoad ∧ (s.ramped r).stopReason = r.stopReason := by
  unfold State.ramped
  simp only []
  repeat' split
  all_goals exact ⟨rfl, rfl⟩

/-- A stop-pending engine settled at notch 0 leaves ONLINE, and the crank supply stays (R103). -/
theorem State.stepDown_ends {s : State} {k : Engine} (awake : s.awake = true) (fitted : s.fitted k = true)
    (online : (s.eng k).state = .online) (stop : (s.eng k).stopPending = true) (notch : (s.eng k).notch = 0)
    (settled : (s.ramped (s.eng k)).settled = true) :
    ((s.eng k).highLoad = true → 0 < s.cfg.timing.cooldown → ∃ t, exec (.setpointUpdate k) s = .next t ∧
      (t.eng k).state = .cooldown ∧ (t.eng k).stopReason = (s.eng k).stopReason ∧ (t.eng k).stopPending = false ∧
      (t.eng k).cooldownTimer = some 0 ∧ t.cli.notices.changed.get k = true ∧ s.supplyKept t ∧
      s.onlyChanges t [.engine k, .car, .notices, .handed]) ∧
    ((s.eng k).highLoad = false ∨ s.cfg.timing.cooldown = 0 → ∃ t, exec (.setpointUpdate k) s = .next t ∧
      (t.eng k).state = .stopping ∧ (t.eng k).stopReason = none ∧ (t.eng k).stopTimer = some 0 ∧
      (t.eng k).highLoad = false ∧ t.cli.notices.changed.get k = true ∧ t.stands .warmup k = false ∧ s.supplyKept t ∧
      s.onlyChanges t (engineParts k)) := by
  obtain ⟨state, pending, notch', -⟩ := s.ramped_keeps (s.eng k)
  obtain ⟨highLoad, reason⟩ := s.ramped_running (s.eng k)
  let u := s.setEng k (s.ramped (s.eng k))
  have record : u.eng k = s.ramped (s.eng k) := s.eng_setEng_self k _
  have state' : (u.eng k).state = .online := by rw [record, state, online]
  have first : s.onlyChanges u [.engine k] := s.setEng_onlyChanges k _
  have update : exec (.setpointUpdate k) s = .next (u.stepDownComplete k) := by
    refine (State.ifFitted_next awake fitted).trans (congrArg Host.Outcome.next ?_)
    simp only [State.setpointUpdate, if_pos online, pending, notch', stop, notch, settled, and_self, if_true]
    rfl
  refine ⟨fun high time => ⟨_, update, ?_⟩, fun low => ⟨_, update, ?_⟩⟩
  · have enters : u.stepDownComplete k = u.enter k .cooldown [] fun r =>
        { r.noTimers with
          stopPending := false, notch := 0, settled := true, settledTime := none, cooldownTimer := some 0 } := by
      rw [State.stepDownComplete, if_pos ⟨by rw [record, highLoad, high], time⟩]
    rw [enters, State.enter_eng, if_pos rfl, record]
    refine ⟨rfl, reason, rfl, rfl, u.enter_changed .., u.enter_supplyKept k _ _ (by simp) (.inl (by simp [state']))
      (by simp [state']), (first.mono (by simp)).trans (u.enter_onlyChanges_of_stays k _ _ _ rfl)⟩
  · have enters : u.stepDownComplete k = u.enterStopping k [] := by
      refine if_neg fun ⟨high, time⟩ => ?_
      rw [record, highLoad] at high
      obtain low | low := low
      · rw [low] at high
        cases high
      · exact absurd low (Nat.pos_iff_ne_zero.mp time)
    rw [enters, State.enterStopping_eng, if_pos rfl]
    exact ⟨rfl, rfl, rfl, rfl, u.enter_changed .., u.enter_warmup _ _ _ _ rfl,
      u.enter_supplyKept k _ _ (by simp) (.inl (by simp [state'])) (by simp [state']),
      (first.mono (by simp [engineParts])).trans (u.enter_onlyChanges _ _ _ _)⟩

/-- Settles O33. -/
theorem setpointUpdateRampsAndSettles : Obligations.SetpointUpdateRampsAndSettles := by
  intro s k awake fitted online
  refine ⟨fun m settled time stays => ?settled, fun v moving ramps short => ?moving, fun moving ramps stays => ?settles,
    fun stop notch settles => ?stepDown⟩
  case settled =>
    have ramped := State.ramped_settled settled time
    obtain ⟨up, down, none⟩ := State.compared_ramped online (m := min (m + 1) 600) (by rw [ramped]; exact settled)
      (by rw [ramped])
    obtain ⟨t, next, record, frame⟩ := State.setpointUpdate_next awake fitted online
      (fun h => by obtain stays | stays := stays <;> simp_all)
    refine ⟨t, next, frame, fun below due => ?_, fun above due => ?_, fun stay => ?_⟩
    · rw [record, State.compared_step (up below due), ramped]
      rfl
    · rw [record, State.compared_step (down above due), ramped]
      rfl
    · rw [record, State.compared_stay (none stay), ramped]
  case moving =>
    have ramped := State.ramped_moving moving ramps
    rw [if_neg short] at ramped
    have unsettled : (s.ramped (s.eng k)).settled = false := by rw [ramped]; exact moving
    obtain ⟨t, next, record, frame⟩ := State.setpointUpdate_next awake fitted online
      (fun h => by simp [unsettled] at h)
    refine ⟨t, next, ?_, frame⟩
    rw [record, State.compared_stay (by simp [State.stepDue, unsettled]), ramped]
  case settles =>
    have ramped := State.ramped_moving moving ramps
    rw [if_pos rfl] at ramped
    obtain ⟨up, down, none⟩ := State.compared_ramped online (m := 0) (by rw [ramped]) (by rw [ramped])
    obtain ⟨t, next, record, frame⟩ := State.setpointUpdate_next awake fitted online
      (fun h => by obtain stays | stays := stays <;> simp_all)
    refine ⟨t, next, frame, fun below due => ?_, fun above due => ?_, fun stay => ?_⟩
    · rw [record, State.compared_step (up below (by simp [due])), ramped]
      rfl
    · rw [record, State.compared_step (down above (by simp [due])), ramped]
      rfl
    · rw [record, State.compared_stay (none (by simpa using stay)), ramped]
  case stepDown =>
    have settled : (s.ramped (s.eng k)).settled = true := by
      cases already : (s.eng k).settled with
      | true => simp [State.ramped, already]
      | false =>
        have ramps : s.rampsTo k (s.enRpm (s.eng k).notch) := by simpa [already, notch] using settles
        simp [State.ramped_moving already ramps]
    exact State.stepDown_ends awake fitted online stop notch settled

/-- Settles O34. -/
theorem notchStepsOneTowardTarget : Obligations.NotchStepsOneTowardTarget := by
  intro s k m awake fitted online settled time
  have ramped := State.ramped_settled settled time
  obtain ⟨up, down, none⟩ := State.compared_ramped online (m := min (m + 1) 600) (by rw [ramped]; exact settled)
    (by rw [ramped])
  have runs : exec (.notchStep k) s = .next (s.notchStep k) := State.ifFitted_next awake fitted
  have steps {n : Nat} (due : s.stepDue (s.ramped (s.eng k)) = some n) :
      ∃ t, exec (.notchStep k) s = .next t ∧ exec (.setpointUpdate k) s = .next t ∧
        t.eng k = s.notchMoved k n (s.eng k).setpoint ∧ s.onlyChanges t [.engine k] := by
    have update : s.notchStep k = s.setpointUpdate k := by simp [State.notchStep, due]
    have record : s.notchStep k = s.setEng k (s.compared (s.ramped (s.eng k))) := by simp [State.notchStep_eq, due]
    refine ⟨_, runs, by rw [update]; exact State.ifFitted_next awake fitted, ?_, ?_⟩
    · rw [record, State.eng_setEng_self, State.compared_step due, ramped]
      rfl
    · rw [record]
      exact s.setEng_onlyChanges k _
  refine ⟨fun below due => steps (up below due), fun above due => steps (down above due), fun stay => ?_⟩
  rw [runs, State.notchStep, none stay]
  rfl

end Sys2Proof.Machine

namespace Sys2Proof.Machine

/-! ## What the crank supply reads of the state before -/

theorem State.lineFollows_source {s u t : State} {released : Bool} (car : u.car = s.car) (cfg : u.cfg = s.cfg)
    (h : u.lineFollows t released) : s.lineFollows t released := by
  unfold State.lineFollows at h ⊢
  rw [car, cfg] at h
  exact h

theorem State.supplyKept_source {s u t : State} (car : u.car = s.car) (cfg : u.cfg = s.cfg) (h : u.supplyKept t) :
    s.supplyKept t := by
  obtain ⟨queue, holder, phase, gap, line⟩ := h
  rw [car] at queue holder phase gap
  exact ⟨queue, holder, phase, gap, State.lineFollows_source car cfg line⟩

theorem State.supplyFreed_source {s u t : State} (car : u.car = s.car) (cfg : u.cfg = s.cfg) (h : u.supplyFreed t) :
    s.supplyFreed t := by
  obtain ⟨idle, gap, line, none, first⟩ := h
  rw [car, cfg] at none first
  exact ⟨idle, gap, State.lineFollows_source car cfg line, none, first⟩

theorem State.supplyLeft_source {s u t : State} {k : Engine} (car : u.car = s.car) (cfg : u.cfg = s.cfg)
    (state : (u.eng k).state = (s.eng k).state) (h : u.supplyLeft t k) : s.supplyLeft t k := by
  obtain ⟨waits, cranks, other⟩ := h
  rw [state, car] at waits cranks
  rw [state] at other
  rw [cfg] at cranks
  refine ⟨fun h => ?_, fun h holder => ?_, fun h h' => State.supplyKept_source car cfg (other h h')⟩
  · obtain ⟨queue, out, holder, phase, gap, line⟩ := waits h
    exact ⟨queue, out, holder, phase, gap, State.lineFollows_source car cfg line⟩
  · obtain ⟨recovery, gap, noGap⟩ := cranks h holder
    refine ⟨recovery, fun pos => ?_, fun zero => State.supplyFreed_source car cfg (noGap zero)⟩
    obtain ⟨queue, holder, phase, timer, line⟩ := gap pos
    exact ⟨queue, holder, phase, timer, State.lineFollows_source car cfg line⟩

theorem State.supplyJoined_source {s u t : State} {k : Engine} (car : u.car = s.car) (cfg : u.cfg = s.cfg)
    (inhibit : u.limits.inhibit = s.limits.inhibit) (h : u.supplyJoined t k) : s.supplyJoined t k := by
  obtain ⟨joins, stays⟩ := h
  rw [car, cfg, inhibit] at joins
  rw [car] at stays
  refine ⟨fun out free => ?_, fun there busy => State.supplyKept_source car cfg (stays there busy)⟩
  obtain ⟨gap, line, none, first⟩ := joins out free
  exact ⟨gap, State.lineFollows_source car cfg line, none, first⟩

/-! ## Trips, stops and failed attempts -/

theorem State.trip_tripsTo (s : State) (k : Engine) (cause : TripCause) (also : List CountedEvent) :
    s.tripsTo (s.trip k cause also) k (s.eng k) cause (also ++ [.trip cause]) :=
  ⟨by rw [State.trip_eng, if_pos rfl], s.enter_changed .., s.enter_counted _ _ _ _ (by simp), s.enter_warmup _ _ _ _ rfl,
    s.enter_supplyLeft k _ _ (by simp) (by simp), s.enter_handsOn _ _ _ _, s.enter_onlyChanges _ _ _ _⟩

theorem State.enterStopping_stopsTo (s : State) (k : Engine) (counted : List CountedEvent) :
    s.stopsTo (s.enterStopping k counted) k :=
  ⟨by rw [State.enterStopping_eng, if_pos rfl], s.enter_changed .., s.enter_warmup _ _ _ _ rfl,
    s.enter_supplyLeft k _ _ (by simp) (by simp), s.enter_handsOn _ _ _ _, s.enter_onlyChanges _ _ _ _⟩

/-- A trip after a change that only the engine's record shows is a trip with the record so changed. -/
theorem State.tripsTo_source {s u t : State} {k : Engine} {before : EngineRec} {cause : TripCause}
    {counted : List CountedEvent} (h : u.tripsTo t k before cause counted) (frame : s.onlyChanges u [.engine k])
    (state : (u.eng k).state = (s.eng k).state) : s.tripsTo t k before cause counted := by
  obtain ⟨record, changed, events, warmup, left, handsOn, rest⟩ := h
  have car : u.car = s.car := frame .car (by simp)
  have cfs : u.cfs = s.cfs := frame .cfs (by simp)
  have limits : u.limits = s.limits := frame .limits (by simp)
  rw [limits, State.limitsHanded_congr (State.fitted_congr cfs)] at handsOn
  exact ⟨record, changed, events, warmup, State.supplyLeft_source car (State.cfg_congr cfs) state left, handsOn,
    (frame.mono (by simp [engineParts])).trans rest⟩

/-- A release of an unused grant frees the supply with no gap (R123). -/
theorem State.releaseUnused_supplyFreed {s : State} {k : Engine} (holder : s.car.holder = some k) :
    s.supplyFreed (s.releaseUnused k) := by
  let m := ((s.setCar { s.car with holder := none, gapTimer := none }).setPhase .idle none).giveUpIfWithdrawn
  have releases : s.releaseUnused k = m.formWish.decideGrant := if_pos holder
  rw [releases]
  obtain ⟨queue, free, phase, gap⟩ :=
    ((s.setCar { s.car with holder := none, gapTimer := none }).setPhase .idle none).giveUpIfWithdrawn_car
  refine State.supplyFreed_of ⟨State.cfg_congr (by simp [m]), fun ⟨_, line⟩ => ?_, fun h => ?_⟩ queue free phase gap ?_
  · simp [m, State.giveUpIfWithdrawn, State.setPhase, line, State.deassert]
  · have line : s.car.line ≠ .withdrawn := by simpa using h
    simp [m, State.giveUpIfWithdrawn, State.setPhase, line]
  · simp [m, State.setPhase]

theorem State.releaseUnused_onlyChanges (s : State) (k : Engine) :
    s.onlyChanges (s.releaseUnused k) [.car, .handed] := by
  simp [State.onlyChanges_iff, Part.same, State.eng, State.sense, State.dutyOf]

/-- With attempts left a failed one rests the engine (R81). -/
theorem State.failAttempt_rests {s : State} {k : Engine} (cause : AttemptCause) (left : 2 ≤ (s.eng k).attempts) :
    ((s.failAttempt k cause).eng k).state = .crankRest ∧
      ((s.failAttempt k cause).eng k).attempts = (s.eng k).attempts - 1 ∧
      ((s.failAttempt k cause).eng k).lastAttempt = some cause ∧
      ((s.failAttempt k cause).eng k).restTimer = some 0 ∧ ((s.failAttempt k cause).eng k).crankTimer = none ∧
      ((s.failAttempt k cause).eng k).startReason = (s.eng k).startReason ∧
      .counted k [.failed] ∈ (s.failAttempt k cause).handed ∧
      (s.failAttempt k cause).cli.notices.changed.get k = true ∧ s.supplyLeft (s.failAttempt k cause) k ∧
      s.onlyChanges (s.failAttempt k cause) [.engine k, .car, .notices, .handed] := by
  let u := s.modEng k fun r => { r with attempts := (s.eng k).attempts - 1, lastAttempt := some cause }
  have record : u.eng k = { s.eng k with attempts := (s.eng k).attempts - 1, lastAttempt := some cause } :=
    s.eng_setEng_self k _
  have enters : s.failAttempt k cause =
      u.enter k .crankRest [.failed] fun r => { r.noTimers with held := false, restTimer := some 0 } :=
    if_neg (by omega)
  rw [enters, State.enter_eng, if_pos rfl, record]
  exact ⟨rfl, rfl, rfl, rfl, rfl, rfl, u.enter_counted _ _ _ _ (by simp), u.enter_changed ..,
    State.supplyLeft_source (u := u) rfl rfl (by rw [record]) (u.enter_supplyLeft k _ _ (by simp) (by simp)),
    ((s.modEng_onlyChanges k _).mono (by simp)).trans (u.enter_onlyChanges_of_stays k _ _ _ rfl)⟩

/-- The last attempt failed trips NO_START in the same state change (R85, R86). -/
theorem State.failAttempt_trips {s : State} {k : Engine} (cause : AttemptCause) (last : (s.eng k).attempts = 1) :
    s.tripsTo (s.failAttempt k cause) k { s.eng k with attempts := 0, lastAttempt := some cause } .noStart
      [.failed, .trip .noStart] := by
  let u := s.modEng k fun r => { r with attempts := (s.eng k).attempts - 1, lastAttempt := some cause }
  have record : u.eng k = { s.eng k with attempts := 0, lastAttempt := some cause } := by
    refine (s.eng_setEng_self k _).trans ?_
    rw [last]
  have trips : s.failAttempt k cause = u.trip k .noStart [.failed] := if_pos (by omega)
  have done := u.trip_tripsTo k .noStart [.failed]
  rw [record] at done
  rw [trips]
  exact State.tripsTo_source done (s.modEng_onlyChanges k _) (by rw [record])

/-- The release of a grant out of CRANKING leaves the gap to follow. -/
theorem State.supplyLeft.gap {s t : State} {k : Engine} (h : s.supplyLeft t k) (cranks : (s.eng k).state = .cranking)
    (holder : s.car.holder = some k) (pos : 0 < s.cfg.arbiter.crankGap) :
    t.car.holder = none ∧ t.car.phase = .recovery ∧ t.car.gapTimer = some 0 := by
  obtain ⟨-, gap, -⟩ := h.2.1 cranks holder
  obtain ⟨-, free, phase, timer, -⟩ := gap pos
  exact ⟨free, phase, timer⟩

/-- Settles O36. -/
theorem failedCrankRestsOrTrips : Obligations.FailedCrankRestsOrTrips := by
  intro s k cmd cause awake fitted cranks holder row
  obtain ⟨x, next⟩ : ∃ x : List Event, exec cmd s = .next ((s.setHanded x).failAttempt k cause) := by
    obtain ⟨n, rfl, rfl, timer, done⟩ | ⟨pre, post, rfl, rfl, handed, oldest⟩ := row
    · refine ⟨s.handed, (State.ifFitted_next awake fitted).trans (congrArg Host.Outcome.next ?_)⟩
      exact if_pos ⟨cranks, by simp [timer, timerDone, done]⟩
    · refine ⟨pre ++ post, (exec_sagReport awake fitted handed oldest).trans (congrArg Host.Outcome.next ?_)⟩
      exact if_pos ⟨cranks, holder⟩
  refine ⟨fun left => ⟨_, next, ?_⟩, fun last => ⟨_, next, ?_⟩⟩
  · obtain ⟨state, attempts, lastAttempt, rest, crank, reason, counted, changed, supply, frame⟩ :=
      State.failAttempt_rests (s := s.setHanded x) cause left
    exact ⟨state, attempts, lastAttempt, rest, crank, reason, counted, changed, supply.gap cranks holder, supply,
      State.onlyChanges_after frame (by simp)⟩
  · obtain ⟨record, changed, counted, warmup, supply, handsOn, frame⟩ :=
      State.failAttempt_trips (s := s.setHanded x) cause last
    exact ⟨⟨record, changed, counted, warmup, supply, handsOn, State.onlyChanges_after frame (by simp [engineParts])⟩,
      supply.gap cranks holder⟩

/-! ## The ends of the timers -/

theorem State.join_waits (s : State) (k : Engine) : k ∈ (s.join k).car.queue ∨ (s.join k).car.holder = some k := by
  unfold State.join
  split
  next there => simpa using there
  next => exact .inl (by simp)

/-- An engine that waits and one that holds the supply go on so at a grant decision. -/
theorem State.decideGrant_waits {s : State} {k : Engine} (safe : s.car.holder = some k → s.car.phase ≠ .idle)
    (h : k ∈ s.car.queue ∨ s.car.holder = some k) :
    k ∈ s.decideGrant.car.queue ∨ s.decideGrant.car.holder = some k := by
  obtain ⟨idle, -⟩ | ⟨j, idle, -, -, car, -⟩ := s.decideGrant_cases
  · rw [idle]
    exact h
  · rw [car]
    obtain queued | holder := h
    · by_cases hk : k = j
      · exact .inr (by rw [hk])
      · exact .inl ((List.mem_erase_of_ne hk).mpr queued)
    · exact absurd idle (safe holder)

/-- An entry into CRANK_WAIT out of a state that keeps no grant: the engine is queued or granted (R77, R120, R121). -/
theorem State.enterCrankWait_joins {s : State} {k : Engine} (waits : (s.eng k).state ≠ .crankWait)
    (cranks : (s.eng k).state ≠ .cranking) :
    (s.enterCrankWait k).eng k = { (s.eng k).noTimers with state := .crankWait, held := false } ∧
      (s.crankSafe → k ∈ (s.enterCrankWait k).car.queue ∨ (s.enterCrankWait k).car.holder = some k) ∧
      s.supplyJoined (s.enterCrankWait k) k ∧ (s.enterCrankWait k).cli.notices.changed.get k = true ∧
      s.onlyChanges (s.enterCrankWait k) [.engine k, .car, .notices, .handed] := by
  refine ⟨?_, fun safe => ?_, s.enter_supplyJoined k _ _ waits cranks, s.enter_changed .., s.enter_onlyChanges_of_stays k _ _ _ rfl⟩
  · unfold State.enterCrankWait
    rw [State.enter_eng, if_pos rfl]
  · let u := s.entered k .crankWait [] fun r => { r.noTimers with held := false }
    have moved : u.supplyMoved k (s.eng k).state .crankWait = u.join k := by simp [State.supplyMoved, waits, cranks]
    have enters : s.enterCrankWait k = (u.join k).formWish.decideGrant := by
      rw [← moved]
      exact (u.arbiterOnChange_eq k _ _).trans (if_pos (Or.inl rfl))
    obtain ⟨queue, holder, phase, -⟩ := (u.join k).formWish_car
    have car : u.car = s.car := (s.entered_keeps k _ _ _).1
    have joined : (u.join k).car.holder = s.car.holder ∧ (u.join k).car.phase = s.car.phase := by
      rw [← car]
      unfold State.join
      split <;> exact ⟨rfl, rfl⟩
    rw [enters]
    refine State.decideGrant_waits (fun held idle => ?_) (by rw [queue, holder]; exact u.join_waits k)
    rw [holder, joined.1] at held
    rw [phase, joined.2] at idle
    have granted := safe.2.mp (by rw [held]; rfl)
    rw [granted] at idle
    cases idle

/-- Settles O35. -/
theorem timerEndsTripRestAndStop : Obligations.TimerEndsTripRestAndStop := by
  refine ⟨fun s k n awake fitted => ⟨fun state timer done => ?_, fun state timer done => ?_, fun state timer done => ?_⟩,
    fun s k n awake fitted => ⟨fun state timer done => ?_, fun state timer done => ?_⟩⟩
  · refine ⟨_, (State.ifFitted_next awake fitted).trans (congrArg Host.Outcome.next (if_pos ⟨state, ?_⟩)),
      s.trip_tripsTo k .noPrelube []⟩
    simp [timer, timerDone, done]
  · refine ⟨_, (State.ifFitted_next awake fitted).trans (congrArg Host.Outcome.next (if_pos ⟨state, ?_⟩)),
      s.trip_tripsTo k .runupFail []⟩
    simp [timer, timerDone, done]
  · refine ⟨_, (State.ifFitted_next awake fitted).trans (congrArg Host.Outcome.next (if_pos ⟨state, ?_⟩)),
      s.trip_tripsTo k .stopFail []⟩
    simp [timer, timerDone, done]
  · have joins := State.enterCrankWait_joins (s := s) (k := k) (by simp [state]) (by simp [state])
    obtain ⟨record, queued, joined, changed, frame⟩ := joins
    have next : exec (.restEnd k) s = .next (s.enterCrankWait k) := (State.ifFitted_next awake fitted).trans
      (congrArg Host.Outcome.next (if_pos ⟨state, by simp [timer, timerDone, done]⟩))
    refine ⟨_, next, ?_⟩
    rw [record]
    exact ⟨rfl, rfl, rfl, rfl, queued, joined, changed, frame⟩
  · refine ⟨_, (State.ifFitted_next awake fitted).trans (congrArg Host.Outcome.next (if_pos ⟨state, ?_⟩)),
      s.enterStopping_stopsTo k []⟩
    simp [timer, timerDone, done]

/-! ## The arbiter's grant and timers -/

/-- Settles O41. -/
theorem grantTakenCranksOrReleases : Obligations.GrantTakenCranksOrReleases := by
  intro s k pre post awake fitted handed oldest holder
  have next := exec_crankGrantTaken awake handed oldest
  let u := s.setHanded (pre ++ post)
  refine ⟨fun waits => ⟨_, next, ?_⟩, fun waits cranks => ⟨_, next, ?_⟩⟩
  · have enters : u.takeGrant k = u.enter k .cranking [] fun r => { r.noTimers with crankTimer := some 0 } := by
      have fitted' : u.fitted k = true := fitted
      have waits' : (u.eng k).state = .crankWait := waits
      have holder' : u.car.holder = some k := holder
      simp [State.takeGrant, fitted', waits', holder']
    have kept := u.enter_supplyKept k (new := .cranking) [] (fun r => { r.noTimers with crankTimer := some 0 }) (by simp)
      (.inr rfl) (by rw [show (u.eng k).state = .crankWait from waits]; simp)
    have record := u.enter_eng k k .cranking [] fun r => { r.noTimers with crankTimer := some 0 }
    rw [if_pos rfl] at record
    rw [enters]
    refine ⟨by rw [record], by rw [record], by rw [record]; rfl, by rw [record]; rfl, kept.2.1.trans holder, kept.2.2.1,
      kept, ?_, u.enter_changed .., State.onlyChanges_after (u.enter_onlyChanges_of_stays k _ _ _ rfl) (by simp)⟩
    have on : u.resetting.isNone = true := awake
    have fit : (u.enter k .cranking [] fun r => { r.noTimers with crankTimer := some 0 }).fitted k = true := by
      rw [u.enter_fitted]
      exact fitted
    simp [State.crankRelay, fit, record, on]
  · have releases : u.takeGrant k = u.releaseUnused k := by
      have waits' : (u.eng k).state ≠ .crankWait := waits
      have cranks' : (u.eng k).state ≠ .cranking := cranks
      have holder' : u.car.holder = some k := holder
      simp [State.takeGrant, waits', cranks', holder']
    rw [releases]
    refine ⟨State.releaseUnused_supplyFreed (s := u) holder, ?_⟩
    exact State.onlyChanges_after (u.releaseUnused_onlyChanges k) (by simp)

/-- Settles O42. -/
theorem arbiterTimersEnd : Obligations.ArbiterTimersEnd := by
  refine ⟨fun s n awake phase timer done => ?gap, fun s n awake line timer done => ?rerequest⟩
  case gap =>
    let m := (s.setCar { s.car with gapTimer := none }).setPhase .idle none
    have next : exec .gapEnd s = .next m.decideGrant := by
      refine (State.running_next _ awake).trans (congrArg Host.Outcome.next ?_)
      simp only [State.gapEnd, timer]
      exact if_pos ⟨phase, done⟩
    have frame : s.onlyChanges m.decideGrant [.car, .handed] := by
      simp [m, State.onlyChanges_iff, Part.same, State.eng, State.sense, State.dutyOf]
    refine ⟨fun none => ⟨_, next, ?_⟩, fun k first held => ⟨_, next, ?_⟩⟩
    · rw [State.decideGrant_none (s := m)
        (none.elim (fun all => .inr (.inr all)) fun out => .inr (.inl (State.not_supplyHeld_of out)))] at frame ⊢
      exact ⟨rfl, rfl, frame⟩
    · obtain ⟨car, handed⟩ := State.decideGrant_some (s := m) rfl (State.supplyHeld_of held) first
      refine ⟨car, ?_, frame⟩
      rw [handed]
      simp [m, State.setPhase]
  case rerequest =>
    have next : exec .rerequestTimerEnd s =
        .next (s.setCar { s.car with line := if s.wish then .asking else .quiet, rerequest := none }) := by
      refine (State.running_next _ awake).trans (congrArg Host.Outcome.next ?_)
      simp only [State.rerequestEnd, timer]
      exact if_pos ⟨line, done⟩
    have on : s.resetting = none := by simpa [State.awake] using awake
    have frame (x : Car) : s.onlyChanges (s.setCar x) [.car] := by
      simp [State.onlyChanges_iff, Part.same, State.eng, State.sense, State.dutyOf]
    refine ⟨fun wants => ⟨_, next, ?_⟩, fun wants => ⟨_, next, ?_⟩⟩
    · rw [s.wish_iff.mpr wants]
      exact ⟨rfl, by simp [State.apuReq, on, LineState.requests], frame _⟩
    · have quiet : s.wish = false := by simpa [← s.wish_iff] using wants
      rw [quiet]
      exact ⟨rfl, by simp [State.apuReq, LineState.requests], frame _⟩

end Sys2Proof.Machine

namespace Sys2Proof.Machine

/-! ## The entries of a table, slot by slot -/

theorem mem_liveEntries_iff {t : List Slot} {e : Entry} : e ∈ liveEntries t ↔ ∃ n, (slotAt t n).entry = some e := by
  constructor
  · intro h
    obtain ⟨x, hx, he⟩ := List.mem_filterMap.mp h
    obtain ⟨n, hn, rfl⟩ := List.mem_iff_getElem.mp hx
    exact ⟨n, by rw [slotAt, List.getD_eq_getElem _ _ hn, he]⟩
  · rintro ⟨n, he⟩
    have inside : n < t.length := live_in_table t n (by rw [Slot.live, he]; rfl)
    rw [slotAt, List.getD_eq_getElem _ _ inside] at he
    exact List.mem_filterMap.mpr ⟨_, List.getElem_mem inside, he⟩

/-! ## The limits after a post and a retirement -/

theorem State.tableGood.length {s : State} (good : s.tableGood) : s.table.length = Config.slots := good.1

theorem State.tableGood.resolved {s : State} (good : s.tableGood) : s.limits = resolve s.table :=
  ((s.tableGood_iff).mp good).2

theorem State.postInternal_limits {s : State} (c : Condition) (k : Engine) (resolved : s.limits = resolve s.table) :
    (s.postInternal c k).limits = resolve (s.postInternal c k).table := by
  unfold State.postInternal
  split
  · exact s.changeTable_limits _
  · exact resolved

theorem State.retireInternal_limits {s : State} (c : Condition) (k : Engine) (resolved : s.limits = resolve s.table) :
    (s.retireInternal c k).limits = resolve (s.retireInternal c k).table := by
  unfold State.retireInternal
  split
  · exact s.changeTable_limits _
  · exact resolved

theorem State.setSense_onlyChanges (s : State) (k : Engine) (x : Sensing) : s.onlyChanges (s.setSense k x) [.sense k] := by
  have sense (j : Engine) : (s.setSense k x).sense j = if j = k then x else s.sense j := s.sense_setSense k j x
  simp +contextual [State.onlyChanges_iff, Part.same, State.eng, State.dutyOf, sense]

theorem State.setBsm_onlyChanges (s : State) (b : Bsm) : s.onlyChanges (s.setBsm b) [.bsm] := by
  simp [State.onlyChanges_iff, Part.same, State.eng, State.sense, State.dutyOf]

theorem State.emit_onlyChanges (s : State) (e : Event) : s.onlyChanges (s.emit e) [.handed] := by
  simp [State.onlyChanges_iff, Part.same, State.eng, State.sense, State.dutyOf]

theorem State.onlyChanges.sense {s t : State} {ps : List Part} (h : s.onlyChanges t ps) (k : Engine)
    (out : .sense k ∉ ps) : t.sense k = s.sense k := h (.sense k) out

/-- A condition posted into its FREE slot: the entry there, every other slot kept, the limits those of the table. -/
theorem State.postInternal_posts {s : State} {c : Condition} {k : Engine} (good : s.tableGood)
    (fitted : s.fitted k = true) (free : s.stands c k = false) :
    slotAt (s.postInternal c k).table (internalSlot c k) =
        ⟨nextGen (slotAt s.table (internalSlot c k)).gen, some (s.internalEntry c k)⟩ ∧
      (∀ n, n ≠ internalSlot c k → slotAt (s.postInternal c k).table n = slotAt s.table n) ∧
      (s.postInternal c k).limits = resolve (s.postInternal c k).table := by
  have inside : internalSlot c k < s.table.length := good.length ▸ internalSlot_lt c k
  refine ⟨?_, fun n other => ?_, s.postInternal_limits c k good.resolved⟩
  · rw [State.postInternal_slot, if_pos ⟨rfl, inside, fitted, free⟩]
  · rw [State.postInternal_slot, if_neg fun h => other h.1]

/-- A condition retired: its slot FREE with the generation kept, every other slot kept, the limits those of the table. -/
theorem State.retireInternal_frees {s : State} (c : Condition) (k : Engine) (good : s.tableGood) :
    slotAt (s.retireInternal c k).table (internalSlot c k) = ⟨(slotAt s.table (internalSlot c k)).gen, none⟩ ∧
      (∀ n, n ≠ internalSlot c k → slotAt (s.retireInternal c k).table n = slotAt s.table n) ∧
      (s.retireInternal c k).limits = resolve (s.retireInternal c k).table := by
  refine ⟨?_, fun n other => ?_, s.retireInternal_limits c k good.resolved⟩
  · rw [State.retireInternal_slot, if_pos rfl]
  · rw [State.retireInternal_slot, if_neg other]

/-! ## Coolant (chapter 7) -/

theorem agree_eq (p : Prop) [Decidable p] (n : Nat) : agree (decide p) n = if p then min (n + 1) 3 else 0 := by
  simp [agree, Config.coolantCount]

theorem State.coolantSample_good {s : State} {k : Engine} {x : Int} (low : -40 ≤ x) (high : x ≤ 150) :
    ((s.coolantSample k x).sense k = (s.sense k).coolantGood s.cfg.thresholds (s.stands .warmup k) x) ∧
      (s.coolantSample k x).handed =
        s.handed ++ (if ((s.coolantSample k x).sense k).overCount = 3 then [.overheat k] else []) ∧
      s.onlyChanges (s.coolantSample k x) [.sense k, .handed] := by
  have range : coolantInRange x = true := by simp [coolantInRange, low, high]
  unfold State.coolantSample
  simp only [range, if_true]
  have frame := s.setSense_onlyChanges k ((s.sense k).coolantGood s.cfg.thresholds (s.stands .warmup k) x)
  split
  next stands =>
    have sense := State.onlyChanges.sense (State.emit_onlyChanges (s.setSense k ((s.sense k).coolantGood
      s.cfg.thresholds (s.stands .warmup k) x)) (.overheat k)) k (by simp)
    rw [sense, State.sense_setSense_self]
    refine ⟨rfl, ?_, (frame.mono (by simp)).trans ((State.emit_onlyChanges _ _).mono (by simp))⟩
    rw [if_pos stands]
    rfl
  next short =>
    rw [State.sense_setSense_self]
    refine ⟨rfl, ?_, frame.mono (by simp)⟩
    rw [if_neg short]
    simp

/-- What a faulted sample does to the table: HOT stands, WARMUP is FREE, and every other slot is kept. -/
theorem State.coolantSample_fault {s : State} {k : Engine} {x : Int} (out : x < -40 ∨ 150 < x) :
    s.coolantSample k x =
      ((s.setSense k ((s.sense k).coolantFault (s.stands .warmup k))).postInternal .hot k).retireInternal .warmup k := by
  have range : coolantInRange x = false := by
    simp only [coolantInRange, Bool.and_eq_false_iff, decide_eq_false_iff_not]
    omega
  simp [State.coolantSample, range]

/-- Settles O47. -/
theorem coolantSampleCountsOrFaults : Obligations.CoolantSampleCountsOrFaults := by
  intro s k x awake fitted good
  refine ⟨fun low high => ?_, fun out => ?_⟩
  · obtain ⟨sense, handed, frame⟩ := s.coolantSample_good (k := k) low high
    refine ⟨_, State.ifFitted_next awake fitted, ?_, handed, frame⟩
    rw [sense]
    cases live : s.stands .warmup k <;> simp [Sensing.coolantGood, agree_eq]
  · refine ⟨_, State.ifFitted_next awake fitted, ?_⟩
    rw [State.coolantSample_fault out]
    have sensed := s.setSense_onlyChanges k ((s.sense k).coolantFault (s.stands .warmup k))
    have self := s.sense_setSense_self k ((s.sense k).coolantFault (s.stands .warmup k))
    have handed : (s.setSense k ((s.sense k).coolantFault (s.stands .warmup k))).handed = s.handed := rfl
    have limits : (s.setSense k ((s.sense k).coolantFault (s.stands .warmup k))).limits = s.limits := rfl
    have entry : (s.setSense k ((s.sense k).coolantFault (s.stands .warmup k))).internalEntry .hot k =
      s.internalEntry .hot k := rfl
    have table : (s.setSense k ((s.sense k).coolantFault (s.stands .warmup k))).table = s.table := rfl
    have fittedSense : (s.setSense k ((s.sense k).coolantFault (s.stands .warmup k))).fitted = s.fitted := rfl
    have goodSense : (s.setSense k ((s.sense k).coolantFault (s.stands .warmup k))).tableGood := good
    generalize s.setSense k ((s.sense k).coolantFault (s.stands .warmup k)) = u at *
    have posted := u.postInternal_onlyChanges .hot k
    have retired := (u.postInternal .hot k).retireInternal_onlyChanges .warmup k
    have goodPost := (u.tableKept_postInternal .hot k).1 goodSense
    obtain ⟨freed, kept, resolved⟩ := (u.postInternal .hot k).retireInternal_frees .warmup k goodPost
    have sameHot : internalSlot .hot k ≠ internalSlot .warmup k := by cases k <;> decide
    have standsU (c : Condition) : u.stands c k = s.stands c k := by simp [State.stands, table]
    have warmupKept : slotAt (u.postInternal .hot k).table (internalSlot .warmup k) =
        slotAt s.table (internalSlot .warmup k) := by
      rw [State.postInternal_slot, if_neg fun h => sameHot.symm h.1, table]
    have hotStands : (u.postInternal .hot k).stands .hot k = true :=
      u.postInternal_stands .hot k (fittedSense ▸ fitted) goodSense.length
    have handsPost := u.postInternal_handsOn .hot k
    have handsRetire := (u.postInternal .hot k).retireInternal_handsOn .warmup k
    have fittedPost : (u.postInternal .hot k).fitted = s.fitted := by
      rw [State.fitted_congr (posted.cfs (by simp)), fittedSense]
    refine ⟨?_, fun free => ?_, fun live => ?_, ?_, fun n warmup hot => ?_, ?_, State.retireInternal_stands _ _ _,
      resolved, fun one => ?_, fun warm cold => ?_, ?_⟩
    · rw [retired.sense k (by simp), posted.sense k (by simp), self]
      simp [Sensing.coolantFault]
    · obtain ⟨hot, -, -⟩ := u.postInternal_posts goodSense (fittedSense ▸ fitted) ((standsU .hot).trans free)
      rw [entry, table] at hot
      exact (kept _ sameHot).trans hot
    · exact (kept _ sameHot).trans (by rw [u.postInternal_idle .hot k (.inr ((standsU .hot).trans live)), table]; rfl)
    · exact freed.trans (by rw [warmupKept]; rfl)
    · rw [kept n warmup, State.postInternal_slot, if_neg fun h => hot h.1, table]
    · rw [State.stands, kept _ sameHot]
      exact hotStands
    · obtain cold | live := one
      · have idle : (u.postInternal .hot k).stands .warmup k = false := by
          rw [State.stands, warmupKept]
          exact cold
        rw [State.retireInternal_idle _ _ _ idle, handsPost, handed, limits,
          State.limitsHanded_congr fittedSense]
      · have idle := u.postInternal_idle .hot k (.inr ((standsU .hot).trans live))
        rw [handsRetire, idle, handed, limits, State.limitsHanded_congr fittedSense]
    · refine ⟨(u.postInternal .hot k).table, ?_, fun n hot => ?_, fun n warmup => (kept n warmup).symm⟩
      · rw [handsRetire, handsPost, handed, limits, goodPost.resolved, State.limitsHanded_congr fittedPost,
          State.limitsHanded_congr fittedSense]
      · rw [State.postInternal_slot, if_neg fun h => hot h.1, table]
    · exact ((sensed.mono (by simp)).trans (posted.mono (by simp))).trans (retired.mono (by simp))

/-- Settles O48. -/
theorem coolantConditionsAndOverheat : Obligations.CoolantConditionsAndOverheat := by
  refine ⟨fun s k awake fitted good => ⟨fun count free => ?_, fun count live => ?_, fun count live => ?_⟩,
    fun s k pre post awake fitted handed oldest => ⟨fun trips => ?_, fun online cooldown => ?_⟩⟩
  · refine ⟨s.postInternal .hot k, (State.ifFitted_next awake fitted).trans (congrArg _ (if_pos count)), ?_⟩
    obtain ⟨entry, kept, resolved⟩ := s.postInternal_posts good fitted free
    exact ⟨entry, kept, resolved, s.postInternal_handsOn .hot k, s.postInternal_onlyChanges .hot k⟩
  · refine ⟨s.retireInternal .hot k, (State.ifFitted_next awake fitted).trans (congrArg _ (if_pos count)), ?_⟩
    obtain ⟨entry, kept, resolved⟩ := s.retireInternal_frees .hot k good
    exact ⟨entry, kept, resolved, s.retireInternal_handsOn .hot k, s.retireInternal_onlyChanges .hot k⟩
  · refine ⟨_, (State.ifFitted_next awake fitted).trans (congrArg _ (if_pos ⟨count, live⟩)), ?_⟩
    have sensed := s.setSense_onlyChanges k { s.sense k with warmed := true }
    have self := s.sense_setSense_self k { s.sense k with warmed := true }
    have goodSense : (s.setSense k { s.sense k with warmed := true }).tableGood := good
    have hands := (s.setSense k { s.sense k with warmed := true }).retireInternal_handsOn .warmup k
    have retired := (s.setSense k { s.sense k with warmed := true }).retireInternal_onlyChanges .warmup k
    obtain ⟨entry, kept, resolved⟩ :=
      (s.setSense k { s.sense k with warmed := true }).retireInternal_frees .warmup k goodSense
    exact ⟨(retired.sense k (by simp)).trans self, entry, kept, resolved, hands,
      (sensed.mono (by simp)).trans (retired.mono (by simp))⟩
  · obtain ⟨record, changed, events, warmup, left, handsOn, frame⟩ :=
      (s.setHanded (pre ++ post)).trip_tripsTo k .overheat []
    exact ⟨_, (exec_overheat awake fitted handed oldest).trans (congrArg _ (if_pos trips)), record, changed, events,
      warmup, left, handsOn, State.onlyChanges_after frame (by simp [engineParts])⟩
  · refine ⟨_, (exec_overheat awake fitted handed oldest).trans (congrArg _ (if_neg ?_)), rfl,
      s.setHanded_onlyChanges _⟩
    exact not_or.mpr ⟨online, cooldown⟩

/-! ## Battery (chapter 8) -/

theorem readVoltage_eq {x : Int} {v : Nat} (h : (x < 0 ∧ v = 0) ∨ (0 ≤ x ∧ x ≤ 1000 ∧ (v : Int) = x) ∨ (1000 < x ∧ v = 1000)) :
    readVoltage x = v := by
  unfold readVoltage
  omega

/-- A sample judged in GRANTED, by what the sag count becomes and whether it is reported (R154). -/
theorem State.batterySample_granted {s : State} {x : Int} {v count : Nat} {k : Engine} {report : Bool}
    (granted : s.bsm.phase = .granted) (holder : s.bsm.holder = some k) (volts : readVoltage x = v)
    (judged : s.bsm.sagCount s.cfg.thresholds v = (count, report)) :
    (s.batterySample x).bsm =
        { s.bsm with sample := some v, crankMin := some (lowerOf s.bsm.crankMin v), sag := count } ∧
      (s.batterySample x).handed = s.handed ++ (if report then [.sag k] else []) ∧
      s.onlyChanges (s.batterySample x) [.bsm, .handed] := by
  have told : s.batterySample x =
      (s.setBsm { s.bsm with sample := some v, crankMin := some (lowerOf s.bsm.crankMin v), sag := count }).emitAll
        (if report then [.sag k] else []) := by
    have sag : ({ s.bsm with sample := some v } : Bsm).sagCount s.cfg.thresholds v = (count, report) := judged
    unfold State.batterySample
    simp only [volts]
    rw [sag]
    simp only [granted, holder]
    cases report
    · simp [State.emitAll]
      rfl
    · rfl
  rw [told]
  exact ⟨rfl, rfl, by simp [State.onlyChanges_iff, Part.same, State.eng, State.sense, State.dutyOf]⟩

/-- Settles O49. -/
theorem batterySampleAndPermit : Obligations.BatterySampleAndPermit := by
  refine ⟨⟨fun s pre post p h awake handed oldest => ?phase, fun s x v awake range => ?sample⟩,
    fun s awake good fitted idle => ⟨fun count free => ?posted, fun count live => ?retired⟩⟩
  case phase =>
    refine ⟨_, exec_phaseChange awake handed oldest, rfl, ?_, ?_, ?_,
      State.onlyChanges_after ((State.setBsm_onlyChanges _ _).mono (by simp)) (by simp)⟩ <;> rintro rfl <;> rfl
  case sample =>
    have volts := readVoltage_eq range
    refine ⟨fun idle => ⟨_, State.running_next _ awake, ?_⟩, fun recovery => ⟨_, State.running_next _ awake, ?_⟩,
      fun k granted holder => ⟨_, State.running_next _ awake, ?_⟩⟩
    · simp only [State.batterySample, volts, idle]
      exact ⟨rfl, s.setBsm_onlyChanges _⟩
    · simp only [State.batterySample, volts, recovery]
      exact ⟨rfl, s.setBsm_onlyChanges _⟩
    · have judged (count : Nat) (report : Bool) (h : s.bsm.sagCount s.cfg.thresholds v = (count, report)) :=
        State.batterySample_granted granted holder volts h
      obtain low | high := Nat.lt_or_ge v s.cfg.thresholds.sagFloor
      · obtain short | reached := Nat.lt_or_ge (s.bsm.sag + 1) s.cfg.thresholds.batteryFilter
        · obtain ⟨bsm, handed, frame⟩ := judged (s.bsm.sag + 1) false (by simp [Bsm.sagCount, low, Nat.not_le.mpr short])
          rw [bsm]
          exact ⟨rfl, rfl, rfl, fun none => by simp [none, lowerOf], fun m some => by simp [some, lowerOf],
            fun high => absurd low (Nat.not_lt.mpr high), fun _ _ => ⟨rfl, by simpa using handed⟩,
            fun _ reached => absurd short (Nat.not_lt.mpr reached), frame⟩
        · obtain ⟨bsm, handed, frame⟩ := judged 0 true (by simp [Bsm.sagCount, low, reached])
          rw [bsm]
          exact ⟨rfl, rfl, rfl, fun none => by simp [none, lowerOf], fun m some => by simp [some, lowerOf],
            fun high => absurd low (Nat.not_lt.mpr high), fun _ short => absurd short (Nat.not_lt.mpr reached),
            fun _ _ => ⟨rfl, handed⟩, frame⟩
      · obtain ⟨bsm, handed, frame⟩ := judged 0 false (by simp [Bsm.sagCount, Nat.not_lt.mpr high])
        rw [bsm]
        exact ⟨rfl, rfl, rfl, fun none => by simp [none, lowerOf], fun m some => by simp [some, lowerOf],
          fun _ => ⟨rfl, by simpa using handed⟩, fun low => absurd low (Nat.not_lt.mpr high),
          fun low => absurd low (Nat.not_lt.mpr high), frame⟩
  case posted =>
    refine ⟨s.postInternal .batteryLow .e1, (State.running_next _ awake).trans (congrArg _ (if_pos ⟨idle, count⟩)), ?_⟩
    obtain ⟨entry, kept, resolved⟩ := s.postInternal_posts (c := .batteryLow) good fitted free
    refine ⟨entry, kept, fun k named => ?_, resolved, s.postInternal_handsOn _ _, s.postInternal_onlyChanges _ _⟩
    have inside : s.internalEntry .batteryLow .e1 ∈ liveEntries (s.postInternal .batteryLow .e1).table :=
      mem_liveEntries_iff.mpr ⟨internalSlot .batteryLow .e1, congrArg Slot.entry entry⟩
    rw [resolved]
    simp only [resolve, PerEngine.get_of, demanded, List.any_eq_true]
    exact ⟨_, inside, by simp [State.internalEntry, Entry.covers, State.fittedSet, named]⟩
  case retired =>
    refine ⟨s.retireInternal .batteryLow .e1, (State.running_next _ awake).trans (congrArg _ (if_pos ⟨idle, count⟩)), ?_⟩
    obtain ⟨entry, kept, resolved⟩ := s.retireInternal_frees .batteryLow .e1 good
    exact ⟨entry, kept, resolved, s.retireInternal_handsOn _ _, s.retireInternal_onlyChanges _ _⟩

end Sys2Proof.Machine

namespace Sys2Proof.Machine

/-! ## A request for an engine taken -/

theorem State.servedFor {s u : State} {c : Instr} {engine : Byte} {k : Engine}
    (act : Engine → State → State × Reply) {status : Status} {payload : List Byte} {ps : List Part}
    (takes : s.takesFor c engine k = true) (does : act k s = (u, ⟨status, payload⟩)) (frame : s.onlyChanges u ps)
    (link : .link ∉ ps) :
    s.answers (s.serveCommand c fun t => t.forEngine engine act) c status payload ∧
      s.onlyChanges (s.serveCommand c fun t => t.forEngine engine act) (ps ++ answerParts) ∧
      u.onlyChanges (s.serveCommand c fun t => t.forEngine engine act) answerParts := by
  obtain ⟨taken, field, fitted⟩ := (s.takesFor_iff _ _ _).mp takes
  exact State.served taken ((State.forEngine_of field fitted act).trans does) frame link

theorem State.servedFor_idle {s : State} {c : Instr} {engine : Byte} {k : Engine}
    (act : Engine → State → State × Reply) {status : Status} {payload : List Byte}
    (takes : s.takesFor c engine k = true) (does : act k s = (s, ⟨status, payload⟩)) :
    s.answers (s.serveCommand c fun t => t.forEngine engine act) c status payload ∧
      s.onlyChanges (s.serveCommand c fun t => t.forEngine engine act) answerParts := by
  obtain ⟨answers, frame, -⟩ := State.servedFor act takes does (s.onlyChanges_refl []) (by simp)
  exact ⟨answers, frame⟩

/-! ## Counters and save requests -/

theorem satSucc_eq (n : Nat) : satSucc n = min (n + 1) 4294967295 := by
  unfold satSucc Config.counterMax
  split <;> omega

theorem DutyRecord.expects_foldl (d : DutyRecord) (events : List CountedEvent) :
    d.expects (events.foldl (fun r e => e.advance r) d) events := by
  refine ⟨?start, ?failed, ?aborted, ?rest, ?failedTrip, fun c => ?trip⟩
  case aborted => rintro (rfl | rfl) <;> simp [CountedEvent.advance, satSucc_eq]
  case trip =>
    rintro rfl
    cases c <;> simp [CountedEvent.advance, TripCause.failedStart, satSucc_eq]
  all_goals
    rintro rfl
    simp [CountedEvent.advance, TripCause.failedStart, satSucc_eq]

theorem CountedEvent.any_saves_iff (events : List CountedEvent) :
    events.any CountedEvent.saves = true ↔ (∃ c, .trip c ∈ events) ∨ .rest ∈ events := by
  rw [List.any_eq_true]
  constructor
  · rintro ⟨e, he, saves⟩
    cases e
    case trip c => exact .inl ⟨c, he⟩
    case rest => exact .inr he
    all_goals simp [CountedEvent.saves] at saves
  · rintro (⟨c, hc⟩ | rest)
    · exact ⟨_, hc, rfl⟩
    · exact ⟨_, rest, rfl⟩

theorem State.requestSave_dct (s : State) (k : Engine) : (s.requestSave k).dct =
    { s.dct with queue := if k ∈ s.dct.queue then s.dct.queue else s.dct.queue ++ [k] } := by
  unfold State.requestSave
  by_cases queued : k ∈ s.dct.queue
  · simp [queued]
  · simp [queued]

theorem State.requestSave_onlyChanges (s : State) (k : Engine) : s.onlyChanges (s.requestSave k) [.saves] := by
  simp [State.onlyChanges_iff, Part.same, State.eng, State.sense, State.dutyOf, s.requestSave_dct k]

theorem State.setDuty_onlyChanges (s : State) (k : Engine) (d : Duty) : s.onlyChanges (s.setDuty k d) [.duty k] := by
  have duty (j : Engine) : (s.setDuty k d).dutyOf j = if j = k then d else s.dutyOf j := s.dutyOf_setDuty k j d
  have saves : Part.saves.same s (s.setDuty k d) := ⟨rfl, rfl, rfl⟩
  simp +contextual [State.onlyChanges_iff, Part.same, State.eng, State.sense, duty]
  exact saves

theorem State.lockoutTest_onlyChanges (s : State) (k : Engine) :
    s.onlyChanges (s.lockoutTest k) [.table, .limits, .handed] := by
  unfold State.lockoutTest
  split
  · exact s.postInternal_onlyChanges _ _
  · exact s.onlyChanges_refl _

theorem State.lockoutTest_handsOn (s : State) (k : Engine) :
    (s.lockoutTest k).handed = s.handed ++ s.limitsHanded s.limits (s.lockoutTest k).limits := by
  unfold State.lockoutTest
  split
  · exact s.postInternal_handsOn _ _
  · simp [State.limitsHanded_refl]

theorem State.lockoutTest_limits {s : State} (k : Engine) (resolved : s.limits = resolve s.table) :
    (s.lockoutTest k).limits = resolve (s.lockoutTest k).table := by
  unfold State.lockoutTest
  split
  · exact s.postInternal_limits _ _ resolved
  · exact resolved

/-- The lockout test posts LOCKOUT, with the next generation, exactly where the count calls for it and it does not
stand. -/
theorem State.lockoutTest_table {s : State} {k : Engine} (good : s.tableGood) (fitted : s.fitted k = true) :
    ((s.lockoutTest k).stands .lockout k = true ↔
        s.stands .lockout k = true ∨ s.cfg.thresholds.lockoutCount ≤ (s.dutyOf k).stored.consecutive) ∧
      (s.stands .lockout k = false → (s.lockoutTest k).stands .lockout k = true →
        slotAt (s.lockoutTest k).table (internalSlot .lockout k) =
          ⟨nextGen (slotAt s.table (internalSlot .lockout k)).gen, some (s.internalEntry .lockout k)⟩) ∧
      (s.stands .lockout k = true ∨ (s.lockoutTest k).stands .lockout k = false → (s.lockoutTest k).table = s.table) ∧
      ∀ n, n ≠ internalSlot .lockout k → slotAt (s.lockoutTest k).table n = slotAt s.table n := by
  by_cases count : s.cfg.thresholds.lockoutCount ≤ (s.dutyOf k).stored.consecutive
  · have posts : s.lockoutTest k = s.postInternal .lockout k := if_pos count
    have stands := s.postInternal_stands .lockout k fitted good.length
    rw [posts]
    refine ⟨by simp [stands, count], fun free _ => (s.postInternal_posts good fitted free).1, fun h => ?_, fun n other => ?_⟩
    · obtain live | free := h
      · rw [s.postInternal_idle .lockout k (.inr live)]
      · rw [stands] at free
        cases free
    · rw [State.postInternal_slot, if_neg fun h => other h.1]
  · have idle : s.lockoutTest k = s := if_neg count
    rw [idle]
    refine ⟨by simp [count], fun free stands => ?_, fun _ => rfl, fun _ _ => rfl⟩
    rw [free] at stands
    cases stands

/-- The record of an engine after one step of the DCT count. -/
theorem Duty.count_of_stays {d : Duty} {r : EngineRec}
    (h : r.state ≠ .runup ∧ r.state ≠ .online ∧ r.state ≠ .cooldown) : d.count r = d := by
  obtain ⟨runup, online, cooldown⟩ := h
  cases hs : r.state <;> simp_all [Duty.count]

theorem Duty.count_of_runs {d : Duty} {r : EngineRec} (h : r.state = .runup ∨ r.state = .online ∨ r.state = .cooldown) :
    (d.count r).stored = { d.stored with run := min (d.stored.run + 1) 4294967295 } ∧
      (d.count r).runSinceSave = min (d.runSinceSave + 1) 600 ∧ (d.count r).restored = d.restored := by
  obtain h | h | h := h <;> simp [Duty.count, h, satSucc_eq, Config.runSinceSaveLimit]

theorem Duty.count_histogram (d : Duty) (r : EngineRec) :
    (d.count r).histogram = if r.state = .online then bumpBin d.histogram r.notch else d.histogram := by
  cases hs : r.state <;> simp [Duty.count, hs]

theorem row_bumpBin {h : List Nat} {m : Nat} (inside : m < h.length) (n : Nat) :
    row (bumpBin h m) n = if n = m then min (row h n + 1) 4294967295 else row h n := by
  by_cases hn : n = m
  · subst hn
    simp [bumpBin, row, inside, satSucc_eq]
  · simp [bumpBin, row, hn, Ne.symm hn]

/-- The counters taken in, before the lockout test. -/
def State.advanced (s : State) (k : Engine) (events : List CountedEvent) : State :=
  s.setDuty k { s.dutyOf k with stored := events.foldl (fun r e => e.advance r) (s.dutyOf k).stored }

theorem State.countEvents_eq (s : State) (k : Engine) (events : List CountedEvent) : s.countEvents k events =
    if events.any CountedEvent.saves then ((s.advanced k events).lockoutTest k).requestSave k
    else (s.advanced k events).lockoutTest k := rfl

/-- A save request after a change of state's events, in one form: the queue and the frame. -/
theorem State.countEvents_changes (s : State) (k : Engine) (events : List CountedEvent) :
    ((s.advanced k events).lockoutTest k).onlyChanges (s.countEvents k events) [.saves] ∧
      (s.countEvents k events).dct.queue =
        (if events.any CountedEvent.saves ∧ k ∉ s.dct.queue then s.dct.queue ++ [k] else s.dct.queue) ∧
      (s.countEvents k events).dct.writing = s.dct.writing ∧ (s.countEvents k events).dct.store = s.dct.store := by
  have dct : ((s.advanced k events).lockoutTest k).dct = (s.advanced k events).dct := by simp
  rw [State.countEvents_eq]
  split
  next saves =>
    refine ⟨State.requestSave_onlyChanges _ _, ?_⟩
    rw [State.requestSave_dct, dct]
    simp only [State.advanced, State.setDuty, State.setDct_dct, saves, true_and, and_self, and_true]
    split <;> simp_all
  next none =>
    refine ⟨State.onlyChanges_refl _ _, ?_⟩
    rw [dct]
    simp [State.advanced, State.setDuty, none]

/-- Settles O50. -/
theorem dutyCountersAdvance : Obligations.DutyCountersAdvance := by
  refine ⟨fun s k pre post es awake fitted good handed oldest => ?_,
    fun s awake => ⟨⟨_, State.running_next _ awake, ?_⟩, fun k fitted full => ?_⟩⟩
  · refine ⟨_, exec_countedEvent awake fitted handed oldest, ?_⟩
    obtain ⟨saved, queue, writing, store⟩ := (s.setHanded (pre ++ post)).countEvents_changes k es
    have counted := (s.setHanded (pre ++ post)).setDuty_onlyChanges k { s.dutyOf k with
      stored := es.foldl (fun r e => e.advance r) (s.dutyOf k).stored }
    have self : ((s.setHanded (pre ++ post)).advanced k es).dutyOf k = { s.dutyOf k with
        stored := es.foldl (fun r e => e.advance r) (s.dutyOf k).stored } :=
      ((s.setHanded (pre ++ post)).dutyOf_setDuty k k _).trans (if_pos rfl)
    have goodCounted : ((s.setHanded (pre ++ post)).advanced k es).tableGood := good
    have tested := State.lockoutTest_onlyChanges ((s.setHanded (pre ++ post)).advanced k es) k
    have hands := State.lockoutTest_handsOn ((s.setHanded (pre ++ post)).advanced k es) k
    have resolved := State.lockoutTest_limits k goodCounted.resolved
    obtain ⟨stands, entry, kept, others⟩ := State.lockoutTest_table (k := k) goodCounted fitted
    have dutyT : ((s.setHanded (pre ++ post)).countEvents k es).dutyOf k = { s.dutyOf k with
        stored := es.foldl (fun r e => e.advance r) (s.dutyOf k).stored } :=
      ((saved (.duty k) (by simp)).trans (tested (.duty k) (by simp))).trans self
    have tableT := saved.table (by simp)
    have limitsT : _ = _ := saved .limits (by simp)
    have standsT : ((s.setHanded (pre ++ post)).countEvents k es).stands .lockout k = _ :=
      congrArg (fun t => (slotAt t (internalSlot .lockout k)).live) tableT
    rw [self] at stands
    refine ⟨by rw [dutyT]; exact DutyRecord.expects_foldl _ _, by rw [dutyT], by rw [dutyT], by rw [dutyT],
      by rw [standsT, dutyT]; exact stands, fun free live => ?_, fun h => ?_, fun n other => ?_, fun saves out => ?_,
      fun h => ?_, writing, store, ?_, ?_, ?_⟩
    · rw [tableT]
      exact entry free (standsT.symm.trans live)
    · exact tableT.trans (kept (h.imp id fun free => standsT.symm.trans free))
    · rw [tableT]
      exact others n other
    · exact queue.trans (if_pos ⟨(CountedEvent.any_saves_iff es).mpr saves, out⟩)
    · refine queue.trans (if_neg fun ⟨saves, out⟩ => ?_)
      obtain ⟨trips, rests⟩ | queued := h
      · obtain ⟨c, hc⟩ | rest := (CountedEvent.any_saves_iff es).mp saves
        · exact trips c hc
        · exact rests rest
      · exact out queued
    · rw [limitsT, tableT, resolved]
    · rw [limitsT]
      exact (saved .handed (by simp)).trans hands
    · exact State.onlyChanges_after (((counted.mono (by simp)).trans (tested.mono (by simp))).trans (saved.mono (by simp)))
        (by simp)
  · have duty (k : Engine) : (s.setDct { s.dct with
        duty := .of fun k => if s.fitted k then (s.dutyOf k).count (s.eng k) else s.dutyOf k }).dutyOf k =
        if s.fitted k then (s.dutyOf k).count (s.eng k) else s.dutyOf k := PerEngine.get_of _ k
    refine ⟨fun k fitted runs => ?_, fun k fitted online inside n => ?_, fun k other => ?_, fun k h => ?_, ?_⟩
    · rw [duty, if_pos fitted]
      exact Duty.count_of_runs runs
    · rw [duty, if_pos fitted, Duty.count_histogram, if_pos online, row_bumpBin inside]
    · rw [duty]
      split
      · rw [Duty.count_histogram, if_neg other]
      · rfl
    · rw [duty]
      obtain out | stays := h
      · simp [out]
      · simp [Duty.count_of_stays stays]
    · have engines (k : Engine) : Part.duty k ∈ [Part.duty .e1, .duty .e2, .duty .e3, .duty .e4] := by
        cases k <;> simp
      rw [State.onlyChanges_iff]
      refine ⟨?_, ?_, ?_, ?_, ?_, ?_, ?_, ?_, ?_, fun k h => absurd (engines k) h, ?_⟩ <;>
        simp [Part.same, State.eng, State.sense]
  · refine ⟨s.requestSave k, (State.running_next _ awake).trans (congrArg _ (if_pos ⟨fitted, full⟩)),
      s.requestSave_dct k, s.requestSave_onlyChanges k⟩

/-! ## Requests of the counters -/

theorem State.counterReport_save (s : State) (k : Engine) :
    (match s.dct.saveState k with | .idle => 0 | .queued => 1 | .writing => 2 : Byte) =
      if s.dct.writing.map Prod.fst = some k then 2 else if k ∈ s.dct.queue then 1 else 0 := by
  unfold Dct.saveState
  by_cases writing : s.dct.writing.map Prod.fst = some k
  · simp [writing]
  · by_cases queued : k ∈ s.dct.queue
    · simp [writing, queued]
    · simp [writing, queued]

/-- Settles O51. -/
theorem counterRequestsReadAndClear : Obligations.CounterRequestsReadAndClear := by
  refine ⟨fun s c e clear k takes => ?_, fun s c e k takes => ?_⟩
  · refine ⟨fun b asked => ?_, fun bad => ?_⟩
    · have does : s.readCounters clear k = (if b then s.setDuty k { s.dutyOf k with histogram := List.replicate 9 0 }
          else s, ⟨.ok, s.counterReport k⟩) := by
        cases b <;> simp [State.readCounters, asked]
      have frame : s.onlyChanges (if b then s.setDuty k { s.dutyOf k with histogram := List.replicate 9 0 } else s)
          [.duty k] := by
        cases b
        · exact s.onlyChanges_refl _
        · exact s.setDuty_onlyChanges k _
      obtain ⟨answers, total, after⟩ := State.servedFor (fun k u => u.readCounters clear k) takes does frame (by simp)
      refine ⟨_, _, rfl, answers, rfl, rfl, rfl, rfl, rfl, rfl, rfl, fun n hn => ?_, rfl,
        s.counterReport_save k, rfl, rfl, rfl, ?_, total⟩
      · interval_cases n <;> rfl
      · refine (after (.duty k) (by simp [answerParts])).trans ?_
        cases b
        · rfl
        · exact (s.dutyOf_setDuty k k _).trans (if_pos rfl)
    · have does : s.readCounters clear k = (s, ⟨.badValue, []⟩) := by
        simp [State.readCounters, bad, Reply.bare]
      obtain ⟨answers, frame⟩ := State.servedFor_idle (fun k u => u.readCounters clear k) takes does
      exact ⟨_, rfl, answers, frame⟩
  · refine ⟨fun zero free => ?_, fun h => ?_⟩
    · have does : s.clearLockout k = (s, ⟨.ok, []⟩) := if_pos ⟨zero, free⟩
      obtain ⟨answers, frame⟩ := State.servedFor_idle (fun k u => u.clearLockout k) takes does
      exact ⟨_, rfl, answers, frame⟩
    · have cleared := s.setDuty_onlyChanges k { s.dutyOf k with
        stored := { (s.dutyOf k).stored with consecutive := 0 } }
      have self := (s.dutyOf_setDuty k k { s.dutyOf k with
        stored := { (s.dutyOf k).stored with consecutive := 0 } }).trans (if_pos rfl)
      have does : s.clearLockout k = (((s.setDuty k { s.dutyOf k with
          stored := { (s.dutyOf k).stored with consecutive := 0 } }).retireInternal .lockout k).requestSave k,
          ⟨.ok, []⟩) := by
        refine if_neg fun ⟨zero, free⟩ => h.elim (fun h => h zero) fun live => ?_
        rw [free] at live
        cases live
      have fittedSame : (s.setDuty k { s.dutyOf k with
        stored := { (s.dutyOf k).stored with consecutive := 0 } }).fitted = s.fitted := rfl
      have resolves (good : s.tableGood) : (s.setDuty k { s.dutyOf k with
        stored := { (s.dutyOf k).stored with consecutive := 0 } }).limits = resolve (s.setDuty k { s.dutyOf k with
        stored := { (s.dutyOf k).stored with consecutive := 0 } }).table := good.resolved
      generalize hu : s.setDuty k { s.dutyOf k with
        stored := { (s.dutyOf k).stored with consecutive := 0 } } = u at *
      have retired := u.retireInternal_onlyChanges .lockout k
      have saved := (u.retireInternal .lockout k).requestSave_onlyChanges k
      have dct : (u.retireInternal .lockout k).dct = u.dct := by simp
      have queue : u.dct.queue = s.dct.queue := by rw [← hu]; rfl
      have writing : u.dct.writing = s.dct.writing := by rw [← hu]; rfl
      have store : u.dct.store = s.dct.store := by rw [← hu]; rfl
      have limits : u.limits = s.limits := by rw [← hu]; rfl
      have handed : u.handed = s.handed := by rw [← hu]; rfl
      have save := State.requestSave_dct (u.retireInternal .lockout k) k
      obtain ⟨answers, total, after⟩ := State.servedFor (fun k u => u.clearLockout k) takes does
        (ps := [.duty k, .saves, .table, .limits, .handed])
        (((cleared.mono (by simp)).trans (retired.mono (by simp))).trans (saved.mono (by simp))) (by simp)
      obtain ⟨queueT, writingT, storeT⟩ : Part.saves.same _ _ := after .saves (by simp [answerParts])
      have tableT := (after.table (by simp [answerParts])).trans (saved.table (by simp))
      have limitsT := (after .limits (by simp [answerParts])).trans (saved .limits (by simp))
      refine ⟨_, rfl, answers, ?_, ?_, ?_, ?_, ?_, fun good => ⟨?_, ?_⟩, total⟩
      · exact (after (.duty k) (by simp [answerParts])).trans
          ((saved (.duty k) (by simp)).trans ((retired (.duty k) (by simp)).trans self))
      · exact (congrArg (fun t => (slotAt t (internalSlot .lockout k)).live) tableT).trans
          (u.retireInternal_stands .lockout k)
      · rw [queueT, save, dct, queue]
      · rw [writingT, save, dct, writing]
      · rw [storeT, save, dct, store]
      · exact limitsT.trans ((u.retireInternal_limits .lockout k (resolves good)).trans (congrArg resolve tableT.symm))
      · refine ((after .handed (by simp [answerParts])).trans (saved .handed (by simp))).trans ?_
        refine (u.retireInternal_handsOn .lockout k).trans ?_
        rw [handed, limits, State.limitsHanded_congr fittedSame]
        exact congrArg (s.handed ++ s.limitsHanded s.limits ·) limitsT.symm

/-! ## Writes of the store -/

/-- Settles O52. -/
theorem saveWritesSnapshotHead : Obligations.SaveWritesSnapshotHead := by
  intro s k awake
  refine ⟨fun rest free queue => ⟨_, State.running_next _ awake, ?_⟩, fun d writing => ⟨_, State.running_next _ awake, ?_⟩⟩
  · have duty (j : Engine) : s.saveBegin.dutyOf j = if j = k then { s.dutyOf k with runSinceSave := 0 }
        else s.dutyOf j := by
      simp [State.saveBegin, free, queue, State.dutyOf, PerEngine.get_set]
    have store (j : Engine) : s.saveBegin.dct.store.get j = if j = k then .written k (s.dutyOf k).stored false
        else s.dct.store.get j := by
      simp [State.saveBegin, free, queue, PerEngine.get_set]
    refine ⟨?_, ?_, ?_, ?_, ?_, fun j other => ?_, ?_⟩
    · simp [State.saveBegin, free, queue]
    · simp [State.saveBegin, free, queue]
    · simp [State.saveBegin, free, queue, Dct.saveState]
    · rw [duty, if_pos rfl]
    · rw [store, if_pos rfl]
      rfl
    · rw [store, if_neg other]
    · simp +contextual [State.onlyChanges_iff, Part.same, State.eng, State.sense, duty]
  · simp [State.saveEnd, writing, StoreRecord.load, State.onlyChanges_iff, Part.same, State.eng, State.sense, State.dutyOf]

end Sys2Proof.Machine

namespace Sys2Proof.Machine

/-! ## The demands of a table -/

/-- Two sets of limits with the same demands: they differ in ceilings and the cap alone. -/
def Limits.sameDemands (l l' : Limits) : Prop := l'.inhibit = l.inhibit ∧ l'.stop = l.stop ∧ l'.run = l.run

theorem Limits.sameDemands_trans {l l' l'' : Limits} (h : l.sameDemands l') (h' : l'.sameDemands l'') :
    l.sameDemands l'' := ⟨h'.1.trans h.1, h'.2.1.trans h.2.1, h'.2.2.trans h.2.2⟩

/-- Tables that differ in notch ceilings alone have the same demands. -/
theorem resolve_sameDemands {t u : List Slot}
    (h : ∀ n e, e.kind ≠ .notchCeiling → ((slotAt u n).entry = some e ↔ (slotAt t n).entry = some e)) :
    (resolve t).sameDemands (resolve u) := by
  have demands (kind : Kind) (hk : kind ≠ .notchCeiling) :
      demanded (liveEntries u) kind = demanded (liveEntries t) kind := by
    funext k
    rw [Bool.eq_iff_iff, demanded_iff, demanded_iff]
    refine exists_congr fun e => and_congr_left fun ⟨he, _⟩ => ?_
    rw [mem_liveEntries_iff, mem_liveEntries_iff]
    exact exists_congr fun n => h n e (he ▸ hk)
  refine ⟨?_, ?_, ?_⟩ <;> simp only [resolve]
  · rw [demands _ (by decide)]
  · rw [demands _ (by decide)]
  · rw [demands .runDemand (by decide), demands .stopDemand (by decide)]

/-- A good slot of a ceiling condition holds notch ceilings alone. -/
theorem slotGood_ceiling {c : Condition} {k : Engine} {x : Slot} {e : Entry} (good : slotGood (internalSlot c k) x)
    (ceiling : c.kind = .notchCeiling) (live : x.entry = some e) : e.kind = .notchCeiling := by
  unfold slotGood at good
  simp only [live] at good
  obtain ⟨-, owner⟩ := good
  cases ho : e.owner with
  | internal d =>
    simp only [ho] at owner
    obtain ⟨⟨j, slot⟩, kind⟩ := owner
    have same : c = d := (internalSlot_inj (by rintro rfl; cases ceiling) slot).1
    rw [kind, ← same, ceiling]
  | external o =>
    simp only [ho] at owner
    have inside : internalSlot c k < Config.externalFirst := by cases c <;> cases k <;> decide
    omega

theorem State.internalEntry_kind (s : State) (c : Condition) (k : Engine) : (s.internalEntry c k).kind = c.kind := by
  cases c <;> rfl

theorem State.postInternal_sameDemands {s : State} (good : s.tableGood) {c : Condition} (k : Engine)
    (ceiling : c.kind = .notchCeiling) : s.limits.sameDemands (s.postInternal c k).limits := by
  rw [good.resolved, s.postInternal_limits c k good.resolved]
  refine resolve_sameDemands fun n e other => ?_
  rw [State.postInternal_slot]
  split
  next h =>
    obtain ⟨rfl, -, -, free⟩ := h
    have none : (slotAt s.table (internalSlot c k)).entry = none := by simpa [State.stands, Slot.live] using free
    rw [none]
    refine iff_of_false (fun h => other ?_) (by simp)
    rw [← Option.some.inj h, State.internalEntry_kind, ceiling]
  next => rfl

theorem State.retireInternal_sameDemands {s : State} (good : s.tableGood) {c : Condition} (k : Engine)
    (ceiling : c.kind = .notchCeiling) : s.limits.sameDemands (s.retireInternal c k).limits := by
  rw [good.resolved, s.retireInternal_limits c k good.resolved]
  refine resolve_sameDemands fun n e other => ?_
  rw [State.retireInternal_slot]
  split
  next h =>
    subst h
    exact iff_of_false (by simp) fun live => other (slotGood_ceiling (good.2.1 _) ceiling live)
  next => rfl

/-- No change of state moves a demand: it retires WARMUP at the most. -/
theorem State.enter_sameDemands {s : State} (good : s.tableGood) (k : Engine) (new : EState) (c : List CountedEvent)
    (f : EngineRec → EngineRec) : s.limits.sameDemands (s.enter k new c f).limits := by
  have limits : (s.enter k new c f).limits = (s.entered k new c f).limits := by simp [State.enter_eq]
  obtain ⟨-, -, same, table⟩ := s.recorded_keeps k new c f
  have goodRecorded : (s.recorded k new c f).tableGood := by
    unfold State.tableGood
    rw [same, table]
    exact good
  rw [limits, ← same]
  unfold State.entered
  split
  · exact State.retireInternal_sameDemands goodRecorded k rfl
  · exact ⟨rfl, rfl, rfl⟩

/-! ## The supply over two changes -/

/-- The line follows the wish over two changes that never lose the wish. -/
theorem State.lineFollows_trans {s t u : State} {released : Bool} (good : s.lineGood) (cfg : t.cfg = s.cfg)
    (first : s.lineFollows t false) (second : t.lineFollows u released) (up : s.wantsSupply → t.wantsSupply)
    (up' : t.wantsSupply → u.wantsSupply) : s.lineFollows u released := by
  obtain ⟨exclusive, shared⟩ := good
  obtain ⟨first, first'⟩ := first
  obtain ⟨second, second'⟩ := second
  rw [cfg] at second second'
  refine ⟨fun mode _ => ?_, fun mode => ?_⟩
  · obtain ⟨line, rerequest⟩ := first mode (by simp [exclusive mode])
    obtain ⟨line', rerequest'⟩ := second mode (by simp [line, exclusive mode])
    exact ⟨line'.trans line, rerequest'.trans rerequest⟩
  · obtain ⟨-, wanted, -, -⟩ := shared mode
    obtain ⟨asks, backs, -, stays⟩ := first' mode
    obtain ⟨asks', backs', gives, stays'⟩ := second' mode
    cases hl : s.car.line <;> by_cases ht : t.wantsSupply <;> by_cases hu : u.wantsSupply <;> simp_all

theorem State.supplyKept_trans {s t u : State} (good : s.lineGood) (cfg : t.cfg = s.cfg) (first : s.supplyKept t)
    (second : t.supplyKept u) (up : s.wantsSupply → t.wantsSupply) (up' : t.wantsSupply → u.wantsSupply) :
    s.supplyKept u := by
  obtain ⟨queue, holder, phase, gap, line⟩ := first
  obtain ⟨queue', holder', phase', gap', line'⟩ := second
  exact ⟨queue'.trans queue, holder'.trans holder, phase'.trans phase, gap'.trans gap,
    State.lineFollows_trans good cfg line line' up up'⟩

/-- The supply is held after a change that keeps it and its wish exactly where it was held before. -/
theorem State.supplyKept.held {s t : State} (good : s.lineGood) (kept : s.supplyKept t)
    (up : s.wantsSupply → t.wantsSupply) : t.car.line = .held ↔ s.car.line = .held := by
  obtain ⟨exclusive, shared⟩ := good
  obtain ⟨-, -, -, -, same, follows⟩ := kept
  cases mode : s.cfg.arbiter.sharing with
  | exclusive =>
    obtain ⟨line, -⟩ := same mode (by simp [exclusive mode])
    rw [line]
  | shared =>
    obtain ⟨-, wanted, -, -⟩ := shared mode
    obtain ⟨asks, backs, -, stays⟩ := follows mode
    cases hl : s.car.line <;> by_cases ht : t.wantsSupply <;> simp_all

theorem State.supplyJoined_trans {s t u : State} {k : Engine} (good : s.lineGood) (cfg : t.cfg = s.cfg)
    (inhibit : t.limits.inhibit = s.limits.inhibit) (first : s.supplyKept t) (second : t.supplyJoined u k)
    (up : s.wantsSupply → t.wantsSupply) (up' : t.wantsSupply → u.wantsSupply) : s.supplyJoined u k := by
  have held : (t.car.line ≠ .held) ↔ (s.car.line ≠ .held) := not_congr (first.held good up)
  have held' := first.held good up
  obtain ⟨queue, holder, phase, gap, line⟩ := first
  obtain ⟨joins, stays⟩ := second
  rw [queue, holder, phase, cfg, inhibit, gap, held, held'] at joins
  rw [queue, holder, phase] at stays
  refine ⟨fun out free => ?_, fun there busy =>
    State.supplyKept_trans good cfg ⟨queue, holder, phase, gap, line⟩ (stays there busy) up up'⟩
  obtain ⟨gap', line', none, some⟩ := joins out free
  exact ⟨gap', State.lineFollows_trans good cfg line line' up up', none, some⟩

theorem State.supplyKept_congr {s t u : State} (car : u.car = t.car) (wants : u.wantsSupply ↔ t.wantsSupply)
    (h : s.supplyKept t) : s.supplyKept u := by
  obtain ⟨queue, holder, phase, gap, line⟩ := h
  rw [← car] at queue holder phase gap
  exact ⟨queue, holder, phase, gap, State.lineFollows_congr (by rw [car]) (by rw [car]) wants line⟩

end Sys2Proof.Machine

namespace Sys2Proof.Machine

/-! ## The wish over changes of state -/

/-- An engine that comes into CRANK_WAIT makes the supply wanted. -/
theorem State.enterCrankWait_wants {s : State} {k : Engine} (waits : (s.eng k).state ≠ .crankWait)
    (cranks : (s.eng k).state ≠ .cranking) : (s.enterCrankWait k).wantsSupply := by
  let u := s.entered k .crankWait [] fun r => { r.noTimers with held := false }
  have moved : u.supplyMoved k (s.eng k).state .crankWait = u.join k := by simp [State.supplyMoved, waits, cranks]
  have enters : s.enterCrankWait k = (u.join k).formWish.decideGrant := by
    rw [← moved]
    exact (u.arbiterOnChange_eq k _ _).trans (if_pos (Or.inl rfl))
  rw [enters, State.wantsSupply_decideGrant, State.wantsSupply_formWish]
  obtain queued | holder := u.join_waits k
  · exact .inl (List.ne_nil_of_mem queued)
  · exact .inr (.inl (by rw [holder]; rfl))

/-- An engine out of PRELUBE and CRANK_REST contributes no wish of its own: after a change of its record alone that keeps
queue and holder the supply stays wanted. -/
theorem State.wantsSupply_of_kept {s t : State} {k : Engine} (kept : s.supplyKept t) (cfg : t.cfg = s.cfg)
    (others : ∀ j, j ≠ k → t.eng j = s.eng j) (old : (s.eng k).state ≠ .prelube ∧ (s.eng k).state ≠ .crankRest) :
    s.wantsSupply → t.wantsSupply := by
  obtain ⟨queue, holder, -, -, -⟩ := kept
  unfold State.wantsSupply
  rw [queue, holder, cfg, State.fitted_of_cfg cfg]
  refine Or.imp id (Or.imp id (And.imp id ?_))
  rintro ⟨j, fitted, h⟩
  have other : j ≠ k := by
    rintro rfl
    exact h.elim old.1 old.2
  exact ⟨j, fitted, by rw [others j other]; exact h⟩

/-! ## Held at a hold point -/

theorem State.hold_changes (s : State) (k : Engine) :
    (s.hold k).eng k = (s.eng k).afterHold ∧ (s.hold k).car = s.car ∧ (s.hold k).cli.notices.changed.get k = true ∧
      (∀ j, ((s.hold k).eng j).state = (s.eng j).state) ∧ s.onlyChanges (s.hold k) [.engine k, .notices] := by
  have record (j : Engine) : (s.hold k).eng j = if j = k then (s.eng k).afterHold else s.eng j := s.hold_eng k j
  refine ⟨by rw [record, if_pos rfl], by simp, ?_, fun j => ?_, ?_⟩
  · simp [State.hold, State.flagChanged, State.setNotices]
  · rw [record]
    split
    next h => rw [h]; rfl
    next => rfl
  · simp +contextual [State.onlyChanges_iff, Part.same, State.sense, State.dutyOf, record]
    simp [State.hold, State.flagChanged, State.setNotices, State.modEng, State.setEng]

/-! ## A start admitted (R71, R75, R145) -/

/-- The record of an engine on entry into PRELUBE (R71). -/
def EngineRec.starting (r : EngineRec) (reason : StartReason) (attempts : Nat) : EngineRec :=
  { r.noTimers with
    state := .prelube, startReason := some reason, attempts := attempts, lastAttempt := none, held := false
    prelubeTimer := some 0 }

/-- An admitted start up to the prelube step. -/
def State.toPrelube (s : State) (k : Engine) (reason : StartReason) : State :=
  let t := s.enter k .prelube [] fun r => r.starting reason s.cfg.timing.attempts
  t.setSense k { t.sense k with warmed := false }

section

variable {s : State} {k : Engine} {reason : StartReason}

theorem State.admitStart_eq : s.admitStart k reason = if (s.toPrelube k reason).lubeMade k then
    (s.toPrelube k reason).prelubeStep k else s.toPrelube k reason := rfl

theorem State.toPrelube_changes (rest : (s.eng k).state = .stopped) :
    (s.toPrelube k reason).eng k = (s.eng k).starting reason s.cfg.timing.attempts ∧
      ((s.toPrelube k reason).sense k).warmed = false ∧ (s.toPrelube k reason).cli.notices.changed.get k = true ∧
      s.supplyKept (s.toPrelube k reason) ∧ (s.lineGood → (s.toPrelube k reason).lineGood) ∧
      s.onlyChanges (s.toPrelube k reason) [.sense k, .engine k, .car, .notices, .handed] := by
  have record := s.enter_eng k k .prelube [] fun r => r.starting reason s.cfg.timing.attempts
  have changed := s.enter_changed k .prelube [] fun r => r.starting reason s.cfg.timing.attempts
  have kept := s.enter_supplyKept k (new := .prelube) [] (fun r => r.starting reason s.cfg.timing.attempts) (by simp)
    (.inl (by rw [rest]; simp)) (by rw [rest]; simp)
  have line (loose : s.lineLoose) := State.lineGood_enter (k := k) (new := .prelube) (c := [])
    (f := fun r => r.starting reason s.cfg.timing.attempts) loose
  have frame := s.enter_onlyChanges_of_stays k .prelube [] (fun r => r.starting reason s.cfg.timing.attempts) rfl
  unfold State.toPrelube
  rw [if_pos rfl] at record
  generalize s.enter k .prelube [] _ = t at *
  have sensed := t.setSense_onlyChanges k { t.sense k with warmed := false }
  refine ⟨(sensed (.engine k) (by simp)).trans record, by rw [State.sense_setSense_self], changed, kept,
    fun good => line ((State.lineGood_iff s).mp good).1, (frame.mono (by simp)).trans (sensed.mono (by simp))⟩

theorem State.admitStart_changes (rest : (s.eng k).state = .stopped) :
    s.startsTo (s.admitStart k reason) k reason ∧ (s.lineGood → (s.admitStart k reason).lineGood) ∧
      (s.wantsSupply → (s.admitStart k reason).wantsSupply) ∧
      s.onlyChanges (s.admitStart k reason) [.sense k, .engine k, .car, .notices, .handed] := by
  obtain ⟨record, warmed, changed, kept, line, frame⟩ := s.toPrelube_changes (reason := reason) rest
  have cfg : (s.toPrelube k reason).cfg = s.cfg := State.cfg_congr (frame.cfs (by simp))
  have lube : (s.toPrelube k reason).lubeMade k = s.lubeMade k := by
    unfold State.lubeMade
    rw [show (s.toPrelube k reason).lic = s.lic from frame .lic (by simp)]
  have limits : (s.toPrelube k reason).limits = s.limits := frame .limits (by simp)
  have up : s.wantsSupply → (s.toPrelube k reason).wantsSupply :=
    State.wantsSupply_of_kept (k := k) kept cfg (fun j other => frame (.engine j) (by simp [other])) (by simp [rest])
  have eq := s.admitStart_eq (k := k) (reason := reason)
  rw [lube] at eq
  generalize s.toPrelube k reason = m at *
  cases made : s.lubeMade k with
  | false =>
    rw [made, if_neg (by simp)] at eq
    rw [eq]
    refine ⟨⟨by rw [record]; rfl, by rw [record]; rfl, by rw [record]; rfl, warmed, changed,
      fun _ => by rw [record]; exact ⟨rfl, rfl, rfl⟩, by simp [made],
      by simp [made], fun _ _ => kept⟩, line, up, frame⟩
  | true =>
    rw [made, if_pos rfl] at eq
    have holdPoint : (m.eng k).holdPoint = (s.eng k).holdPoint := by rw [record]; rfl
    have sense {u : State} {ps : List Part} (h : m.onlyChanges u ps) (out : .sense k ∉ ps) :
        (u.sense k).warmed = false := by rw [h.sense k out]; exact warmed
    by_cases held : (s.eng k).holdPoint = .beforeCrank
    · have step : s.admitStart k reason = m.hold k := eq.trans (if_pos (holdPoint.trans held))
      obtain ⟨after, car, flag, states, frame'⟩ := m.hold_changes k
      have wants : (m.hold k).wantsSupply ↔ m.wantsSupply :=
        State.wantsSupply_congr (by rw [car]) (by rw [car]) (State.cfg_congr (frame'.cfs (by simp))) states
      rw [record] at after
      rw [step]
      refine ⟨⟨by rw [after]; rfl, by rw [after]; rfl, by rw [after]; rfl, sense frame' (by simp), flag, by simp [made],
        fun _ _ => by rw [after]; exact ⟨rfl, rfl, rfl⟩, fun _ out => absurd held out,
        fun _ _ => State.supplyKept_congr car wants kept⟩, fun good => ?_, fun h => wants.mpr (up h),
        frame.trans (frame'.mono (by simp))⟩
      exact State.lineGood_congr car (State.cfg_congr (frame'.cfs (by simp))) states (line good)
    · have step : s.admitStart k reason = m.enterCrankWait k := eq.trans (if_neg (by rw [holdPoint]; exact held))
      have waits : (m.eng k).state ≠ .crankWait := by rw [record]; nofun
      have cranks : (m.eng k).state ≠ .cranking := by rw [record]; nofun
      obtain ⟨after, -, joined, flag, frame'⟩ := State.enterCrankWait_joins waits cranks
      have wants := State.enterCrankWait_wants waits cranks
      rw [record] at after
      rw [step]
      refine ⟨⟨by rw [after]; rfl, by rw [after]; rfl, by rw [after]; rfl, sense frame' (by simp), flag, by simp [made],
        fun _ h => absurd h held, fun _ _ => ⟨by rw [after], fun good => ?_⟩,
        fun h => absurd h (by simp [made, held])⟩, fun good => ?_, fun _ => wants, frame.trans (frame'.mono (by simp))⟩
      · exact State.supplyJoined_trans good cfg (by rw [limits]) kept joined up fun _ => wants
      · exact State.lineGood_enter ((State.lineGood_iff m).mp (line good)).1

end

/-- A start out of a state that another change has left, which kept the supply, its wish and what a start reads. -/
theorem State.startsTo_source {s m t : State} {k : Engine} {reason : StartReason} (h : m.startsTo t k reason)
    (cfg : m.cfg = s.cfg) (lic : m.lic = s.lic) (hold : (m.eng k).holdPoint = (s.eng k).holdPoint)
    (inhibit : m.limits.inhibit = s.limits.inhibit) (kept : s.supplyKept m) (line : s.lineGood → m.lineGood)
    (up : s.wantsSupply → m.wantsSupply) (up' : m.wantsSupply → t.wantsSupply) : s.startsTo t k reason := by
  obtain ⟨why, attempts, last, warmed, changed, opened, held, waits, stays⟩ := h
  have lube : m.lubeMade k = s.lubeMade k := by rw [State.lubeMade, lic]; rfl
  rw [lube] at opened held waits stays
  rw [hold] at held waits stays
  rw [cfg] at attempts
  refine ⟨why, attempts, last, warmed, changed, opened, held, fun made out => ?_, fun no good => ?_⟩
  · obtain ⟨state, joined⟩ := waits made out
    exact ⟨state, fun good => State.supplyJoined_trans good cfg inhibit kept (joined (line good)) up up'⟩
  · exact State.supplyKept_trans good cfg kept (stays no (line good)) up up'

end Sys2Proof.Machine

namespace Sys2Proof.Machine

/-! ## Admission (R71) -/

theorem State.admits_iff (s : State) (k : Engine) : s.admits k = true ↔ s.startAllowed k ∧ s.atRest k = true := by
  simp [State.admits, State.startAllowed, State.isoCond, State.level, State.eng, Lines.get, and_assoc]

theorem State.admits_congr {s u : State} {k : Engine} (cfs : u.cfs = s.cfs) (lic : u.lic = s.lic)
    (sense : u.sense k = s.sense k) (demands : s.limits.sameDemands u.limits)
    (iso : (u.eng k).isoRequest = (s.eng k).isoRequest) : u.admits k = s.admits k := by
  obtain ⟨inhibit, stop, -⟩ := demands
  rw [Bool.eq_iff_iff, State.admits_iff, State.admits_iff]
  simp only [State.startAllowed, State.atRest, State.valid_congr cfs, State.writing_congr cfs, State.runLine,
    State.emergency, State.level, lic, inhibit, stop, iso, sense, State.cfg_congr cfs]

/-- The speed at which an engine counts as at rest: the selected pickup below the stopped threshold, or both SILENT. -/
theorem State.atRest_iff (s : State) (k : Engine) {p : PickupState}
    (selected : p = if (s.sense k).selection = .a then (s.sense k).a else (s.sense k).b) : s.atRest k = true ↔
    (∃ v sat, p.reading = .good v sat ∧ v < s.cfg.thresholds.stopped) ∨
      (p.reading = .silent ∧ (0 < s.cfg.thresholds.stopped ∨
        ((s.sense k).a.reading = .silent ∧ (s.sense k).b.reading = .silent))) := by
  have pickup : (s.sense k).pickup (s.sense k).selection = p := by
    rw [selected]
    cases (s.sense k).selection <;> rfl
  have silent (v : Nat) (sat : Bool) (h : p.reading = .good v sat) : (s.sense k).bothSilent = false := by
    cases hs : (s.sense k).selection <;> simp_all [Sensing.bothSilent]
  unfold State.atRest Sensing.selected
  rw [pickup]
  cases hp : p.reading with
  | notMeasured => simp [Reading.speed]
  | silent => simp [Reading.speed, Sensing.bothSilent]
  | good v sat => simp [Reading.speed, silent v sat hp]

/-! ## What a start keeps handed -/

theorem State.enter_keepsHanded (s : State) (k : Engine) (new : EState) (c : List CountedEvent)
    (f : EngineRec → EngineRec) : eventsKept s.handed (s.enter k new c f).handed :=
  fun e he other => s.enter_handed k new c f e (List.mem_append_left _ he) other

theorem State.admitStart_keepsHanded (s : State) (k : Engine) (reason : StartReason) :
    eventsKept s.handed (s.admitStart k reason).handed := by
  have enters : eventsKept s.handed (s.toPrelube k reason).handed :=
    s.enter_keepsHanded k .prelube [] fun r => r.starting reason s.cfg.timing.attempts
  rw [State.admitStart_eq]
  split
  · unfold State.prelubeStep
    split
    · refine eventsKept_trans enters (eventsKept_of_prefix ?_)
      rw [((s.toPrelube k reason).hold_changes k).2.2.2.2 .handed (by simp)]
    · exact eventsKept_trans enters ((s.toPrelube k reason).enter_keepsHanded k _ _ _)
  · exact enters

/-- What a start leaves of the engine's record. -/
theorem State.admitStart_keeps {s : State} {k : Engine} (reason : StartReason) (rest : (s.eng k).state = .stopped) :
    ((s.admitStart k reason).eng k).tripCause = (s.eng k).tripCause ∧
      ((s.admitStart k reason).eng k).isoRequest = (s.eng k).isoRequest ∧
      ((s.admitStart k reason).eng k).isoSeen = (s.eng k).isoSeen ∧
      ((s.admitStart k reason).eng k).stopTimer = none := by
  have record := (s.toPrelube_changes (reason := reason) rest).1
  rw [State.admitStart_eq]
  split
  · unfold State.prelubeStep
    split
    · rw [((s.toPrelube k reason).hold_changes k).1, record]
      exact ⟨rfl, rfl, rfl, rfl⟩
    · rw [(State.enterCrankWait_joins (s := s.toPrelube k reason) (by rw [record]; nofun) (by rw [record]; nofun)).1,
        record]
      exact ⟨rfl, rfl, rfl, rfl⟩
  · rw [record]
    exact ⟨rfl, rfl, rfl, rfl⟩

/-! ## Starts offered -/

theorem State.takeStart_admitted {s : State} {k : Engine} {reason : StartReason} (rest : (s.eng k).state = .stopped)
    (admits : s.admits k = true) : s.takeStart k reason = s.admitStart k reason := if_pos ⟨rest, admits⟩

theorem State.takeStart_dropped {s : State} {k : Engine} {reason : StartReason}
    (h : (s.eng k).state ≠ .stopped ∨ s.admits k = false) : s.takeStart k reason = s := by
  refine if_neg fun ⟨rest, admits⟩ => ?_
  obtain h | h := h
  · exact h rest
  · rw [admits] at h
    cases h

theorem State.runDemandStart_starts {s : State} {k : Engine} (fitted : s.fitted k = true)
    (rest : (s.eng k).state = .stopped) (demand : s.limits.run.get k = true) (admits : s.admits k = true) :
    s.runDemandStart k = s.admitStart k .runDemand := by
  rw [State.runDemandStart, fitted, demand]
  exact State.takeStart_admitted rest admits

theorem State.runDemandStart_idle {s : State} {k : Engine} (h : s.fitted k = false ∨ (s.eng k).state ≠ .stopped ∨
    s.limits.run.get k = false ∨ s.admits k = false) : s.runDemandStart k = s := by
  unfold State.runDemandStart
  split
  next offered =>
    obtain ⟨fitted, demand⟩ := Bool.and_eq_true_iff.mp offered
    rw [fitted, demand] at h
    exact State.takeStart_dropped (by simpa using h)
  next => rfl

theorem State.runDemandStart_offers (s : State) (k : Engine) : s.offersRunDemand (s.runDemandStart k) k := by
  refine ⟨fun fitted rest demand admits => ?_, fun h => State.runDemandStart_idle h⟩
  rw [State.runDemandStart_starts fitted rest demand admits]
  obtain ⟨starts, -, -, frame⟩ := State.admitStart_changes (reason := .runDemand) rest
  exact ⟨starts, frame.mono (by simp [engineParts])⟩

theorem State.runDemandStart_onlyChanges (s : State) (k : Engine) :
    s.onlyChanges (s.runDemandStart k) [.sense k, .engine k, .car, .notices, .handed] := by
  by_cases starts : s.fitted k = true ∧ (s.eng k).state = .stopped ∧ s.limits.run.get k = true ∧ s.admits k = true
  · obtain ⟨fitted, rest, demand, admits⟩ := starts
    rw [State.runDemandStart_starts fitted rest demand admits]
    exact (State.admitStart_changes rest).2.2.2
  · rw [State.runDemandStart_idle (by simpa only [not_and_or, Bool.not_eq_true] using starts)]
    exact s.onlyChanges_refl _

theorem State.runDemandStart_keepsHanded (s : State) (k : Engine) :
    eventsKept s.handed (s.runDemandStart k).handed := by
  unfold State.runDemandStart State.takeStart
  split
  · split
    · exact s.admitStart_keepsHanded k _
    · exact eventsKept_of_prefix (List.prefix_refl _)
  · exact eventsKept_of_prefix (List.prefix_refl _)

/-! ## Coming to rest (R91, R107, R113, R117) -/

/-- The record of an engine that comes to rest. -/
def EngineRec.rested (r : EngineRec) (iso : Bool) : EngineRec :=
  { r.cleared with tripCause := none, isoSeen := iso, state := if iso then .isolated else .stopped }

/-- The entry into STOPPED or ISOLATED, before a run demand is offered. -/
def State.rested (s : State) (k : Engine) (counted : List CountedEvent) : State :=
  s.enter k (if s.isoCond k then .isolated else .stopped) (counted ++ [.rest]) fun r =>
    { r.cleared with tripCause := none, isoSeen := s.isoCond k }

section

variable {s : State} {k : Engine}

theorem State.enterRest_eq (c : List CountedEvent) : s.enterRest k c =
    if s.isoCond k then s.rested k c else (s.rested k c).runDemandStart k := rfl

theorem State.endsWarmup_rested (iso : Bool) : EState.endsWarmup (if iso then .isolated else .stopped) = true := by
  cases iso <;> rfl

theorem State.rested_changes (s : State) (k : Engine) (c : List CountedEvent) :
    (s.rested k c).eng k = (s.eng k).rested (s.isoCond k) ∧ (s.rested k c).cli.notices.changed.get k = true ∧
      .counted k (c ++ [.rest]) ∈ (s.rested k c).handed ∧ (s.rested k c).stands .warmup k = false ∧
      s.supplyLeft (s.rested k c) k ∧ (∀ e ∈ s.limitsHanded s.limits (s.rested k c).limits, e ∈ (s.rested k c).handed) ∧
      (s.lineGood → (s.rested k c).lineGood) ∧ s.onlyChanges (s.rested k c) (engineParts k) := by
  refine ⟨(s.enter_eng k k _ _ _).trans (if_pos rfl), s.enter_changed .., s.enter_counted _ _ _ _ (by simp),
    s.enter_warmup _ _ _ _ (State.endsWarmup_rested _), s.enter_supplyLeft k _ _ ?_ ?_, s.enter_handsOn _ _ _ _,
    fun good => State.lineGood_enter ((State.lineGood_iff s).mp good).1, s.enter_onlyChanges _ _ _ _⟩
  · cases s.isoCond k <;> simp
  · cases s.isoCond k <;> simp

theorem State.rested_demands (good : s.tableGood) (c : List CountedEvent) :
    s.limits.sameDemands (s.rested k c).limits := State.enter_sameDemands good _ _ _ _

theorem State.rested_admits (good : s.tableGood) (c : List CountedEvent) : (s.rested k c).admits k = s.admits k := by
  obtain ⟨record, -, -, -, -, -, -, frame⟩ := s.rested_changes k c
  refine State.admits_congr (frame.cfs (by simp [engineParts])) (frame .lic (by simp [engineParts]))
    (frame.sense k (by simp [engineParts])) (State.rested_demands good c) ?_
  rw [record]
  rfl

/-- What an engine does that comes to rest, out of a state that keeps no place in the crank supply. -/
theorem State.enterRest_restsTo (good : s.tableGood) (fitted : s.fitted k = true)
    (out : (s.eng k).state.startPath = false) : s.restsTo (s.enterRest k []) k (s.admits k = true) ∧
      s.onlyChanges (s.enterRest k []) (.sense k :: engineParts k) ∧
      (s.isoCond k = true ∨ s.limits.run.get k = false →
        (s.enterRest k []).eng k = (s.eng k).rested (s.isoCond k) ∧ s.onlyChanges (s.enterRest k []) (engineParts k)) := by
  obtain ⟨record, changed, counted, warmup, left, handsOn, line, frame⟩ := s.rested_changes k []
  have admits := State.rested_admits (k := k) good []
  obtain ⟨inhibit, -, run⟩ := State.rested_demands (k := k) good []
  have eq := State.enterRest_eq (s := s) (k := k) []
  have kept : s.supplyKept (s.rested k []) :=
    left.2.2 (fun h => by rw [h] at out; cases out) fun h => by rw [h] at out; cases out
  have cause : ((s.rested k []).eng k).tripCause = none := by rw [record]; rfl
  have state : ((s.rested k []).eng k).state = if s.isoCond k then .isolated else .stopped := by rw [record]; rfl
  have stays (h : s.isoCond k = true ∨ s.limits.run.get k = false ∨ s.admits k = false) :
      s.enterRest k [] = s.rested k [] := by
    rw [eq]
    split
    · rfl
    next free =>
      refine State.runDemandStart_idle (.inr (.inr ?_))
      rw [run, admits]
      exact h.resolve_left free
  refine ⟨?_, ?_, fun h => ?_⟩
  · by_cases h : s.isoCond k = true ∨ s.limits.run.get k = false ∨ s.admits k = false
    · rw [stays h]
      refine ⟨counted, changed, cause, warmup, fun iso => ⟨by rw [state, iso]; rfl, kept⟩,
        fun iso _ => ⟨by rw [state, iso]; rfl, kept⟩, fun iso demand allowed => ?_⟩
      rw [iso, demand, allowed] at h
      simp at h
    · simp only [not_or, Bool.not_eq_true, Bool.not_eq_false] at h
      obtain ⟨iso, demand, allowed⟩ := h
      rw [iso] at state
      have rest : ((s.rested k []).eng k).state = .stopped := state
      have starts : s.enterRest k [] = (s.rested k []).admitStart k .runDemand := by
        rw [eq, iso]
        exact State.runDemandStart_starts (by rw [State.fitted_congr (frame.cfs (by simp [engineParts]))]; exact fitted)
          rest (by rw [run]; exact demand) (by rw [admits]; exact allowed)
      obtain ⟨started, -, up', frame'⟩ := State.admitStart_changes (reason := .runDemand) rest
      have handed := (s.rested k []).admitStart_keepsHanded k .runDemand
      rw [starts]
      have cause' := (State.admitStart_keeps .runDemand rest).1.trans cause
      have warmup' := (congrArg (fun t => (slotAt t (internalSlot .warmup k)).live) (frame'.table (by simp))).trans warmup
      refine ⟨handed _ counted (fun _ => nofun), started.2.2.2.2.1, cause', warmup', ?_, ?_, fun _ _ _ => ?_⟩
      · rw [iso]; nofun
      · rintro - (h | h)
        · rw [demand] at h; cases h
        · exact absurd allowed h
      · refine State.startsTo_source started (State.cfg_congr (frame.cfs (by simp [engineParts])))
          (frame .lic (by simp [engineParts])) (by rw [record]; rfl) inhibit kept line
          (State.wantsSupply_of_kept (k := k) kept (State.cfg_congr (frame.cfs (by simp [engineParts]))) (fun j other => frame (.engine j) (by simp [engineParts, other])) ?_)
          up'
        constructor <;> intro h <;> rw [h] at out <;> cases out
  · rw [eq]
    split
    · exact frame.mono (by simp)
    · exact (frame.mono (by simp)).trans ((State.runDemandStart_onlyChanges _ k).mono (by simp [engineParts]))
  · rw [stays (by tauto)]
    exact ⟨record, frame⟩

end

end Sys2Proof.Machine

namespace Sys2Proof.Machine

/-! ## A stop order on the start path (R91) -/

section

variable {s : State} {k : Engine} {reason : StopReason}

theorem State.takeStop_stopping (order : reason ≠ .shed)
    (state : (s.eng k).state = .cranking ∨ (s.eng k).state = .runup) :
    s.takeStop k reason = s.enterStopping k [.aborted] := by
  obtain state | state := state <;> simp [State.takeStop, order, state]

theorem State.takeStop_resting (order : reason ≠ .shed) (state : (s.eng k).state = .prelube ∨
    (s.eng k).state = .crankWait ∨ (s.eng k).state = .crankRest) : s.takeStop k reason = s.enterRest k [.aborted] := by
  obtain state | state | state := state <;> simp [State.takeStop, order, state]

theorem State.takeStop_online (state : (s.eng k).state = .online) (free : (s.eng k).stopPending = false)
    (order : reason ≠ .shed ∨ s.limits.run.get k = false) : s.takeStop k reason = s.pendStop k reason := by
  by_cases shed : reason = .shed
  · subst shed
    have run : s.limits.run.get k = false := order.resolve_left (by simp)
    simp [State.takeStop, EngineRec.inO, state, free, run]
  · simp [State.takeStop, shed, state, free]

theorem State.takeStop_stopped (order : reason ≠ .shed) (state : ((s.eng k).state = .online ∧
    (s.eng k).stopPending = true) ∨ (s.eng k).state = .cooldown) : s.takeStop k reason = s.restateStop k reason := by
  obtain ⟨state, pending⟩ | state := state
  · simp [State.takeStop, order, state, pending]
  · simp [State.takeStop, order, state]

theorem State.takeStop_idle (order : reason ≠ .shed) (state : (s.eng k).state = .stopping ∨
    (s.eng k).state = .stopped ∨ (s.eng k).state = .isolated ∨ (s.eng k).state = .tripped) :
    s.takeStop k reason = s := by
  obtain state | state | state | state := state <;> simp [State.takeStop, order, state]

theorem State.takeShed_idle (state : (s.eng k).state ≠ .online ∨ (s.eng k).stopPending = true ∨
    s.limits.run.get k = true) : s.takeStop k .shed = s := by
  unfold State.takeStop
  rw [if_pos rfl]
  refine if_neg ?_
  rintro ⟨inO, run⟩
  simp only [EngineRec.inO, Bool.and_eq_true, decide_eq_true_eq, Bool.not_eq_true'] at inO
  obtain h | h | h := state
  · exact h inO.1
  · rw [inO.2] at h
    cases h
  · rw [run] at h
    cases h

theorem State.rested_abortsTo (state : (s.eng k).state = .prelube ∨ (s.eng k).state = .crankWait ∨
    (s.eng k).state = .crankRest) : s.abortsTo (s.rested k [.aborted]) k := by
  obtain ⟨record, changed, counted, warmup, left, handsOn, -, -⟩ := s.rested_changes k [.aborted]
  refine ⟨left, handsOn, fun other => ?_, fun _ => ?_⟩
  · obtain h | h | h := state <;> rw [h] at other <;> simp at other
  · rw [record]
    exact ⟨rfl, rfl, rfl, rfl, rfl, rfl, rfl, rfl, changed, warmup, counted⟩

theorem State.enterStopping_abortsTo (state : (s.eng k).state = .cranking ∨ (s.eng k).state = .runup) :
    s.abortsTo (s.enterStopping k [.aborted]) k := by
  obtain ⟨record, changed, warmup, left, handsOn, -⟩ := s.enterStopping_stopsTo k [.aborted]
  refine ⟨left, handsOn, fun _ => ⟨record, s.enter_counted _ _ _ _ (by simp), changed, warmup⟩, fun other => ?_⟩
  obtain h | h := state <;> rw [h] at other <;> simp at other

/-- A stop order on the start path that no run demand undoes. -/
theorem State.takeStop_aborts (good : s.tableGood) (order : reason ≠ .shed) (path : (s.eng k).state.startPath = true)
    (stays : (s.eng k).state = .cranking ∨ (s.eng k).state = .runup ∨ s.isoCond k = true ∨
      s.limits.run.get k = false ∨ s.admits k = false) :
    s.abortsTo (s.takeStop k reason) k ∧ s.onlyChanges (s.takeStop k reason) (engineParts k) := by
  by_cases running : (s.eng k).state = .cranking ∨ (s.eng k).state = .runup
  · rw [State.takeStop_stopping order running]
    exact ⟨State.enterStopping_abortsTo running, (s.enterStopping_stopsTo k _).2.2.2.2.2⟩
  · have state : (s.eng k).state = .prelube ∨ (s.eng k).state = .crankWait ∨ (s.eng k).state = .crankRest := by
      cases hs : (s.eng k).state <;> simp_all [EState.startPath]
    obtain ⟨-, -, -, -, -, -, -, frame⟩ := s.rested_changes k [.aborted]
    have rests : s.takeStop k reason = s.rested k [.aborted] := by
      rw [State.takeStop_resting order state, State.enterRest_eq]
      split
      · rfl
      next free =>
        refine State.runDemandStart_idle (.inr (.inr ?_))
        rw [(State.rested_demands good _).2.2, State.rested_admits good]
        simp_all
    rw [rests]
    exact ⟨State.rested_abortsTo state, frame⟩

/-- A stop order on the start path after which a run demand in force starts the engine again (R72, R91). -/
theorem State.takeStop_abortsAndStarts (good : s.tableGood) (fitted : s.fitted k = true) (order : reason ≠ .shed)
    (state : (s.eng k).state = .prelube ∨ (s.eng k).state = .crankWait ∨ (s.eng k).state = .crankRest)
    (demand : s.limits.run.get k = true) (admits : s.admits k = true) :
    s.abortsAndStarts (s.takeStop k reason) k [] ∧
      s.onlyChanges (s.takeStop k reason) (.sense k :: engineParts k) := by
  obtain ⟨record, changed, counted, warmup, left, handsOn, line, frame⟩ := s.rested_changes k [.aborted]
  have iso : s.isoCond k = false := by
    obtain ⟨-, -, -, -, -, -, level, request⟩ := ((s.admits_iff k).mp admits).1
    simpa [State.isoCond, State.level, State.eng, Lines.get] using ⟨level, request⟩
  have rest : ((s.rested k [.aborted]).eng k).state = .stopped := by rw [record, iso]; rfl
  have starts : s.takeStop k reason = (s.rested k [.aborted]).admitStart k .runDemand := by
    rw [State.takeStop_resting order state, State.enterRest_eq, iso]
    refine State.runDemandStart_starts ?_ rest ?_ ?_
    · rw [State.fitted_congr (frame.cfs (by simp [engineParts]))]
      exact fitted
    · rw [(State.rested_demands good _).2.2]
      exact demand
    · rw [State.rested_admits good]
      exact admits
  obtain ⟨started, -, -, frame'⟩ := State.admitStart_changes (reason := .runDemand) rest
  have handed := (s.rested k [.aborted]).admitStart_keepsHanded k .runDemand
  rw [starts]
  refine ⟨⟨handed _ counted (fun _ => nofun), fun e he => ?_, s.rested k [.aborted], State.rested_abortsTo state, frame,
    line, started, frame'.mono (by simp [engineParts])⟩,
    (frame.mono (by simp)).trans (frame'.mono (by simp [engineParts]))⟩
  rw [show ((s.rested k [.aborted]).admitStart k .runDemand).limits = _ from frame' .limits (by simp)] at he
  exact handed e (handsOn e he) (State.limitsHanded_noSag he)

/-- A stop become pending: no load at once (R98, R101). -/
theorem State.pendStop_changes (s : State) (k : Engine) (reason : StopReason) :
    (s.pendStop k reason).eng k = { s.eng k with stopPending := true, stopReason := some reason } ∧
      (s.pendStop k reason).loadLimit k = 0 ∧ .replan (.engine true) ∈ (s.pendStop k reason).handed ∧
      s.onlyChanges (s.pendStop k reason) [.engine k, .handed] := by
  have record : (s.pendStop k reason).eng k = { s.eng k with stopPending := true, stopReason := some reason } :=
    s.eng_setEng_self k _
  refine ⟨record, ?_, by simp [State.pendStop], ?_⟩
  · unfold State.loadLimit State.loadLimitOf EngineRec.pairInUse EngineRec.inO
    rw [record]
    simp
  · exact ((s.modEng_onlyChanges k _).mono (by simp)).trans ((State.emit_onlyChanges _ _).mono (by simp))

theorem State.restateStop_changes (shed : (s.eng k).stopReason = some .shed) (order : reason ≠ .shed) :
    (s.restateStop k reason).eng k = { s.eng k with stopReason := some reason } ∧
      s.onlyChanges (s.restateStop k reason) [.engine k] := by
  have restates : s.restateStop k reason = s.modEng k fun r => { r with stopReason := some reason } :=
    if_pos ⟨shed, order⟩
  rw [restates]
  exact ⟨s.eng_setEng_self k _, s.modEng_onlyChanges k _⟩

theorem State.restateStop_idle (stronger : (s.eng k).stopReason ≠ some .shed) : s.restateStop k reason = s :=
  if_neg fun h => stronger h.1

end

end Sys2Proof.Machine

namespace Sys2Proof.Machine

/-! ## The answer beside what the owner leaves -/

/-- A request taken for an engine: beside the link and the answer, in which the notice flags stay, the state is the one its
owner leaves. -/
theorem State.servedFor_cli {s u : State} {c : Instr} {engine : Byte} {k : Engine}
    (act : Engine → State → State × Reply) {status : Status} {payload : List Byte} {ps : List Part}
    (takes : s.takesFor c engine k = true) (does : act k s = (u, ⟨status, payload⟩)) (frame : s.onlyChanges u ps)
    (link : .link ∉ ps) :
    ∃ x : Cli, x.notices = u.cli.notices ∧ (s.serveCommand c fun t => t.forEngine engine act) = u.setCli x ∧
      s.answers (u.setCli x) c status payload ∧ s.onlyChanges (u.setCli x) (ps ++ answerParts) := by
  obtain ⟨answers, total, -⟩ := State.servedFor act takes does frame link
  obtain ⟨taken, field, fitted⟩ := (s.takesFor_iff _ _ _).mp takes
  obtain ⟨r, -, ⟨-, served⟩ | ⟨-, served⟩⟩ := s.serveCommand_of_takes c (fun t => t.forEngine engine act) taken
  · rw [State.forEngine_of field fitted act, does] at served
    rw [served] at answers total ⊢
    exact ⟨(u.respond r ⟨status, payload⟩).cli, rfl, rfl, answers, total⟩
  · rw [State.forEngine_of field fitted act, does] at served
    rw [served] at answers total ⊢
    exact ⟨(u.setAnswer r ⟨status, payload⟩ false).cli, rfl, rfl, answers, total⟩

section

variable {s u : State} {k : Engine} {x : Cli}

theorem State.startsTo_cli {reason : StartReason} (notices : x.notices = u.cli.notices)
    (h : s.startsTo u k reason) : s.startsTo (u.setCli x) k reason := by
  obtain ⟨why, attempts, last, warmed, changed, rest⟩ := h
  exact ⟨why, attempts, last, warmed, (congrArg (fun n => n.changed.get k) notices).trans changed, rest⟩

theorem State.restsTo_cli {admitted : Prop} (notices : x.notices = u.cli.notices) (h : s.restsTo u k admitted) :
    s.restsTo (u.setCli x) k admitted := by
  obtain ⟨counted, changed, cause, warmup, isolated, stopped, starts⟩ := h
  exact ⟨counted, (congrArg (fun n => n.changed.get k) notices).trans changed, cause, warmup, isolated, stopped,
    fun iso demand allowed => State.startsTo_cli notices (starts iso demand allowed)⟩

theorem State.abortsTo_cli (notices : x.notices = u.cli.notices) (h : s.abortsTo u k) : s.abortsTo (u.setCli x) k := by
  obtain ⟨left, handsOn, stopping, resting⟩ := h
  have flag : (u.setCli x).cli.notices.changed.get k = u.cli.notices.changed.get k :=
    congrArg (fun n => n.changed.get k) notices
  refine ⟨left, handsOn, fun state => ?_, fun state => ?_⟩
  · obtain ⟨record, counted, changed, warmup⟩ := stopping state
    exact ⟨record, counted, flag.trans changed, warmup⟩
  · obtain ⟨state, why, held, pending, attempts, last, prelube, rest, changed, warmup, counted⟩ := resting state
    exact ⟨state, why, held, pending, attempts, last, prelube, rest, flag.trans changed, warmup, counted⟩

theorem State.setCli_onlyChanges (notices : x.notices = u.cli.notices) : u.onlyChanges (u.setCli x) answerParts := by
  simp [State.onlyChanges_iff, Part.same, State.eng, State.sense, State.dutyOf, answerParts, notices]

theorem State.abortsAndStarts_cli (notices : x.notices = u.cli.notices) (h : s.abortsAndStarts u k []) :
    s.abortsAndStarts (u.setCli x) k answerParts := by
  obtain ⟨counted, handsOn, m, aborts, frame, line, starts, frame'⟩ := h
  exact ⟨counted, handsOn, m, aborts, frame, line, State.startsTo_cli notices starts,
    (frame'.mono (by simp)).trans ((State.setCli_onlyChanges notices).mono (by simp))⟩

end

/-! ## Start orders -/

theorem State.start_refused {s : State} {k : Engine} {status : Status} (h : s.start k = (s, .bare status)) {c : Caller}
    {e : Byte} (takes : s.takesFor (.start c e) e k = true) :
    ∃ t, exec (.start c e) s = .next t ∧ s.answers t (.start c e) status [] ∧ s.onlyChanges t answerParts := by
  obtain ⟨answers, frame⟩ := State.servedFor_idle (fun k u => u.start k) takes h
  exact ⟨_, rfl, answers, frame⟩

/-- Settles O27. -/
theorem startAnsweredByState : Obligations.StartAnsweredByState := by
  intro s c e k takes
  refine ⟨fun writing => State.start_refused ?_ takes, fun free state => State.start_refused ?_ takes,
    fun free state => State.start_refused ?_ takes⟩
  · simp [State.start, writing]
  · obtain path | ⟨online, running⟩ := state
    · cases hs : (s.eng k).state <;> simp_all [State.start, EState.startPath]
    · simp [State.start, free, online, running]
  · obtain ⟨rest, refused⟩ | rest | rest | rest | ⟨stronger, rest | ⟨online, pending⟩⟩ := state
    · simp [State.start, free, rest, refused]
    · simp [State.start, free, rest]
    · simp [State.start, free, rest]
    · simp [State.start, free, rest]
    · simp [State.start, free, rest, stronger]
    · simp [State.start, free, online, pending, stronger]

/-- Settles O26. -/
theorem admissionEntersPrelube : Obligations.AdmissionEntersPrelube := by
  refine ⟨fun s k cmd reason more rest admits row => ?_, fun s k p selected => ?_⟩
  · obtain ⟨c, e, rfl, takes, free, rfl, rfl⟩ | ⟨pre, post, rfl, awake, fitted, rfl, handed, oldest⟩ := row
    · obtain ⟨starts, -, -, frame⟩ := State.admitStart_changes (reason := .request) rest
      have does : s.start k = (s.admitStart k .request, ⟨.ok, []⟩) := by
        simp [State.start, free, rest, admits, Reply.bare]
      obtain ⟨x, notices, served, answers, total⟩ := State.servedFor_cli (fun k u => u.start k) takes does frame (by simp)
      refine ⟨_, congrArg Host.Outcome.next served, State.startsTo_cli notices starts, ?_, total⟩
      rintro c' e' h
      exact answers
    · let u := s.setHanded (pre ++ post)
      have rest' : (u.eng k).state = .stopped := rest
      obtain ⟨starts, -, -, frame⟩ := State.admitStart_changes (reason := reason) rest'
      exact ⟨_, (exec_startOrderTaken awake fitted handed oldest).trans
        (congrArg Host.Outcome.next (State.takeStart_admitted rest' admits)), starts, nofun,
        State.onlyChanges_after frame (by simp)⟩
  · rw [State.admits_iff, State.atRest_iff s k selected]
    simp only [State.startAllowed, and_assoc]

/-! ## Recalls -/

/-- What a recall does to a SHED stop pending and to a SHED cooldown (R54, R105). -/
theorem State.takeRecall_changes {s : State} {k : Engine} (shed : (s.eng k).stopReason = some .shed) :
    ((s.eng k).state = .online → (s.eng k).stopPending = true →
      (s.takeRecall k).eng k = { s.eng k with stopPending := false, stopReason := none } ∧
        .replan (.engine true) ∈ (s.takeRecall k).handed ∧ (s.takeRecall k).cli.notices = s.cli.notices ∧
        s.onlyChanges (s.takeRecall k) [.engine k, .handed]) ∧
    ((s.eng k).state = .cooldown → (s.takeRecall k).eng k = { (s.eng k).noTimers with
        state := .online, stopPending := false, stopReason := none, notch := 0, setpoint := s.enRpm 0, settled := true
        settledTime := some 0 } ∧
      (s.takeRecall k).cli.notices.changed.get k = true ∧ s.supplyKept (s.takeRecall k) ∧
      s.onlyChanges (s.takeRecall k) [.engine k, .car, .notices, .handed]) := by
  refine ⟨fun online pending => ?_, fun cooldown => ?_⟩
  · have does : s.takeRecall k = (s.modEng k fun r => { r with stopPending := false, stopReason := none }).emit
        (.replan (.engine true)) := by
      simp [State.takeRecall, shed, online, pending]
    rw [does]
    exact ⟨s.eng_setEng_self k _, by simp, rfl,
      ((s.modEng_onlyChanges k _).mono (by simp)).trans ((State.emit_onlyChanges _ _).mono (by simp))⟩
  · have does : s.takeRecall k = s.enter k .online [] fun r => { r.noTimers with
        stopPending := false, stopReason := none, notch := 0, setpoint := s.enRpm 0, settled := true
        settledTime := some 0 } := by
      simp [State.takeRecall, shed, cooldown]
    rw [does]
    exact ⟨(s.enter_eng k k .online [] _).trans (if_pos rfl), s.enter_changed .., s.enter_supplyKept k [] _ (by simp)
      (.inl (by rw [cooldown]; nofun)) (by rw [cooldown]; nofun), s.enter_onlyChanges_of_stays k .online [] _ rfl⟩

/-- Settles O28. -/
theorem recallCancelsShed : Obligations.RecallCancelsShed := by
  intro s k cmd more shed row
  obtain ⟨pending, cooldown⟩ := State.takeRecall_changes shed
  obtain ⟨c, e, rfl, takes, free, rfl⟩ | ⟨pre, post, rfl, awake, fitted, rfl, handed, oldest⟩ := row
  · refine ⟨fun online stop => ?_, fun cool => ?_⟩
    · obtain ⟨record, replan, notices, frame⟩ := pending online stop
      have does : s.start k = (s.takeRecall k, ⟨.ok, []⟩) := by
        simp [State.start, free, online, stop, shed, Reply.bare]
      obtain ⟨x, flags, served, -, total⟩ := State.servedFor_cli (fun k u => u.start k) takes does frame (by simp)
      exact ⟨_, congrArg Host.Outcome.next served, record, replan, flags.trans notices, total⟩
    · obtain ⟨record, changed, kept, frame⟩ := cooldown cool
      have does : s.start k = (s.takeRecall k, ⟨.ok, []⟩) := by
        simp [State.start, free, cool, shed, Reply.bare]
      obtain ⟨x, flags, served, -, total⟩ := State.servedFor_cli (fun k u => u.start k) takes does frame (by simp)
      have record' : ((s.takeRecall k).setCli x).eng k = _ := record
      refine ⟨_, congrArg Host.Outcome.next served, ?_⟩
      rw [record']
      exact ⟨rfl, rfl, rfl, rfl, rfl, rfl, rfl, rfl, rfl, (congrArg (fun n => n.changed.get k) flags).trans changed, kept,
        total⟩
  · have next := exec_recall awake fitted handed oldest
    obtain ⟨pending, cooldown⟩ := State.takeRecall_changes (s := s.setHanded (pre ++ post)) shed
    refine ⟨fun online stop => ?_, fun cool => ?_⟩
    · obtain ⟨record, replan, notices, frame⟩ := pending online stop
      exact ⟨_, next, record, replan, notices, State.onlyChanges_after frame (by simp)⟩
    · obtain ⟨record, changed, kept, frame⟩ := cooldown cool
      refine ⟨_, next, ?_⟩
      rw [record]
      exact ⟨rfl, rfl, rfl, rfl, rfl, rfl, rfl, rfl, rfl, changed, kept, State.onlyChanges_after frame (by simp)⟩

/-! ## Stop orders -/

/-- A stop order reaches an engine: a STOP served, or one handed. -/
def State.stopArrives (s : State) (cmd : Instr) (k : Engine) (reason : StopReason) (more : List Part) : Prop :=
  (∃ c e, cmd = .stop c e ∧ s.takesFor cmd e k = true ∧ reason = .request ∧ more = .handed :: answerParts) ∨
    (∃ pre post, cmd = .stopOrderTaken k ∧ s.awake = true ∧ s.fitted k = true ∧ more = [.handed] ∧
      s.handed = pre ++ .stopOrder k reason :: post ∧ ∀ x, .stopOrder k x ∉ pre)

/-- A stop order that reaches an engine is taken by it, from a state that differs in the events handed at the most. -/
theorem State.stopArrives.taken {s : State} {cmd : Instr} {k : Engine} {reason : StopReason} {more : List Part}
    (h : s.stopArrives cmd k reason more) : ∃ x : List Event, ∀ ps, .link ∉ ps →
      (s.setHanded x).onlyChanges ((s.setHanded x).takeStop k reason) ps →
      ∃ t, exec cmd s = .next t ∧ t.eng k = ((s.setHanded x).takeStop k reason).eng k ∧
        t.loadLimit k = ((s.setHanded x).takeStop k reason).loadLimit k ∧
        t.cli.notices = ((s.setHanded x).takeStop k reason).cli.notices ∧
        t.handed = ((s.setHanded x).takeStop k reason).handed ∧ s.onlyChanges t (ps ++ more) := by
  obtain ⟨c, e, rfl, takes, rfl, rfl⟩ | ⟨pre, post, rfl, awake, fitted, rfl, handed, oldest⟩ := h
  · refine ⟨s.handed, fun ps link frame => ?_⟩
    obtain ⟨x, notices, served, -, total⟩ := State.servedFor_cli (fun k u => u.stop k) takes rfl frame link
    exact ⟨_, congrArg Host.Outcome.next served, rfl, rfl, notices, rfl,
      total.mono (List.append_subset.mpr ⟨List.subset_append_left _ _, by simp⟩)⟩
  · refine ⟨pre ++ post, fun ps link frame => ⟨_, exec_stopOrderTaken awake fitted handed oldest, rfl, rfl, rfl, rfl, ?_⟩⟩
    exact State.onlyChanges_after (frame.mono (List.subset_append_left _ _)) (by simp)

/-- Settles O29. -/
theorem stopOrderOnRunningEngine : Obligations.StopOrderOnRunningEngine := by
  intro s k cmd reason more row
  obtain ⟨x, taken⟩ := State.stopArrives.taken row
  have idle (none : (s.setHanded x).takeStop k reason = s.setHanded x) :
      ∃ t, exec cmd s = .next t ∧ s.onlyChanges t more := by
    obtain ⟨t, next, -, -, -, -, frame⟩ := taken [] (by simp) (by rw [none]; exact State.onlyChanges_refl _ _)
    exact ⟨t, next, frame⟩
  refine ⟨fun c e stop => ?_, fun online free order => ?_, fun state shed order => ?_, fun shed state => idle ?_,
    fun state stronger => idle ?_⟩
  · subst stop
    obtain ⟨c', e', same, takes, -, -⟩ | ⟨pre, post, other, -⟩ := row
    · obtain ⟨rfl, rfl⟩ := Instr.stop.inj same
      obtain ⟨takes, field, fitted⟩ := (s.takesFor_iff _ _ _).mp takes
      have own := State.forEngine_of field fitted fun k u => u.stop k
      have link := (Moves.takeStop (s := s) .request fitted).link
      refine ⟨_, rfl, ?_⟩
      have answers := s.serveCommand_answers (.stop c e) (fun t => t.forEngine e fun k u => u.stop k) takes
      rw [own] at answers
      exact answers link.2.2.2.2.1
    · cases other
  · have does := State.takeStop_online (s := s.setHanded x) (reason := reason) online free order
    obtain ⟨record, limit, replan, frame⟩ := (s.setHanded x).pendStop_changes k reason
    rw [does] at taken
    obtain ⟨t, next, eng, load, notices, handed, total⟩ := taken _ (by simp) frame
    refine ⟨t, next, eng.trans record, load.trans limit, notices.trans (frame .notices (by simp)), by rw [handed]; exact replan,
      total.mono ?_⟩
    obtain ⟨_, _, -, -, -, rfl⟩ | ⟨_, _, -, -, -, rfl, -⟩ := row <;> simp
  · have does := State.takeStop_stopped (s := s.setHanded x) order state
    obtain ⟨record, frame⟩ := State.restateStop_changes (s := s.setHanded x) shed order
    rw [does] at taken
    obtain ⟨t, next, eng, -, -, -, total⟩ := taken _ (by simp) frame
    exact ⟨t, next, eng.trans record, total⟩
  · rw [shed]
    exact State.takeShed_idle state
  · by_cases shed : reason = .shed
    · subst shed
      refine State.takeShed_idle ?_
      obtain ⟨-, pending⟩ | h | h | h | h | h := state
      · exact .inr (.inl pending)
      all_goals exact .inl (by rw [show ((s.setHanded x).eng k).state = _ from h]; nofun)
    · obtain running | rest := or_assoc.mpr state
      · exact (State.takeStop_stopped (s := s.setHanded x) shed running).trans (State.restateStop_idle stronger)
      · exact State.takeStop_idle (s := s.setHanded x) shed rest

/-- Settles O30. -/
theorem stopEndsStartPath : Obligations.StopEndsStartPath := by
  intro s c e k takes good
  obtain ⟨-, -, fitted⟩ := (s.takesFor_iff _ _ _).mp takes
  have aborts (path : (s.eng k).state.startPath = true) (stays : (s.eng k).state = .cranking ∨
      (s.eng k).state = .runup ∨ s.isoCond k = true ∨ s.limits.run.get k = false ∨ s.admits k = false) :
      ∃ t, exec (.stop c e) s = .next t ∧ s.abortsTo t k ∧ s.answers t (.stop c e) .ok [] ∧
        s.onlyChanges t (engineParts k ++ answerParts) := by
    obtain ⟨done, frame⟩ := State.takeStop_aborts (reason := .request) good (by simp) path stays
    obtain ⟨x, notices, served, answers, total⟩ :=
      State.servedFor_cli (fun k u => u.stop k) takes rfl frame (by simp [engineParts])
    exact ⟨_, congrArg Host.Outcome.next served, State.abortsTo_cli notices done, answers, total⟩
  refine ⟨fun state => aborts (by obtain h | h := state <;> rw [h] <;> rfl) (by tauto), fun state =>
    ⟨fun stays => aborts (by obtain h | h | h := state <;> rw [h] <;> rfl) (by tauto), fun demand admits => ?_⟩⟩
  obtain ⟨done, frame⟩ := State.takeStop_abortsAndStarts (reason := .request) good fitted (by simp) state demand admits
  obtain ⟨x, notices, served, answers, total⟩ :=
    State.servedFor_cli (fun k u => u.stop k) takes rfl frame (by simp [engineParts])
  exact ⟨_, congrArg Host.Outcome.next served, State.abortsAndStarts_cli notices done, answers, total⟩

end Sys2Proof.Machine

namespace Sys2Proof.Machine

/-! ## Records and frames -/

theorem State.setEng_setEng (s : State) (k : Engine) (r r' : EngineRec) : (s.setEng k r).setEng k r' = s.setEng k r' := by
  cases k <;> rfl

/-- With no engine's counters and nothing of the saves changed, the Duty Counters are the same. -/
theorem State.onlyChanges.dct {s t : State} {ps : List Part} (h : s.onlyChanges t ps) (duty : ∀ k, .duty k ∉ ps)
    (saves : .saves ∉ ps) : t.dct = s.dct := by
  obtain ⟨queue, writing, store⟩ : Part.saves.same s t := h .saves saves
  have records : t.dct.duty = s.dct.duty := PerEngine.eq_of_get _ _ fun k => h (.duty k) (duty k)
  cases hs : s.dct
  cases ht : t.dct
  rw [hs, ht] at queue writing store records
  cases queue; cases writing; cases store; cases records
  rfl

theorem State.onlyChanges.eng {s t : State} {ps : List Part} (h : s.onlyChanges t ps) (k : Engine)
    (out : .engine k ∉ ps) : t.eng k = s.eng k := h (.engine k) out

/-! ## The isolation request flag is the requests' own -/

section

variable {s : State} {k : Engine}

theorem State.runDemandStart_isoFlags (s : State) (k : Engine) :
    ((s.runDemandStart k).eng k).isoRequest = (s.eng k).isoRequest ∧
      ((s.runDemandStart k).eng k).isoSeen = (s.eng k).isoSeen := by
  by_cases starts : s.fitted k = true ∧ (s.eng k).state = .stopped ∧ s.limits.run.get k = true ∧ s.admits k = true
  · obtain ⟨fitted, rest, demand, admits⟩ := starts
    rw [State.runDemandStart_starts fitted rest demand admits]
    obtain ⟨-, request, seen, -⟩ := State.admitStart_keeps .runDemand rest
    exact ⟨request, seen⟩
  · rw [State.runDemandStart_idle (by simpa only [not_and_or, Bool.not_eq_true] using starts)]
    exact ⟨rfl, rfl⟩

theorem State.enterRest_isoFlags (s : State) (k : Engine) (c : List CountedEvent) :
    ((s.enterRest k c).eng k).isoRequest = (s.eng k).isoRequest ∧ ((s.enterRest k c).eng k).isoSeen = s.isoCond k := by
  have record := (s.rested_changes k c).1
  rw [State.enterRest_eq]
  split
  · rw [record]
    exact ⟨rfl, rfl⟩
  · obtain ⟨request, seen⟩ := (s.rested k c).runDemandStart_isoFlags k
    rw [request, seen, record]
    exact ⟨rfl, rfl⟩

theorem State.enterRest_onlyChanges (s : State) (k : Engine) (c : List CountedEvent) :
    s.onlyChanges (s.enterRest k c) (.sense k :: engineParts k) := by
  obtain ⟨-, -, -, -, -, -, -, frame⟩ := s.rested_changes k c
  rw [State.enterRest_eq]
  split
  · exact frame.mono (by simp)
  · exact (frame.mono (by simp)).trans ((State.runDemandStart_onlyChanges _ k).mono (by simp [engineParts]))

/-- What every stop order keeps: the flags of the isolation condition, and the parts that are not the engine's. -/
def State.isoKept (s t : State) (k : Engine) : Prop :=
  (t.eng k).isoRequest = (s.eng k).isoRequest ∧ (t.eng k).isoSeen = (s.eng k).isoSeen ∧
    s.onlyChanges t (.sense k :: engineParts k)

theorem State.restateStop_isoKept {reason : StopReason} (order : reason ≠ .shed) :
    s.isoKept (s.restateStop k reason) k := by
  by_cases shed : (s.eng k).stopReason = some .shed
  · obtain ⟨record, frame⟩ := State.restateStop_changes shed order
    exact ⟨by rw [record], by rw [record], frame.mono (by simp [engineParts])⟩
  · rw [State.restateStop_idle shed]
    exact ⟨rfl, rfl, s.onlyChanges_refl _⟩

/-- A stop order other than SHED, where the condition last acted on is the present one. -/
theorem State.takeStop_isoKept {reason : StopReason} (order : reason ≠ .shed) (seen : (s.eng k).isoSeen = s.isoCond k) :
    s.isoKept (s.takeStop k reason) k := by
  cases state : (s.eng k).state
  case prelube | crankWait | crankRest =>
    rw [State.takeStop_resting order (by simp [state])]
    obtain ⟨request, seen'⟩ := s.enterRest_isoFlags k [.aborted]
    exact ⟨request, seen'.trans seen.symm, s.enterRest_onlyChanges k _⟩
  case cranking | runup =>
    obtain ⟨record, -, -, -, -, frame⟩ := s.enterStopping_stopsTo k [.aborted]
    rw [State.takeStop_stopping order (by simp [state])]
    exact ⟨by rw [record]; rfl, by rw [record]; rfl, frame.mono (by simp)⟩
  case cooldown =>
    rw [State.takeStop_stopped order (.inr state)]
    exact State.restateStop_isoKept order
  case stopping | stopped | isolated | tripped =>
    rw [State.takeStop_idle order (by simp [state])]
    exact ⟨rfl, rfl, s.onlyChanges_refl _⟩
  case online =>
    cases pending : (s.eng k).stopPending with
    | true =>
      rw [State.takeStop_stopped order (.inl ⟨state, pending⟩)]
      exact State.restateStop_isoKept order
    | false =>
      obtain ⟨record, -, -, frame⟩ := s.pendStop_changes k reason
      rw [State.takeStop_online state pending (.inl order)]
      exact ⟨by rw [record], by rw [record], frame.mono (by simp [engineParts])⟩

end

/-! ## Changes of the isolation condition (R115 to R117) -/

section

variable {s : State} {k : Engine}

theorem State.reviewIsolation_same (same : (s.eng k).isoSeen = s.isoCond k) : s.reviewIsolation k = s := if_pos same.symm

/-- The record with the isolation condition noted. -/
def State.isoNoted (s : State) (k : Engine) (iso : Bool) : State := s.setEng k { s.eng k with isoSeen := iso }

theorem State.isoNoted_isoCond (s : State) (k : Engine) (iso : Bool) : (s.isoNoted k iso).isoCond k = s.isoCond k := by
  cases k <;> rfl

theorem State.isoNoted_eng (s : State) (k : Engine) (iso : Bool) :
    (s.isoNoted k iso).eng k = { s.eng k with isoSeen := iso } := s.eng_setEng_self k _

theorem State.reviewIsolation_holds (iso : s.isoCond k = true) (seen : (s.eng k).isoSeen = false) :
    s.reviewIsolation k = if (s.eng k).state = .stopped then (s.isoNoted k true).enter k .isolated [.rest] id
      else (s.isoNoted k true).takeStop k .isolation := by
  unfold State.reviewIsolation
  simp [iso, seen]
  rfl

theorem State.reviewIsolation_clears (iso : s.isoCond k = false) (seen : (s.eng k).isoSeen = true) :
    s.reviewIsolation k = if (s.eng k).state = .isolated then (s.isoNoted k false).enterRest k []
      else (s.isoNoted k false).runDemandStart k := by
  unfold State.reviewIsolation
  simp [iso, seen]
  rfl

/-- The condition come to hold isolates a STOPPED engine and is a stop order to the others (R116). -/
theorem State.reviewIsolation_isolates (good : s.tableGood) (iso : s.isoCond k = true)
    (seen : (s.eng k).isoSeen = false) : (s.isoNoted k true).isolatesTo (s.reviewIsolation k) k [] ∧
      ((s.reviewIsolation k).eng k).isoSeen = true ∧
      ((s.reviewIsolation k).eng k).isoRequest = (s.eng k).isoRequest ∧
      s.onlyChanges (s.reviewIsolation k) (.sense k :: engineParts k) := by
  have noted : s.onlyChanges (s.isoNoted k true) [.engine k] := s.setEng_onlyChanges k _
  have record := s.isoNoted_eng k true
  have holds : (s.isoNoted k true).isoCond k = true := (s.isoNoted_isoCond k true).trans iso
  have does := State.reviewIsolation_holds iso seen
  have good' : (s.isoNoted k true).tableGood := good
  have state' : ((s.isoNoted k true).eng k).state = (s.eng k).state := by rw [record]
  rw [does, ← state']
  have request : ((s.isoNoted k true).eng k).isoRequest = (s.eng k).isoRequest := by rw [record]
  have seen' : ((s.isoNoted k true).eng k).isoSeen = true := by rw [record]
  rw [← request]
  generalize s.isoNoted k true = u at *
  by_cases state : (u.eng k).state = .stopped
  · rw [if_pos state]
    have enters := u.enter_eng k k .isolated [.rest] id
    rw [if_pos rfl] at enters
    have frame := u.enter_onlyChanges k .isolated [.rest] id
    have kept := u.enter_supplyKept k (new := .isolated) [.rest] id (by simp) (.inl (by rw [state]; nofun))
      (by rw [state]; nofun)
    refine ⟨⟨fun _ => ⟨enters, u.enter_changed .., u.enter_counted _ _ _ _ (by simp), u.enter_warmup _ _ _ _ rfl, kept,
      by simpa using frame⟩, ?_, ?_, ?_, ?_⟩, by rw [enters]; exact seen', by rw [enters]; rfl,
      (noted.mono (by simp [engineParts])).trans (frame.mono (by simp))⟩
    · rw [state]; nofun
    · rw [state]; nofun
    · rw [state]; simp
    · rw [state]; simp
  · rw [if_neg state]
    obtain ⟨request, seen'', frame⟩ := State.takeStop_isoKept (reason := .isolation) (by simp) (seen'.trans holds.symm)
    refine ⟨⟨fun h => absurd h state, fun path => ?_, fun online free => ?_, fun running => ⟨fun shed => ?_,
      fun stronger => ?_⟩, fun rest => ?_⟩, seen''.trans seen', request, (noted.mono (by simp [engineParts])).trans frame⟩
    · simpa using State.takeStop_aborts (reason := .isolation) good' (by simp) path (.inr (.inr (.inl holds)))
    · rw [State.takeStop_online online free (.inl (by simp))]
      exact u.pendStop_changes k .isolation
    · rw [State.takeStop_stopped (by simp) running]
      exact State.restateStop_changes shed (by simp)
    · rw [State.takeStop_stopped (by simp) running, State.restateStop_idle stronger]
      exact u.onlyChanges_refl _
    · rw [State.takeStop_idle (by simp) (by tauto)]
      exact u.onlyChanges_refl _

/-- The condition cleared brings an ISOLATED engine to rest and is an event of R72 (R117). -/
theorem State.reviewIsolation_returns (good : s.tableGood) (fitted : s.fitted k = true) (iso : s.isoCond k = false)
    (seen : (s.eng k).isoSeen = true) : (s.isoNoted k false).returnsTo (s.reviewIsolation k) k [] ∧
      ((s.reviewIsolation k).eng k).isoSeen = false ∧
      ((s.reviewIsolation k).eng k).isoRequest = (s.eng k).isoRequest ∧
      s.onlyChanges (s.reviewIsolation k) (.sense k :: engineParts k) := by
  have noted : s.onlyChanges (s.isoNoted k false) [.engine k] := s.setEng_onlyChanges k _
  have record := s.isoNoted_eng k false
  have clear : (s.isoNoted k false).isoCond k = false := (s.isoNoted_isoCond k false).trans iso
  have does := State.reviewIsolation_clears iso seen
  have good' : (s.isoNoted k false).tableGood := good
  have fitted' : (s.isoNoted k false).fitted k = true := fitted
  have state' : ((s.isoNoted k false).eng k).state = (s.eng k).state := by rw [record]
  have request : ((s.isoNoted k false).eng k).isoRequest = (s.eng k).isoRequest := by rw [record]
  have seen' : ((s.isoNoted k false).eng k).isoSeen = false := by rw [record]
  rw [does, ← state', ← request]
  generalize s.isoNoted k false = u at *
  by_cases state : (u.eng k).state = .isolated
  · rw [if_pos state]
    obtain ⟨rests, frame, -⟩ := State.enterRest_restsTo good' fitted' (by rw [state]; rfl)
    obtain ⟨request, seen''⟩ := u.enterRest_isoFlags k []
    refine ⟨⟨fun _ => ⟨rests, by simpa using frame⟩, fun stopped => ?_, fun other => absurd state other⟩,
      seen''.trans clear, request, (noted.mono (by simp [engineParts])).trans frame⟩
    rw [state] at stopped
    cases stopped
  · rw [if_neg state]
    obtain ⟨starts, idle⟩ := u.runDemandStart_offers k
    obtain ⟨request, seen''⟩ := u.runDemandStart_isoFlags k
    refine ⟨⟨fun h => absurd h state, fun stopped demand admits => by simpa using starts fitted' stopped demand admits,
      fun _ h => ?_⟩, seen''.trans seen', request, (noted.mono (by simp [engineParts])).trans
      ((u.runDemandStart_onlyChanges k).mono (by simp [engineParts]))⟩
    rw [idle (.inr h)]
    exact u.onlyChanges_refl _

end

end Sys2Proof.Machine

namespace Sys2Proof.Machine

/-! ## ISOLATE and RESTORE -/

section

variable {s u : State} {k : Engine} {x : Cli}

theorem State.isolatesTo_cli (notices : x.notices = u.cli.notices) (h : s.isolatesTo u k []) :
    s.isolatesTo (u.setCli x) k answerParts := by
  have told {ps : List Part} (frame : s.onlyChanges u ps) : s.onlyChanges (u.setCli x) (ps ++ answerParts) :=
    (frame.mono (by simp)).trans ((State.setCli_onlyChanges notices).mono (by simp))
  obtain ⟨stopped, path, online, running, rest⟩ := h
  refine ⟨fun state => ?_, fun state => ?_, fun state free => ?_, fun state => ⟨fun shed => ?_, fun stronger => ?_⟩,
    fun state => told (rest state)⟩
  · obtain ⟨record, changed, counted, warmup, kept, frame⟩ := stopped state
    exact ⟨record, (congrArg (fun n => n.changed.get k) notices).trans changed, counted, warmup, kept,
      by simpa using told frame⟩
  · obtain ⟨aborts, frame⟩ := path state
    exact ⟨State.abortsTo_cli notices aborts, by simpa using told frame⟩
  · obtain ⟨record, load, replan, frame⟩ := online state free
    exact ⟨record, load, replan, by simpa using told frame⟩
  · obtain ⟨record, frame⟩ := (running state).1 shed
    exact ⟨record, by simpa using told frame⟩
  · exact told ((running state).2 stronger)

theorem State.returnsTo_cli (notices : x.notices = u.cli.notices) (h : s.returnsTo u k []) :
    s.returnsTo (u.setCli x) k answerParts := by
  have told {ps : List Part} (frame : s.onlyChanges u ps) : s.onlyChanges (u.setCli x) (ps ++ answerParts) :=
    (frame.mono (by simp)).trans ((State.setCli_onlyChanges notices).mono (by simp))
  obtain ⟨isolated, stopped, stays⟩ := h
  refine ⟨fun state => ?_, fun state demand admits => ?_, fun state h => told (stays state h)⟩
  · obtain ⟨rests, frame⟩ := isolated state
    exact ⟨State.restsTo_cli notices rests, by simpa using told frame⟩
  · obtain ⟨starts, frame⟩ := stopped state demand admits
    exact ⟨State.startsTo_cli notices starts, by simpa using told frame⟩

end

/-- The record with the request flag moved. -/
def State.isoAsked (s : State) (k : Engine) (asked : Bool) : State := s.setEng k { s.eng k with isoRequest := asked }

theorem State.isoAsked_eng (s : State) (k : Engine) (asked : Bool) :
    (s.isoAsked k asked).eng k = { s.eng k with isoRequest := asked } := s.eng_setEng_self k _

theorem State.isoAsked_isoCond (s : State) (k : Engine) (asked : Bool) :
    (s.isoAsked k asked).isoCond k = (s.level (.iso k) || asked) := by
  cases k <;> rfl

theorem State.isoAsked_isoNoted (s : State) (k : Engine) (asked iso : Bool) :
    (s.isoAsked k asked).isoNoted k iso = s.setEng k { s.eng k with isoRequest := asked, isoSeen := iso } := by
  unfold State.isoNoted
  rw [State.isoAsked_eng]
  exact s.setEng_setEng k _ _

theorem State.setIsolation_moves {s : State} {k : Engine} {asked : Bool} (moves : (s.eng k).isoRequest = !asked) :
    s.setIsolation k asked = ((s.isoAsked k asked).reviewIsolation k, .bare .ok) := by
  have other : ¬ ((s.eng k).isoRequest = asked) := by
    rw [moves]
    cases asked <;> simp
  simp only [State.setIsolation, if_neg other]
  rfl

/-- Parts that no request on an engine's isolation moves. -/
theorem State.onlyChanges.rest {s t : State} {k : Engine} (h : s.onlyChanges t (.sense k :: engineParts k ++ answerParts)) :
    (∀ j, j ≠ k → t.eng j = s.eng j) ∧ t.dsl = s.dsl ∧ t.plan = s.plan ∧ t.bsm = s.bsm ∧ t.dct = s.dct ∧
      t.cfs = s.cfs :=
  ⟨fun j other => h.eng j (by simp [engineParts, answerParts, other]), h .dsl (by simp [engineParts, answerParts]),
    h .plan (by simp [engineParts, answerParts]), h .bsm (by simp [engineParts, answerParts]),
    h.dct (by simp [engineParts, answerParts]) (by simp [engineParts, answerParts]),
    h.cfs (by simp [engineParts, answerParts])⟩

/-- Settles O37. -/
theorem isolateAndRestoreMoveCondition : Obligations.IsolateAndRestoreMoveCondition := by
  refine fun s c e k good => ⟨fun takes => ?isolate, fun takes => ?restore⟩
  case isolate =>
    cases flag : (s.eng k).isoRequest with
    | true =>
      have same := s.setIsolation_same k
      rw [flag] at same
      obtain ⟨answers, frame⟩ := State.servedFor_idle (fun k u => u.setIsolation k true) takes same
      have record := frame.eng k (by simp [answerParts])
      refine ⟨_, rfl, answers, by rw [record, flag], fun _ => frame, nofun, nofun, fun _ => ⟨?_, frame.mono (by simp)⟩,
        (frame.mono (by simp)).rest⟩
      rw [record, ← flag]
    | false =>
      have does := State.setIsolation_moves (s := s) (k := k) (asked := true) flag
      have asked : s.onlyChanges (s.isoAsked k true) [.engine k] := s.setEng_onlyChanges k _
      have record := s.isoAsked_eng k true
      have iso : (s.isoAsked k true).isoCond k = true := by rw [State.isoAsked_isoCond, Bool.or_true]
      have good' : (s.isoAsked k true).tableGood := good
      cases seen : (s.eng k).isoSeen with
      | true =>
        have idle : (s.isoAsked k true).reviewIsolation k = s.isoAsked k true :=
          State.reviewIsolation_same (by rw [record, iso]; exact seen)
        rw [idle] at does
        obtain ⟨x, -, served, answers, total⟩ :=
          State.servedFor_cli (fun k u => u.setIsolation k true) takes does asked (by simp)
        exact ⟨_, congrArg Host.Outcome.next served, answers, congrArg EngineRec.isoRequest record, nofun, nofun, nofun,
          fun _ => ⟨record, total⟩, (total.mono (by simp [engineParts, answerParts])).rest⟩
      | false =>
        have seen' : ((s.isoAsked k true).eng k).isoSeen = false := by rw [record]; exact seen
        obtain ⟨isolates, -, request, frame⟩ := State.reviewIsolation_isolates good' iso seen'
        obtain ⟨x, notices, served, answers, total⟩ := State.servedFor_cli (fun k u => u.setIsolation k true) takes does
          ((asked.mono (by simp [engineParts])).trans frame) (by simp [engineParts])
        rw [record] at request
        rw [State.isoAsked_isoNoted] at isolates
        refine ⟨_, congrArg Host.Outcome.next served, answers, request, nofun, fun _ _ u hu => ?_, fun _ stopped _ => ?_,
          nofun, State.onlyChanges.rest total⟩
        · rw [hu]
          exact State.isolatesTo_cli notices isolates
        · obtain ⟨done, -⟩ := isolates.1 (by rw [State.eng_setEng_self]; exact stopped)
          exact congrArg EngineRec.state done
  case restore =>
    obtain ⟨-, -, fitted⟩ := (s.takesFor_iff _ _ _).mp takes
    cases flag : (s.eng k).isoRequest with
    | false =>
      have same := s.setIsolation_same k
      rw [flag] at same
      obtain ⟨answers, frame⟩ := State.servedFor_idle (fun k u => u.setIsolation k false) takes same
      have record := frame.eng k (by simp [answerParts])
      refine ⟨_, rfl, answers, by rw [record, flag], fun _ => frame, nofun, nofun,
        fun _ _ => ⟨?_, frame.mono (by simp)⟩, (frame.mono (by simp)).rest⟩
      rw [record, ← flag]
    | true =>
      have does := State.setIsolation_moves (s := s) (k := k) (asked := false) flag
      have asked : s.onlyChanges (s.isoAsked k false) [.engine k] := s.setEng_onlyChanges k _
      have record := s.isoAsked_eng k false
      have iso : (s.isoAsked k false).isoCond k = s.level (.iso k) := by rw [State.isoAsked_isoCond, Bool.or_false]
      have good' : (s.isoAsked k false).tableGood := good
      by_cases clears : (s.eng k).isoSeen = true ∧ s.level (.iso k) = false
      · obtain ⟨seen, level⟩ := clears
        have seen' : ((s.isoAsked k false).eng k).isoSeen = true := by rw [record]; exact seen
        obtain ⟨returns, -, request, frame⟩ :=
          State.reviewIsolation_returns good' (s := s.isoAsked k false) fitted (iso.trans level) seen'
        obtain ⟨x, notices, served, answers, total⟩ := State.servedFor_cli (fun k u => u.setIsolation k false) takes does
          ((asked.mono (by simp [engineParts])).trans frame) (by simp [engineParts])
        rw [record] at request
        rw [State.isoAsked_isoNoted] at returns
        refine ⟨_, congrArg Host.Outcome.next served, answers, request, nofun, fun _ _ _ u hu => ?_,
          fun _ isolated _ _ demand => ?_, fun held => ?_, State.onlyChanges.rest total⟩
        · rw [hu]
          exact State.returnsTo_cli notices returns
        · obtain ⟨⟨-, -, -, -, -, stays, -⟩, -⟩ := returns.1 (by rw [State.eng_setEng_self]; exact isolated)
          refine (stays ?_ (.inl demand)).1
          rw [← State.isoAsked_isoNoted, State.isoNoted_isoCond, iso, level]
        · rw [level] at held
          cases held
      · by_cases same : (s.eng k).isoSeen = s.level (.iso k)
        · have idle : (s.isoAsked k false).reviewIsolation k = s.isoAsked k false :=
            State.reviewIsolation_same (by rw [record, iso]; exact same)
          rw [idle] at does
          obtain ⟨x, -, served, answers, total⟩ :=
            State.servedFor_cli (fun k u => u.setIsolation k false) takes does asked (by simp)
          exact ⟨_, congrArg Host.Outcome.next served, answers, congrArg EngineRec.isoRequest record, nofun,
            fun _ seen level => absurd ⟨seen, level⟩ clears, fun _ _ seen level => absurd ⟨seen, level⟩ clears,
            fun _ _ => ⟨record, total⟩, (total.mono (by simp [engineParts, answerParts])).rest⟩
        · have level : s.level (.iso k) = true ∧ (s.eng k).isoSeen = false := by
            cases hl : s.level (.iso k) <;> cases hs : (s.eng k).isoSeen <;> simp_all
          have seen' : ((s.isoAsked k false).eng k).isoSeen = false := by rw [record]; exact level.2
          obtain ⟨-, -, request, frame⟩ := State.reviewIsolation_isolates good' (iso.trans level.1) seen'
          obtain ⟨x, -, served, answers, total⟩ := State.servedFor_cli (fun k u => u.setIsolation k false) takes does
            ((asked.mono (by simp [engineParts])).trans frame) (by simp [engineParts])
          rw [record] at request
          refine ⟨_, congrArg Host.Outcome.next served, answers, request, nofun,
            fun _ seen level => absurd ⟨seen, level⟩ clears, fun _ _ seen level => absurd ⟨seen, level⟩ clears,
            fun _ seen => ?_, State.onlyChanges.rest total⟩
          rw [level.2] at seen
          cases seen

/-! ## ACK_TRIP -/

/-- Settles O39. -/
theorem ackTripReturnsEngineAtRest : Obligations.AckTripReturnsEngineAtRest := by
  intro s c e k takes good
  obtain ⟨-, -, fitted⟩ := (s.takesFor_iff _ _ _).mp takes
  refine ⟨fun refused => ?_, fun tripped rest clear => ?_⟩
  · have does : s.ackTrip k = (s, ⟨.wrongState, []⟩) := by
      refine if_neg fun ⟨tripped, rest, clear⟩ => ?_
      obtain h | h | h := refused
      · exact h tripped
      · rw [rest] at h
        cases h
      · exact clear h
    obtain ⟨answers, frame⟩ := State.servedFor_idle (fun k u => u.ackTrip k) takes does
    exact ⟨_, rfl, answers, frame⟩
  · have does : s.ackTrip k = (s.enterRest k [], ⟨.ok, []⟩) := by
      refine if_pos ⟨tripped, rest, fun ⟨cause, asserted⟩ => ?_⟩
      obtain h | h := clear
      · exact h cause
      · rw [asserted] at h
        cases h
    obtain ⟨rests, frame, stays⟩ := State.enterRest_restsTo good fitted (by rw [tripped]; rfl)
    obtain ⟨x, notices, served, answers, total⟩ :=
      State.servedFor_cli (fun k u => u.ackTrip k) takes does frame (by simp [engineParts])
    refine ⟨_, congrArg Host.Outcome.next served, answers, State.restsTo_cli notices rests, total, fun h => ?_⟩
    obtain ⟨record, frame'⟩ := stays h
    exact ⟨congrArg EngineRec.state record, (frame'.mono (by simp)).trans ((State.setCli_onlyChanges notices).mono (by simp))⟩

/-! ## Hold points -/

/-- An entry into ONLINE out of RUNUP (R83, R94). -/
theorem State.enterOnline_changes {s : State} {k : Engine} (runup : (s.eng k).state = .runup) :
    (s.enterOnline k).eng k = (s.eng k).afterOnline (s.enRpm 0) ∧ .counted k [.start] ∈ (s.enterOnline k).handed ∧
      s.supplyKept (s.enterOnline k) ∧ (s.enterOnline k).cli.notices.changed.get k = true ∧
      s.onlyChanges (s.enterOnline k) [.engine k, .car, .notices, .handed] :=
  ⟨(s.enterOnline_eng k k).trans (if_pos rfl), s.enter_counted _ _ _ _ (by simp),
    s.enter_supplyKept k _ _ (by simp) (.inl (by rw [runup]; nofun)) (by rw [runup]; nofun), s.enter_changed ..,
    s.enter_onlyChanges_of_stays k _ _ _ rfl⟩

/-- The record with another hold point. -/
def State.holdMoved (s : State) (k : Engine) (p : HoldPoint) : State := s.setEng k { s.eng k with holdPoint := p }

theorem State.holdMoved_eng (s : State) (k : Engine) (p : HoldPoint) :
    (s.holdMoved k p).eng k = { s.eng k with holdPoint := p } := s.eng_setEng_self k _

theorem State.setHold_eq {s : State} {k : Engine} {h : Byte} {p : HoldPoint} (field : holdField h = some p) :
    s.setHold h k = (if (s.eng k).held ∧ p ≠ (s.eng k).heldAt then (s.holdMoved k p).releaseHold k
      else s.holdMoved k p, ⟨.ok, []⟩) := by
  simp only [State.setHold, field]
  rfl

theorem EngineRec.heldAt_prelube {r : EngineRec} (held : r.held = true) (state : r.state = .prelube) :
    r.heldAt = .beforeCrank := by simp [EngineRec.heldAt, held, state]

theorem EngineRec.heldAt_runup {r : EngineRec} (held : r.held = true) (state : r.state = .runup) :
    r.heldAt = .beforeOnline := by simp [EngineRec.heldAt, held, state]

theorem State.holdPassable_prelube {s : State} {k : Engine} (held : (s.eng k).held = true)
    (state : (s.eng k).state = .prelube) : s.holdPassable k = s.lubeMade k := by
  rw [State.holdPassable, EngineRec.heldAt_prelube held state]

theorem State.holdPassable_runup {s : State} {k : Engine} (held : (s.eng k).held = true)
    (state : (s.eng k).state = .runup) : s.holdPassable k = s.onlineTest k := by
  rw [State.holdPassable, EngineRec.heldAt_runup held state]

theorem State.passHold_prelube {s : State} {k : Engine} (held : (s.eng k).held = true)
    (state : (s.eng k).state = .prelube) : s.passHold k = s.enterCrankWait k := by
  rw [State.passHold, EngineRec.heldAt_prelube held state]

theorem State.passHold_runup {s : State} {k : Engine} (held : (s.eng k).held = true)
    (state : (s.eng k).state = .runup) : s.passHold k = s.enterOnline k := by
  rw [State.passHold, EngineRec.heldAt_runup held state]

/-- A release out of a hold point goes on in the state, or past the hold point (R89). -/
theorem State.releaseHold_stays {s : State} {k : Engine} (shut : s.holdPassable k = false) :
    (s.releaseHold k).eng k = (s.eng k).unheld ∧ (s.releaseHold k).car = s.car ∧
      s.onlyChanges (s.releaseHold k) [.engine k] := by
  have goes : s.releaseHold k = s.modEng k EngineRec.unheld := if_neg (by simp [shut])
  rw [goes]
  exact ⟨s.eng_setEng_self k _, rfl, s.modEng_onlyChanges k _⟩

theorem State.releaseHold_passes {s : State} {k : Engine} (passes : s.holdPassable k = true) :
    s.releaseHold k = s.passHold k := if_pos passes

section

variable {s : State} {c : Caller} {e h : Byte} {k : Engine} {p : HoldPoint}

theorem exec_setHold_stays (takes : s.takesFor (.setHold c e h) e k = true) (field : holdField h = some p)
    (none : ¬ ((s.eng k).held = true ∧ p ≠ (s.eng k).heldAt)) : ∃ t, exec (.setHold c e h) s = .next t ∧
      s.answers t (.setHold c e h) .ok [] ∧ t.eng k = { s.eng k with holdPoint := p } ∧
      s.onlyChanges t (.engine k :: answerParts) := by
  have does := s.setHold_eq (k := k) field
  rw [if_neg none] at does
  obtain ⟨x, -, served, answers, total⟩ := State.servedFor_cli (fun k u => u.setHold h k) takes does
    (s.setEng_onlyChanges k _) (by simp)
  exact ⟨_, congrArg Host.Outcome.next served, answers, s.holdMoved_eng k p, total⟩

/-- A SET_HOLD that releases: beside the answer the state is the one the release leaves. -/
theorem exec_setHold_releases (takes : s.takesFor (.setHold c e h) e k = true) (field : holdField h = some p)
    (held : (s.eng k).held = true) (other : p ≠ (s.eng k).heldAt) {ps : List Part}
    (frame : (s.holdMoved k p).onlyChanges ((s.holdMoved k p).releaseHold k) ps) (link : .link ∉ ps) :
    ∃ t, exec (.setHold c e h) s = .next t ∧ s.answers t (.setHold c e h) .ok [] ∧
      t.eng k = ((s.holdMoved k p).releaseHold k).eng k ∧ t.car = ((s.holdMoved k p).releaseHold k).car ∧
      t.handed = ((s.holdMoved k p).releaseHold k).handed ∧
      (s.supplyKept ((s.holdMoved k p).releaseHold k) → s.supplyKept t) ∧
      (s.supplyJoined ((s.holdMoved k p).releaseHold k) k → s.supplyJoined t k) ∧
      s.onlyChanges t (.engine k :: ps ++ answerParts) := by
  have does := s.setHold_eq (k := k) field
  rw [if_pos ⟨held, other⟩] at does
  obtain ⟨x, -, served, answers, total⟩ := State.servedFor_cli (fun k u => u.setHold h k) takes does
    (ps := .engine k :: ps) (((s.setEng_onlyChanges k _).mono (by simp)).trans (frame.mono (by simp))) (by simp [link])
  exact ⟨_, congrArg Host.Outcome.next served, answers, rfl, rfl, rfl, id, id, total⟩

/-- SET_HOLD of an engine held in PRELUBE. -/
theorem exec_setHold_prelube (takes : s.takesFor (.setHold c e h) e k = true) (field : holdField h = some p)
    (held : (s.eng k).held = true) (state : (s.eng k).state = .prelube) (other : p ≠ .beforeCrank) :
    ∃ t, exec (.setHold c e h) s = .next t ∧ s.answers t (.setHold c e h) .ok [] ∧ (t.eng k).holdPoint = p ∧
      (t.eng k).held = false ∧ (t.eng k).state = (if s.lubeMade k then .crankWait else .prelube) ∧
      (s.lubeMade k = false → (∀ n, (s.eng k).prelubeTimer = some n → (t.eng k).prelubeTimer = some n) ∧
        ((s.eng k).prelubeTimer = none → (t.eng k).prelubeTimer = some 0)) ∧
      (s.lubeMade k = true → s.supplyJoined t k) ∧ (s.lubeMade k = false → t.car = s.car) ∧
      s.onlyChanges t (.engine k :: .car :: .notices :: .handed :: answerParts) := by
  have releases {ps : List Part} := exec_setHold_releases (ps := ps) takes field held
    (by rw [EngineRec.heldAt_prelube held state]; exact other)
  have record := s.holdMoved_eng k p
  have held' : ((s.holdMoved k p).eng k).held = true := by rw [record]; exact held
  have state' : ((s.holdMoved k p).eng k).state = .prelube := by rw [record]; exact state
  have passable : (s.holdMoved k p).holdPassable k = s.lubeMade k := State.holdPassable_prelube held' state'
  cases made : s.lubeMade k with
  | true =>
    have passes := (State.releaseHold_passes (passable.trans made)).trans (State.passHold_prelube held' state')
    obtain ⟨after, -, joined, -, frame⟩ := State.enterCrankWait_joins (s := s.holdMoved k p) (k := k)
      (by simp [state']) (by simp [state'])
    rw [passes] at releases
    obtain ⟨t, next, answers, eng, -, -, -, joined', total⟩ := releases frame (by simp)
    rw [after, record] at eng
    exact ⟨t, next, answers, by rw [eng]; rfl, by rw [eng], by rw [eng]; rfl, nofun, fun _ => joined' joined, nofun,
      total.mono (by simp)⟩
  | false =>
    obtain ⟨after, car, frame⟩ := State.releaseHold_stays (passable.trans made)
    obtain ⟨t, next, answers, eng, car', -, -, -, total⟩ := releases frame (by simp)
    have timer : (t.eng k).prelubeTimer = some ((s.eng k).prelubeTimer.getD 0) := by
      rw [eng, after, record]
      simp [EngineRec.unheld, state]
    rw [after, record] at eng
    exact ⟨t, next, answers, by rw [eng]; rfl, by rw [eng]; rfl, by rw [eng]; exact state,
      fun _ => ⟨fun n hn => by rw [timer, hn]; rfl, fun hn => by rw [timer, hn]; rfl⟩, nofun,
      fun _ => car'.trans car, total.mono (by simp [answerParts])⟩

/-- SET_HOLD of an engine held in RUNUP. -/
theorem exec_setHold_runup (takes : s.takesFor (.setHold c e h) e k = true) (field : holdField h = some p)
    (held : (s.eng k).held = true) (state : (s.eng k).state = .runup) (other : p ≠ .beforeOnline) :
    ∃ t, exec (.setHold c e h) s = .next t ∧ s.answers t (.setHold c e h) .ok [] ∧ (t.eng k).holdPoint = p ∧
      (t.eng k).held = false ∧ (t.eng k).state = (if s.onlineTest k then .online else .runup) ∧
      (s.onlineTest k = false → (t.eng k).runupTimer = some 0 ∧ t.car = s.car) ∧
      (s.onlineTest k = true → .counted k [.start] ∈ t.handed ∧ s.supplyKept t) ∧
      s.onlyChanges t (.engine k :: .car :: .notices :: .handed :: answerParts) := by
  have releases {ps : List Part} := exec_setHold_releases (ps := ps) takes field held
    (by rw [EngineRec.heldAt_runup held state]; exact other)
  have record := s.holdMoved_eng k p
  have held' : ((s.holdMoved k p).eng k).held = true := by rw [record]; exact held
  have state' : ((s.holdMoved k p).eng k).state = .runup := by rw [record]; exact state
  have passable : (s.holdMoved k p).holdPassable k = s.onlineTest k := State.holdPassable_runup held' state'
  cases test : s.onlineTest k with
  | true =>
    have passes := (State.releaseHold_passes (passable.trans test)).trans (State.passHold_runup held' state')
    obtain ⟨after, counted, kept, -, frame⟩ := State.enterOnline_changes state'
    rw [passes] at releases
    obtain ⟨t, next, answers, eng, -, handed, kept', -, total⟩ := releases frame (by simp)
    rw [after, record] at eng
    exact ⟨t, next, answers, by rw [eng]; rfl, by rw [eng]; rfl, by rw [eng]; rfl, nofun,
      fun _ => ⟨handed ▸ counted, kept' kept⟩, total.mono (by simp)⟩
  | false =>
    obtain ⟨after, car, frame⟩ := State.releaseHold_stays (passable.trans test)
    obtain ⟨t, next, answers, eng, car', -, -, -, total⟩ := releases frame (by simp)
    have timer : (t.eng k).runupTimer = some 0 := by
      rw [eng, after, record]
      simp [EngineRec.unheld, state]
    rw [after, record] at eng
    exact ⟨t, next, answers, by rw [eng]; rfl, by rw [eng]; rfl, by rw [eng]; exact state,
      fun _ => ⟨timer, car'.trans car⟩, nofun, total.mono (by simp [answerParts])⟩

end

/-- Settles O38. -/
theorem holdPointsHoldAndPass : Obligations.HoldPointsHoldAndPass := by
  refine ⟨fun s c e h k p takes field => ⟨fun free => exec_setHold_stays takes field (by simp [free]),
    fun held there => exec_setHold_stays takes field ?_, exec_setHold_prelube takes field,
    exec_setHold_runup takes field⟩, fun s c e k takes => ⟨fun refused => ?_, fun held state made => ?_,
    fun held state test => ?_⟩⟩
  · rintro ⟨-, other⟩
    obtain ⟨state, rfl⟩ | ⟨state, rfl⟩ := there
    · exact other (EngineRec.heldAt_prelube held state).symm
    · exact other (EngineRec.heldAt_runup held state).symm
  · have does : s.stepHold k = (s, ⟨.wrongState, []⟩) := by
      refine if_neg fun ⟨held, passable⟩ => ?_
      obtain h | ⟨state, h⟩ | ⟨state, h⟩ := refused
      · rw [held] at h
        cases h
      · rw [State.holdPassable_prelube held state, h] at passable
        cases passable
      · rw [State.holdPassable_runup held state, h] at passable
        cases passable
    obtain ⟨answers, frame⟩ := State.servedFor_idle (fun k u => u.stepHold k) takes does
    exact ⟨_, rfl, answers, frame⟩
  · have does : s.stepHold k = (s.enterCrankWait k, ⟨.ok, []⟩) := by
      rw [State.stepHold, if_pos ⟨held, (State.holdPassable_prelube held state).trans made⟩,
        State.passHold_prelube held state]
      rfl
    obtain ⟨after, waits, joined, -, frame⟩ := State.enterCrankWait_joins (s := s) (k := k) (by simp [state])
      (by simp [state])
    obtain ⟨x, -, served, answers, total⟩ := State.servedFor_cli (fun k u => u.stepHold k) takes does frame (by simp)
    have record : ((s.enterCrankWait k).setCli x).eng k = _ := after
    refine ⟨_, congrArg Host.Outcome.next served, answers, ?_⟩
    rw [record]
    exact ⟨rfl, rfl, rfl, waits, joined, total⟩
  · have does : s.stepHold k = (s.enterOnline k, ⟨.ok, []⟩) := by
      rw [State.stepHold, if_pos ⟨held, (State.holdPassable_runup held state).trans test⟩,
        State.passHold_runup held state]
      rfl
    obtain ⟨after, counted, kept, -, frame⟩ := State.enterOnline_changes (s := s) (k := k) state
    obtain ⟨x, -, served, answers, total⟩ := State.servedFor_cli (fun k u => u.stepHold k) takes does frame (by simp)
    have record : ((s.enterOnline k).setCli x).eng k = _ := after
    refine ⟨_, congrArg Host.Outcome.next served, answers, ?_⟩
    rw [record]
    exact ⟨rfl, rfl, rfl, rfl, counted, kept, total⟩

end Sys2Proof.Machine

namespace Sys2Proof.Machine

/-! ## What each reader makes of a change of level -/

section

variable {s : State} {k : Engine} {v : Bool}

theorem State.levelSeen_run (fitted : s.fitted k = true) : s.levelSeen .run (.esq k) v = s.runLineSeen k v :=
  if_pos fitted

theorem State.levelSeen_emergency (fitted : s.fitted k = true) :
    s.levelSeen .emergency (.esq k) v = s.emergencySeen k v := if_pos fitted

theorem State.levelSeen_iso (fitted : s.fitted k = true) : s.levelSeen (.iso k) (.esq k) v = s.reviewIsolation k :=
  if_pos ⟨fitted, rfl⟩

theorem State.levelSeen_lube (fitted : s.fitted k = true) :
    s.levelSeen (.lube k) (.esq k) v = if v then s.lubeClosed k else s.lubeOpened k := if_pos ⟨fitted, rfl⟩

/-- A run line dropped is a stop order, and any change of the run line offers a run demand in force. -/
theorem State.runLineSeen_drops : s.runLineSeen k false = (s.takeStop k .runOff).runDemandStart k := rfl

theorem State.emergencySeen_trips (trips : (s.eng k).state.startPath = true ∨ (s.eng k).state = .online ∨
    (s.eng k).state = .cooldown) : s.emergencySeen k true = s.trip k .emergency [] := by
  have trip : s.emergencyTrip k = s.trip k .emergency [] := if_pos trips
  have seen : s.emergencySeen k true = (s.emergencyTrip k).runDemandStart k := rfl
  rw [seen, trip]
  refine State.runDemandStart_idle (.inr (.inl ?_))
  rw [State.trip_eng, if_pos rfl]
  nofun

theorem State.emergencySeen_rest (path : (s.eng k).state.startPath = false) (online : (s.eng k).state ≠ .online)
    (cooldown : (s.eng k).state ≠ .cooldown) : s.emergencySeen k true = s.runDemandStart k := by
  have trip : s.emergencyTrip k = s := if_neg (by simp [path, online, cooldown])
  have seen : s.emergencySeen k true = (s.emergencyTrip k).runDemandStart k := rfl
  rw [seen, trip]

/-- A run line dropped on an engine that its stop order leaves out of STOPPED. -/
theorem State.runLineSeen_stops {t : State} (stops : s.takeStop k .runOff = t) (state : (t.eng k).state ≠ .stopped) :
    s.runLineSeen k false = t := by
  rw [State.runLineSeen_drops, stops]
  exact State.runDemandStart_idle (.inr (.inl state))

theorem State.runLineSeen_pends (online : (s.eng k).state = .online) (free : (s.eng k).stopPending = false) :
    s.runLineSeen k false = s.pendStop k .runOff := by
  refine State.runLineSeen_stops (State.takeStop_online online free (.inl (by simp))) ?_
  rw [(s.pendStop_changes k .runOff).1]
  simp [online]

theorem State.runLineSeen_restates (running : ((s.eng k).state = .online ∧ (s.eng k).stopPending = true) ∨
    (s.eng k).state = .cooldown) : s.runLineSeen k false = s.restateStop k .runOff := by
  refine State.runLineSeen_stops (State.takeStop_stopped (by simp) running) ?_
  have state : ((s.restateStop k .runOff).eng k).state = (s.eng k).state := by
    by_cases shed : (s.eng k).stopReason = some .shed
    · rw [(State.restateStop_changes shed (by simp)).1]
    · rw [State.restateStop_idle shed]
  rw [state]
  obtain ⟨online, -⟩ | cooldown := running
  · simp [online]
  · simp [cooldown]

theorem State.runLineSeen_rest (state : (s.eng k).state = .stopping ∨ (s.eng k).state = .isolated ∨
    (s.eng k).state = .tripped) : s.runLineSeen k false = s := by
  refine State.runLineSeen_stops (State.takeStop_idle (by simp) (by tauto)) ?_
  obtain h | h | h := state <;> simp [h]

theorem State.emergencySeen_idle (state : (s.eng k).state = .stopping ∨ (s.eng k).state = .isolated ∨
    (s.eng k).state = .tripped) : s.emergencySeen k true = s := by
  have rest : s.emergencySeen k true = s.runDemandStart k := by
    obtain h | h | h := state <;> exact State.emergencySeen_rest (by simp [h, EState.startPath]) (by simp [h]) (by simp [h])
  rw [rest]
  refine State.runDemandStart_idle (.inr (.inl ?_))
  obtain h | h | h := state <;> simp [h]

/-- A start ended by a stop order is not begun again where no run demand may begin it. -/
theorem State.takeStop_aborts_settled {reason : StopReason} (good : s.tableGood) (order : reason ≠ .shed)
    (path : (s.eng k).state.startPath = true)
    (stays : (s.eng k).state = .cranking ∨ (s.eng k).state = .runup ∨ s.limits.run.get k = false ∨ s.admits k = false) :
    (s.takeStop k reason).runDemandStart k = s.takeStop k reason := by
  by_cases running : (s.eng k).state = .cranking ∨ (s.eng k).state = .runup
  · refine State.runDemandStart_idle (.inr (.inl ?_))
    obtain ⟨-, -, stopping, -⟩ := (State.takeStop_aborts good order path (by tauto)).1
    obtain ⟨record, -⟩ := stopping running
    rw [record]
    nofun
  · have state : (s.eng k).state = .prelube ∨ (s.eng k).state = .crankWait ∨ (s.eng k).state = .crankRest := by
      cases hs : (s.eng k).state <;> simp_all [EState.startPath]
    have held : s.limits.run.get k = false ∨ s.admits k = false := by tauto
    have idle : (s.rested k [.aborted]).runDemandStart k = s.rested k [.aborted] := by
      refine State.runDemandStart_idle (.inr (.inr ?_))
      rw [(State.rested_demands good _).2.2, State.rested_admits good]
      exact held
    rw [State.takeStop_resting order state, State.enterRest_eq, idle]
    simp [idle]

/-- A run line dropped on the start path, where no run demand begins the start again. -/
theorem State.runLineSeen_aborts (good : s.tableGood) (path : (s.eng k).state.startPath = true)
    (stays : (s.eng k).state = .cranking ∨ (s.eng k).state = .runup ∨ s.limits.run.get k = false ∨ s.admits k = false) :
    s.abortsTo (s.runLineSeen k false) k ∧ s.onlyChanges (s.runLineSeen k false) (engineParts k) := by
  rw [State.runLineSeen_drops, State.takeStop_aborts_settled good (by simp) path stays]
  exact State.takeStop_aborts good (by simp) path (by tauto)

/-- An engine started by its run demand is out of STOPPED. -/
theorem State.startsTo_state {t : State} {reason : StartReason} (starts : s.startsTo t k reason) :
    (t.eng k).state ≠ .stopped := by
  obtain ⟨-, -, -, -, -, opened, held, waits, -⟩ := starts
  cases made : s.lubeMade k with
  | false => rw [(opened made).1]; nofun
  | true =>
    by_cases point : (s.eng k).holdPoint = .beforeCrank
    · rw [(held made point).1]; nofun
    · rw [(waits made point).1]; nofun

theorem State.runLineSeen_restarts (good : s.tableGood) (fitted : s.fitted k = true)
    (state : (s.eng k).state = .prelube ∨ (s.eng k).state = .crankWait ∨ (s.eng k).state = .crankRest)
    (demand : s.limits.run.get k = true) (admits : s.admits k = true) :
    s.abortsAndStarts (s.runLineSeen k false) k [] ∧
      s.onlyChanges (s.runLineSeen k false) (.sense k :: engineParts k) := by
  have whole := State.takeStop_abortsAndStarts (reason := .runOff) good fitted (by simp) state demand admits
  have state : ((s.takeStop k .runOff).eng k).state ≠ .stopped := by
    obtain ⟨⟨-, -, m, -, -, -, starts, -⟩, -⟩ := whole
    exact State.startsTo_state starts
  rw [State.runLineSeen_stops rfl state]
  exact whole

end

/-! ## The run and emergency lines -/

theorem State.abortsAndStarts_after {s t : State} {x : List Event} {k : Engine} {ps : List Part}
    (h : (s.setHanded x).abortsAndStarts t k ps) : s.abortsAndStarts t k ps := by
  obtain ⟨counted, handsOn, m, aborts, frame, line, starts, frame'⟩ := h
  exact ⟨counted, handsOn, m, aborts, State.onlyChanges_after frame (by simp [engineParts]), line, starts, frame'⟩

theorem State.setHanded_eng (s : State) (x : List Event) : (s.setHanded x).eng = s.eng := rfl

/-- Where a reader does nothing, the event alone is gone. -/
theorem State.taken_idle (s : State) (x : List Event) :
    (s.setHanded x).handed = x ∧ s.onlyChanges (s.setHanded x) [.handed] := ⟨rfl, s.setHanded_onlyChanges x⟩

section

variable {s : State} {pre post : List Event} {k : Engine}

/-- A run line dropped, at the sequencer of a fitted engine. -/
theorem exec_runDropped (awake : s.awake = true) (fitted : s.fitted k = true)
    (handed : s.handed = pre ++ .level .run (.esq k) false :: post) (oldest : ∀ w, .level .run (.esq k) w ∉ pre) :
    exec (.levelChange .run (.esq k)) s = .next ((s.setHanded (pre ++ post)).runLineSeen k false) := by
  rw [exec_levelChange awake handed oldest]
  exact congrArg Host.Outcome.next (State.levelSeen_run (s := s.setHanded (pre ++ post)) fitted)

/-- An emergency line asserted, at the sequencer of a fitted engine. -/
theorem exec_emergencyAsserted (awake : s.awake = true) (fitted : s.fitted k = true)
    (handed : s.handed = pre ++ .level .emergency (.esq k) true :: post)
    (oldest : ∀ w, .level .emergency (.esq k) w ∉ pre) :
    exec (.levelChange .emergency (.esq k)) s = .next ((s.setHanded (pre ++ post)).emergencySeen k true) := by
  rw [exec_levelChange awake handed oldest]
  exact congrArg Host.Outcome.next (State.levelSeen_emergency (s := s.setHanded (pre ++ post)) fitted)

/-- A change of one of the two lines that orders nothing offers a run demand in force. -/
theorem exec_lineOffers {i : Input} {v : Bool} (line : i = .run ∨ i = .emergency) (awake : s.awake = true)
    (fitted : s.fitted k = true) (handed : s.handed = pre ++ .level i (.esq k) v :: post)
    (oldest : ∀ w, .level i (.esq k) w ∉ pre)
    (none : (i = .run ∧ v = true) ∨ (i = .emergency ∧ v = false) ∨ (s.eng k).state = .stopped) :
    exec (.levelChange i (.esq k)) s = .next ((s.setHanded (pre ++ post)).runDemandStart k) := by
  rw [exec_levelChange awake handed oldest]
  refine congrArg Host.Outcome.next ?_
  have rest (h : (s.eng k).state = .stopped) : ((s.setHanded (pre ++ post)).eng k).state = .stopped := h
  obtain rfl | rfl := line
  · refine (State.levelSeen_run (s := s.setHanded (pre ++ post)) fitted).trans ?_
    cases v with
    | true => rfl
    | false =>
      have stopped : (s.eng k).state = .stopped := by simpa using none
      rw [State.runLineSeen_drops, State.takeStop_idle (by simp) (.inr (.inl (rest stopped)))]
  · refine (State.levelSeen_emergency (s := s.setHanded (pre ++ post)) fitted).trans ?_
    cases v with
    | false => rfl
    | true =>
      have stopped : (s.eng k).state = .stopped := by simpa using none
      refine State.emergencySeen_rest ?_ ?_ ?_ <;> rw [rest stopped] <;> simp [EState.startPath]

end

/-! ## The lube switch -/

/-- The online test made in RUNUP (R83, R88). -/
theorem State.tryOnline_passes {s : State} {k : Engine} (runup : (s.eng k).state = .runup)
    (free : (s.eng k).held = false) (test : s.onlineTest k = true) : s.passesOnlineTest (s.tryOnline k) k ∧
      s.onlyChanges (s.tryOnline k) [.engine k, .car, .notices, .handed] := by
  have tries : s.tryOnline k = if (s.eng k).holdPoint = .beforeOnline then s.hold k else s.enterOnline k :=
    if_pos ⟨runup, free, test⟩
  rw [tries]
  by_cases point : (s.eng k).holdPoint = .beforeOnline
  · rw [if_pos point]
    obtain ⟨record, car, changed, -, frame⟩ := s.hold_changes k
    exact ⟨⟨fun out => absurd point out, fun _ => ⟨record, car⟩, changed⟩, frame.mono (by simp)⟩
  · rw [if_neg point]
    obtain ⟨record, counted, kept, changed, frame⟩ := State.enterOnline_changes runup
    exact ⟨⟨fun _ => ⟨record, counted, kept⟩, fun h => absurd h point, changed⟩, frame⟩

theorem State.tryOnline_idle {s : State} {k : Engine} (h : (s.eng k).state ≠ .runup ∨ (s.eng k).held = true ∨
    s.onlineTest k = false) : s.tryOnline k = s := by
  refine if_neg fun ⟨runup, free, test⟩ => ?_
  obtain h | h | h := h
  · exact h runup
  · rw [free] at h
    cases h
  · rw [test] at h
    cases h

section

variable {s : State} {k : Engine}

theorem State.lubeClosed_prelube (state : (s.eng k).state = .prelube) : s.lubeClosed k =
    if (s.eng k).held then s.modEng k fun r => { r with prelubeTimer := none } else s.prelubeStep k := by
  simp [State.lubeClosed, state]

theorem State.lubeClosed_other (state : (s.eng k).state ≠ .prelube) : s.lubeClosed k = s.tryOnline k := by
  by_cases runup : (s.eng k).state = .runup
  · simp [State.lubeClosed, runup]
  · rw [State.tryOnline_idle (.inl runup)]
    cases hs : (s.eng k).state <;> simp_all [State.lubeClosed]

theorem State.lubeOpened_trips (state : (s.eng k).state = .online ∨ (s.eng k).state = .cooldown) :
    s.lubeOpened k = s.trip k .lowLube [] := by
  obtain state | state := state <;> simp [State.lubeOpened, state]

theorem State.lubeOpened_prelube (state : (s.eng k).state = .prelube) : s.lubeOpened k =
    if (s.eng k).held then s.modEng k fun r => { r with prelubeTimer := some 0 } else s := by
  simp [State.lubeOpened, state]

theorem State.lubeOpened_other (online : (s.eng k).state ≠ .online) (cooldown : (s.eng k).state ≠ .cooldown)
    (prelube : (s.eng k).state ≠ .prelube) : s.lubeOpened k = s := by
  cases hs : (s.eng k).state <;> simp_all [State.lubeOpened]

end

/-! ## The external grant -/

section

variable {s : State} (shared : s.cfg.arbiter.sharing = .shared)

include shared

theorem State.externalGrant_seen (line : s.car.line = .asking) :
    s.externalGrant true = (s.setCar { s.car with line := .held }).decideGrant := by
  simp [State.externalGrant, shared, line]

theorem State.externalGrant_withdrawn (line : s.car.line = .held) : s.externalGrant false =
    if s.car.holder.isSome then s.setCar { s.car with line := .withdrawn } else s.deassert := by
  simp [State.externalGrant, shared, line]

theorem State.externalGrant_other {v : Bool} (other : (v = true ∧ s.car.line ≠ .asking) ∨
    (v = false ∧ s.car.line ≠ .held)) : s.externalGrant v = s := by
  obtain ⟨rfl, line⟩ | ⟨rfl, line⟩ := other
  · cases hl : s.car.line <;> simp_all [State.externalGrant]
  · cases hl : s.car.line <;> simp_all [State.externalGrant]

end

theorem State.externalGrant_exclusive {s : State} {v : Bool} (exclusive : s.cfg.arbiter.sharing = .exclusive) :
    s.externalGrant v = s := if_pos exclusive

/-- Settles O13. -/
theorem levelChangesTakenByReaders : Obligations.LevelChangesTakenByReaders := by
  refine ⟨fun s pre post v k awake fitted => ⟨?planner, ?runOff, ?emergency, ?shed, ?path, ?emergencyRest, ?runRest,
    ?offered, ?stopped⟩, fun s pre post v k awake => ⟨?iso, ?seen, ?withdrawn, ?other, ?exclusive⟩,
    fun s pre post k awake fitted oldest => ⟨?opened, ?closed⟩⟩
  case planner =>
    rintro i line handed oldest
    refine ⟨(s.setHanded (pre ++ post)).emit (.replan .line), ?_, rfl, State.onlyChanges_after
      (State.emit_onlyChanges _ _) (by simp)⟩
    rw [exec_levelChange awake handed oldest]
    obtain rfl | rfl := line <;> rfl
  case runOff =>
    intro handed oldest online free
    have next := exec_runDropped awake fitted handed oldest
    rw [State.runLineSeen_pends (s := s.setHanded (pre ++ post)) online free] at next
    obtain ⟨record, -, -, frame⟩ := (s.setHanded (pre ++ post)).pendStop_changes k .runOff
    exact ⟨_, next, record, rfl, State.onlyChanges_after frame (by simp)⟩
  case emergency =>
    intro handed oldest trips
    have next := exec_emergencyAsserted awake fitted handed oldest
    rw [State.emergencySeen_trips (s := s.setHanded (pre ++ post)) trips] at next
    obtain ⟨record, changed, events, warmup, left, handsOn, frame⟩ :=
      (s.setHanded (pre ++ post)).trip_tripsTo k .emergency []
    exact ⟨_, next, record, changed, events, warmup, left, handsOn, State.onlyChanges_after frame (by simp [engineParts])⟩
  case shed =>
    intro handed oldest running shed
    have next := exec_runDropped awake fitted handed oldest
    rw [State.runLineSeen_restates (s := s.setHanded (pre ++ post)) running] at next
    obtain ⟨record, frame⟩ :=
      State.restateStop_changes (s := s.setHanded (pre ++ post)) (k := k) (reason := .runOff) shed (by simp)
    exact ⟨_, next, record, frame .handed (by simp), State.onlyChanges_after (frame.mono (by simp)) (by simp)⟩
  case path =>
    intro handed oldest good
    have next := exec_runDropped awake fitted handed oldest
    have good' : (s.setHanded (pre ++ post)).tableGood := good
    refine ⟨fun running => ?_, fun state => ⟨fun stays => ?_, fun demand admits => ?_⟩⟩
    · obtain ⟨aborts, frame⟩ := State.runLineSeen_aborts (k := k) good' (by
        obtain h | h := running <;> rw [State.setHanded_eng, h] <;> rfl)
        (running.imp id .inl)
      exact ⟨_, next, aborts, State.onlyChanges_after frame (by simp [engineParts])⟩
    · obtain ⟨aborts, frame⟩ := State.runLineSeen_aborts (k := k) good' (by
        obtain h | h | h := state <;> rw [State.setHanded_eng, h] <;> rfl)
        (.inr (.inr stays))
      exact ⟨_, next, aborts, State.onlyChanges_after frame (by simp [engineParts])⟩
    · obtain ⟨starts, frame⟩ := State.runLineSeen_restarts (s := s.setHanded (pre ++ post)) good' fitted state demand admits
      exact ⟨_, next, State.abortsAndStarts_after starts, State.onlyChanges_after frame (by simp [engineParts])⟩
  case emergencyRest =>
    intro handed oldest state
    have next := exec_emergencyAsserted awake fitted handed oldest
    rw [State.emergencySeen_idle (s := s.setHanded (pre ++ post)) state] at next
    exact ⟨_, next, s.taken_idle _⟩
  case runRest =>
    intro handed oldest state
    have next := exec_runDropped awake fitted handed oldest
    have idle : (s.setHanded (pre ++ post)).runLineSeen k false = s.setHanded (pre ++ post) := by
      by_cases running : ((s.eng k).state = .online ∧ (s.eng k).stopPending = true) ∨ (s.eng k).state = .cooldown
      · refine (State.runLineSeen_restates (s := s.setHanded (pre ++ post)) running).trans (State.restateStop_idle ?_)
        obtain h | h | h | ⟨-, h⟩ := state
        · simp [h] at running
        · simp [h] at running
        · simp [h] at running
        · exact h
      · exact State.runLineSeen_rest (s := s.setHanded (pre ++ post)) (by tauto)
    rw [idle] at next
    exact ⟨_, next, s.taken_idle _⟩
  case offered =>
    intro i none handed oldest state
    have line : i = .run ∨ i = .emergency := none.imp And.left And.left
    have next := exec_lineOffers line awake fitted handed oldest (by tauto)
    rw [State.runDemandStart_idle (s := s.setHanded (pre ++ post)) (.inr (.inl state))] at next
    exact ⟨_, next, s.taken_idle _⟩
  case stopped =>
    intro i line handed oldest state
    have next := exec_lineOffers line awake fitted handed oldest (.inr (.inr state))
    refine ⟨fun demand admits => ?_, fun held => ?_⟩
    · obtain ⟨starts, frame⟩ := (State.runDemandStart_offers (s.setHanded (pre ++ post)) k).1 fitted state demand admits
      exact ⟨_, next, starts, State.onlyChanges_after frame (by simp [engineParts])⟩
    · rw [State.runDemandStart_idle (s := s.setHanded (pre ++ post)) (.inr (.inr held))] at next
      exact ⟨_, next, s.taken_idle _⟩
  case iso =>
    intro fitted handed oldest good
    have next := exec_levelChange awake handed oldest
    rw [State.levelSeen_iso (s := s.setHanded (pre ++ post)) fitted] at next
    have good' : (s.setHanded (pre ++ post)).tableGood := good
    refine ⟨fun iso seen u hu => ?_, fun level request seen u hu => ?_, fun same => ?_⟩
    · have holds : (s.setHanded (pre ++ post)).isoCond k = true := Bool.or_eq_true_iff.mpr iso
      obtain ⟨isolates, noted, -, -⟩ := State.reviewIsolation_isolates good' holds seen
      exact ⟨_, next, noted, hu ▸ isolates⟩
    · have clear : (s.setHanded (pre ++ post)).isoCond k = false := Bool.or_eq_false_iff.mpr ⟨level, request⟩
      obtain ⟨returns, noted, -, -⟩ := State.reviewIsolation_returns good' fitted clear seen
      exact ⟨_, next, noted, hu ▸ returns⟩
    · rw [State.reviewIsolation_same (s := s.setHanded (pre ++ post)) same] at next
      exact ⟨_, next, s.taken_idle _⟩
  case seen =>
    intro handed oldest shared line
    have next := exec_levelChange awake handed oldest
    have seen := State.externalGrant_seen (s := s.setHanded (pre ++ post)) shared line
    let m := (s.setHanded (pre ++ post)).setCar { s.car with line := .held }
    have grants : (s.setHanded (pre ++ post)).levelSeen .gnt .car true = m.decideGrant := seen
    rw [grants] at next
    have moved : (s.setHanded (pre ++ post)).onlyChanges m [.car] := by
      simp [m, State.onlyChanges_iff, Part.same, State.eng, State.sense, State.dutyOf]
    refine ⟨_, next, m.decideGrant_line.1, State.onlyChanges_after ((moved.mono (by simp)).trans m.decideGrant_onlyChanges)
      (by simp), fun none => ?_, fun idle first => ?_⟩
    · rw [State.decideGrant_none (s := m) (none.imp id .inr)]
      exact ⟨rfl, rfl⟩
    · obtain ⟨car, handed⟩ := State.decideGrant_some (s := m) idle (State.supplyHeld_of (.inr rfl)) first
      exact ⟨car, handed⟩
  case withdrawn =>
    intro handed oldest shared line
    have next := exec_levelChange awake handed oldest
    have on : s.resetting.isNone = true := awake
    have gone := State.externalGrant_withdrawn (s := s.setHanded (pre ++ post)) shared line
    refine ⟨fun holder => ?_, fun holder => ?_⟩
    · have seen : (s.setHanded (pre ++ post)).levelSeen .gnt .car false =
        (s.setHanded (pre ++ post)).setCar { s.car with line := .withdrawn } := gone.trans (if_pos holder)
      rw [seen] at next
      refine ⟨_, next, rfl, by simp [State.apuReq, on, LineState.requests], rfl, ?_⟩
      simp [State.onlyChanges_iff, Part.same, State.eng, State.sense, State.dutyOf]
    · have seen : (s.setHanded (pre ++ post)).levelSeen .gnt .car false = (s.setHanded (pre ++ post)).deassert :=
        gone.trans (if_neg (by simp [holder]))
      rw [seen] at next
      refine ⟨_, next, rfl, by simp [State.apuReq, State.deassert, LineState.requests], rfl, ?_⟩
      simp [State.deassert, State.onlyChanges_iff, Part.same, State.eng, State.sense, State.dutyOf]
  case other =>
    intro handed oldest other
    have next := exec_levelChange awake handed oldest
    cases mode : s.cfg.arbiter.sharing with
    | shared =>
      have idle : (s.setHanded (pre ++ post)).levelSeen .gnt .car v = s.setHanded (pre ++ post) :=
        State.externalGrant_other (s := s.setHanded (pre ++ post)) mode other
      rw [idle] at next
      exact ⟨_, next, s.taken_idle _⟩
    | exclusive =>
      have idle : (s.setHanded (pre ++ post)).levelSeen .gnt .car v = s.setHanded (pre ++ post) :=
        State.externalGrant_exclusive (s := s.setHanded (pre ++ post)) mode
      rw [idle] at next
      exact ⟨_, next, s.taken_idle _⟩
  case exclusive =>
    intro handed oldest mode
    have next := exec_levelChange awake handed oldest
    have idle : (s.setHanded (pre ++ post)).levelSeen .gnt .car v = s.setHanded (pre ++ post) :=
      State.externalGrant_exclusive (s := s.setHanded (pre ++ post)) mode
    rw [idle] at next
    exact ⟨_, next, s.taken_idle _⟩
  case opened =>
    intro handed
    have next := exec_levelChange awake handed oldest
    rw [State.levelSeen_lube (s := s.setHanded (pre ++ post)) fitted, if_neg (by simp)] at next
    refine ⟨fun state => ?_, fun state held => ?_, fun online cooldown h => ?_⟩
    · rw [State.lubeOpened_trips (s := s.setHanded (pre ++ post)) state] at next
      obtain ⟨record, changed, events, warmup, left, handsOn, frame⟩ :=
        (s.setHanded (pre ++ post)).trip_tripsTo k .lowLube []
      exact ⟨_, next, record, changed, events, warmup, left, handsOn,
        State.onlyChanges_after frame (by simp [engineParts])⟩
    · rw [State.lubeOpened_prelube (s := s.setHanded (pre ++ post)) state,
        if_pos (show ((s.setHanded (pre ++ post)).eng k).held = true from held)] at next
      exact ⟨_, next, State.eng_setEng_self _ k _, rfl,
        State.onlyChanges_after ((State.modEng_onlyChanges _ k _).mono (by simp)) (by simp)⟩
    · have idle : (s.setHanded (pre ++ post)).lubeOpened k = s.setHanded (pre ++ post) := by
        by_cases prelube : (s.eng k).state = .prelube
        · have free : (s.eng k).held = false := h.resolve_left (fun out => out prelube)
          exact (State.lubeOpened_prelube (s := s.setHanded (pre ++ post)) prelube).trans
            (if_neg (by rw [State.setHanded_eng, free]; simp))
        · exact State.lubeOpened_other (s := s.setHanded (pre ++ post)) online cooldown prelube
      rw [idle] at next
      exact ⟨_, next, s.taken_idle _⟩
  case closed =>
    intro handed
    have next := exec_levelChange awake handed oldest
    rw [State.levelSeen_lube (s := s.setHanded (pre ++ post)) fitted, if_pos rfl] at next
    refine ⟨fun state free point => ?_, fun state free point => ?_, fun state held => ?_, fun state free test => ?_,
      fun prelube h => ?_⟩
    · have step : (s.setHanded (pre ++ post)).prelubeStep k = (s.setHanded (pre ++ post)).enterCrankWait k := if_neg point
      rw [State.lubeClosed_prelube (s := s.setHanded (pre ++ post)) state,
        if_neg (by rw [State.setHanded_eng, free]; simp), step] at next
      obtain ⟨record, waits, joined, changed, frame⟩ := State.enterCrankWait_joins (s := s.setHanded (pre ++ post))
        (k := k) (by rw [State.setHanded_eng, state]; simp) (by rw [State.setHanded_eng, state]; simp)
      refine ⟨_, next, ?_⟩
      rw [record]
      exact ⟨rfl, rfl, rfl, rfl, changed, waits, joined, State.onlyChanges_after frame (by simp)⟩
    · have step : (s.setHanded (pre ++ post)).prelubeStep k = (s.setHanded (pre ++ post)).hold k := if_pos point
      rw [State.lubeClosed_prelube (s := s.setHanded (pre ++ post)) state,
        if_neg (by rw [State.setHanded_eng, free]; simp), step] at next
      obtain ⟨record, -, changed, -, frame⟩ := (s.setHanded (pre ++ post)).hold_changes k
      exact ⟨_, next, record, changed, frame .handed (by simp),
        State.onlyChanges_after (frame.mono (by simp)) (by simp)⟩
    · rw [State.lubeClosed_prelube (s := s.setHanded (pre ++ post)) state,
        if_pos (show ((s.setHanded (pre ++ post)).eng k).held = true from held)] at next
      exact ⟨_, next, State.eng_setEng_self _ k _, rfl,
        State.onlyChanges_after ((State.modEng_onlyChanges _ k _).mono (by simp)) (by simp)⟩
    · rw [State.lubeClosed_other (s := s.setHanded (pre ++ post)) (by rw [State.setHanded_eng, state]; simp)] at next
      obtain ⟨passes, frame⟩ := State.tryOnline_passes (s := s.setHanded (pre ++ post)) state free test
      exact ⟨_, next, passes, State.onlyChanges_after frame (by simp)⟩
    · rw [State.lubeClosed_other (s := s.setHanded (pre ++ post)) prelube,
        State.tryOnline_idle (s := s.setHanded (pre ++ post)) h] at next
      exact ⟨_, next, s.taken_idle _⟩

end Sys2Proof.Machine

namespace Sys2Proof.Machine

/-! ## What each recipient makes of a limits-changed event -/

section

variable {s : State} {k : Engine} {p q : Bool}

theorem State.admits_of_stop (stop : s.limits.stop.get k = true) : s.admits k = false := by
  rw [Bool.eq_false_iff]
  intro admits
  obtain ⟨-, -, -, -, -, free, -⟩ := ((s.admits_iff k).mp admits).1
  rw [stop] at free
  cases free

theorem State.takeRecall_idle (state : (s.eng k).state ≠ .online) (cooldown : (s.eng k).state ≠ .cooldown) :
    s.takeRecall k = s := by
  simp [State.takeRecall, state, cooldown]

theorem State.takeRecall_other (reason : (s.eng k).stopReason ≠ some .shed) : s.takeRecall k = s := if_neg reason

/-- A stop demand newly holding is a stop order. -/
theorem State.limitsSeen_stops {t : State} (stop : s.limits.stop.get k = true) (does : s.takeStop k .stopDemand = t)
    (recalled : t.takeRecall k = t) (settled : t.runDemandStart k = t) : s.limitsSeen k true q = t := by
  unfold State.limitsSeen
  rw [stop]
  simp [does, recalled, settled]

theorem State.limitsSeen_pends (stop : s.limits.stop.get k = true) (online : (s.eng k).state = .online)
    (free : (s.eng k).stopPending = false) : s.limitsSeen k true q = s.pendStop k .stopDemand := by
  obtain ⟨record, -⟩ := s.pendStop_changes k .stopDemand
  refine State.limitsSeen_stops stop (State.takeStop_online online free (.inl (by simp))) ?_ ?_
  · exact State.takeRecall_other (by rw [record]; simp)
  · exact State.runDemandStart_idle (.inr (.inl (by rw [record, online]; nofun)))

theorem State.limitsSeen_restates (stop : s.limits.stop.get k = true)
    (running : ((s.eng k).state = .online ∧ (s.eng k).stopPending = true) ∨ (s.eng k).state = .cooldown)
    (shed : (s.eng k).stopReason = some .shed) : s.limitsSeen k true q = s.restateStop k .stopDemand := by
  obtain ⟨record, -⟩ := State.restateStop_changes (reason := .stopDemand) shed (by simp)
  refine State.limitsSeen_stops stop (State.takeStop_stopped (by simp) running) ?_ ?_
  · exact State.takeRecall_other (by rw [record]; simp)
  · refine State.runDemandStart_idle (.inr (.inl ?_))
    rw [record]
    obtain ⟨online, -⟩ | cooldown := running
    · simp [online]
    · simp [cooldown]

/-- A start ended leaves its engine out of O. -/
theorem State.abortsTo_state {t : State} (aborts : s.abortsTo t k) (path : (s.eng k).state.startPath = true) :
    (t.eng k).state ≠ .online ∧ (t.eng k).state ≠ .cooldown := by
  obtain ⟨-, -, stopping, resting⟩ := aborts
  by_cases running : (s.eng k).state = .cranking ∨ (s.eng k).state = .runup
  · obtain ⟨record, -⟩ := stopping running
    rw [record]
    exact ⟨nofun, nofun⟩
  · obtain ⟨state, -⟩ := resting (by cases hs : (s.eng k).state <;> simp_all [EState.startPath])
    rw [state]
    split <;> exact ⟨nofun, nofun⟩

theorem State.limitsSeen_aborts (good : s.tableGood) (stop : s.limits.stop.get k = true)
    (path : (s.eng k).state.startPath = true) :
    s.abortsTo (s.limitsSeen k true q) k ∧ s.onlyChanges (s.limitsSeen k true q) (engineParts k) := by
  have stays : s.admits k = false := State.admits_of_stop stop
  obtain ⟨aborts, frame⟩ := State.takeStop_aborts (reason := .stopDemand) good (by simp) path (by tauto)
  obtain ⟨online, cooldown⟩ := State.abortsTo_state aborts path
  rw [State.limitsSeen_stops stop rfl (State.takeRecall_idle online cooldown)
    (State.takeStop_aborts_settled good (by simp) path (by tauto))]
  exact ⟨aborts, frame⟩

/-- A run demand newly holding is a recall. -/
theorem State.limitsSeen_recalls (stop : s.limits.stop.get k = false) (run : s.limits.run.get k = true)
    (state : ((s.takeRecall k).eng k).state = .online) : s.limitsSeen k p true = s.takeRecall k := by
  have settled : (s.takeRecall k).runDemandStart k = s.takeRecall k :=
    State.runDemandStart_idle (.inr (.inl (by rw [state]; nofun)))
  unfold State.limitsSeen
  rw [stop]
  simp [run, settled]

/-- On a STOPPED engine a limits-changed event is an offer of the run demand in force. -/
theorem State.limitsSeen_rest (rest : (s.eng k).state = .stopped) : s.limitsSeen k p q = s.runDemandStart k := by
  have stop : s.takeStop k .stopDemand = s := State.takeStop_idle (by simp) (.inr (.inl rest))
  have recalls : s.takeRecall k = s := State.takeRecall_idle (by simp [rest]) (by simp [rest])
  simp [State.limitsSeen, stop, recalls]

theorem exec_limitsChanged_esq {pre post : List Event} (awake : s.awake = true) (fitted : s.fitted k = true)
    (handed : s.handed = pre ++ .limits (.esq k) p q :: post) (oldest : ∀ x y, .limits (.esq k) x y ∉ pre) :
    exec (.limitsChanged (.esq k)) s = .next ((s.setHanded (pre ++ post)).limitsSeen k p q) :=
  (exec_limitsChanged awake handed oldest).trans (congrArg Host.Outcome.next (if_pos fitted))

end

/-- Settles O14: a limits-changed event at a sequencer is the stop order, the recall and the offer of a run demand of the
lemmas above, and at the arbiter a grant decision. -/
theorem limitsChangedTakenByRecipients : Obligations.LimitsChangedTakenByRecipients := by
  unfold Obligations.LimitsChangedTakenByRecipients
  intro s pre post p q k awake
  refine ⟨fun handed oldest => ?planner, fun fitted handed oldest stop _ online free => ?pends,
    fun fitted handed oldest stop good => ⟨fun running shed => ?restates, fun path => ?aborts⟩,
    fun fitted handed oldest rest => ⟨fun demand admits => ?starts, fun h => ?stays⟩,
    fun fitted handed oldest run stop online pending shed => ?cancels,
    fun fitted handed oldest run stop cooldown shed => ?returns, fun handed oldest idle held first => ?arbiter⟩
  case planner =>
    exact ⟨_, exec_limitsChanged awake handed oldest, rfl,
      State.onlyChanges_after (State.emit_onlyChanges _ _) (by simp)⟩
  case pends =>
    have next := exec_limitsChanged_esq awake fitted handed oldest
    rw [State.limitsSeen_pends (s := s.setHanded (pre ++ post)) stop online free] at next
    obtain ⟨record, -, -, frame⟩ := (s.setHanded (pre ++ post)).pendStop_changes k .stopDemand
    exact ⟨_, next, record, rfl, State.onlyChanges_after frame (by simp)⟩
  case restates =>
    have next := exec_limitsChanged_esq awake fitted handed oldest
    rw [State.limitsSeen_restates (s := s.setHanded (pre ++ post)) stop running shed] at next
    obtain ⟨record, frame⟩ := State.restateStop_changes (s := s.setHanded (pre ++ post)) (reason := .stopDemand) shed (by simp)
    exact ⟨_, next, record, frame .handed (by simp), State.onlyChanges_after (frame.mono (by simp)) (by simp)⟩
  case aborts =>
    obtain ⟨aborts, frame⟩ := State.limitsSeen_aborts (s := s.setHanded (pre ++ post)) (q := q) good stop path
    exact ⟨_, exec_limitsChanged_esq awake fitted handed oldest, aborts,
      State.onlyChanges_after frame (by simp [engineParts])⟩
  case starts =>
    have next := exec_limitsChanged_esq awake fitted handed oldest
    rw [State.limitsSeen_rest (s := s.setHanded (pre ++ post)) rest,
      State.runDemandStart_starts (s := s.setHanded (pre ++ post)) fitted rest demand admits] at next
    obtain ⟨starts, -, -, frame⟩ := State.admitStart_changes (s := s.setHanded (pre ++ post)) (reason := .runDemand) rest
    exact ⟨_, next, starts, State.onlyChanges_after (frame.mono (by simp [engineParts])) (by simp [engineParts])⟩
  case stays =>
    have next := exec_limitsChanged_esq awake fitted handed oldest
    rw [State.limitsSeen_rest (s := s.setHanded (pre ++ post)) rest,
      State.runDemandStart_idle (s := s.setHanded (pre ++ post)) (.inr (.inr h))] at next
    exact ⟨_, next, s.taken_idle _⟩
  case cancels =>
    obtain ⟨record, -, -, frame⟩ := (State.takeRecall_changes (s := s.setHanded (pre ++ post)) shed).1 online pending
    have next := exec_limitsChanged_esq (p := p) awake fitted handed oldest
    rw [State.limitsSeen_recalls (s := s.setHanded (pre ++ post)) stop run (by rw [record]; exact online)] at next
    refine ⟨_, next, record, ?_, State.onlyChanges_after frame (by simp)⟩
    unfold State.takeRecall
    simp [State.setHanded_eng, shed, online, pending]
  case returns =>
    obtain ⟨record, -, kept, frame⟩ := (State.takeRecall_changes (s := s.setHanded (pre ++ post)) shed).2 cooldown
    have next := exec_limitsChanged_esq (p := p) awake fitted handed oldest
    rw [State.limitsSeen_recalls (s := s.setHanded (pre ++ post)) stop run (by rw [record])] at next
    refine ⟨_, next, ?_⟩
    rw [record]
    exact ⟨rfl, rfl, rfl, rfl, kept, State.onlyChanges_after frame (by simp)⟩
  case arbiter =>
    have supply : s.supplyHeld = true := by simpa [State.supplyHeld] using held
    obtain ⟨car, handed'⟩ := State.decideGrant_some (s := s.setHanded (pre ++ post)) idle supply first
    exact ⟨_, exec_limitsChanged awake handed oldest, car, handed',
      State.onlyChanges_after (State.decideGrant_onlyChanges _) (by simp)⟩

end Sys2Proof.Machine

namespace Sys2Proof.Machine

/-! ## What a speed update measures (R135 to R139) -/

theorem readingOf_measured (n teeth : Nat) : readingOf n teeth ≠ .notMeasured := by
  unfold readingOf
  split
  · nofun
  · split <;> nofun

/-- The first window holds every pulse counted so far. -/
theorem PickupState.first_window (p : PickupState) (draw : Nat) :
    (p.first draw).current = 0 ∧ (p.first draw).window = p.current := by
  unfold PickupState.first
  split
  next none => exact ⟨rfl, none.symm⟩
  next =>
    simp only [PickupState.window]
    exact ⟨trivial, by omega⟩

theorem Sensing.measure_first {x : Sensing} (first : x.a.reading = .notMeasured) (teeth draw : Nat) :
    x.measure teeth draw = { x with a := (x.a.first draw).read teeth, b := (x.b.first (draw + 3)).read teeth } :=
  if_pos (decide_eq_true first)

theorem Sensing.measure_next {x : Sensing} (next : x.a.reading ≠ .notMeasured) (teeth draw : Nat) :
    x.measure teeth draw = { x with a := x.a.close.read teeth, b := x.b.close.read teeth } :=
  if_neg (by simpa [Sensing.unmeasured] using next)

/-- The sensing set after the measurement and any failover. -/
def Sensing.updated (x : Sensing) (teeth draw : Nat) : Sensing :=
  if (x.measure teeth draw).failsOver then (x.measure teeth draw).failover.noteRestored
  else (x.measure teeth draw).noteRestored

/-- A speed update up to the report: the readings formed, the failover, and the free values drawn. -/
def State.measured (s : State) (k : Engine) : State :=
  let y := (s.sense k).measure s.cfg.roster.teeth s.freeCount
  let t := if (s.sense k).unmeasured then s.setFreeCount (s.freeCount + 6) else s
  if y.failsOver then (t.setSense k y.failover.noteRestored).postInternal .pickup k else t.setSense k y.noteRestored

theorem Sensing.noteRestored_keeps (x : Sensing) : x.noteRestored = { x with restored := x.noteRestored.restored } := by
  unfold Sensing.noteRestored
  split
  · split <;> rfl
  · rfl

theorem Reading.atLeast_iff (r : Reading) (floor : Nat) : r.atLeast floor = true ↔ ∃ v sat, r = .good v sat ∧ floor ≤ v := by
  cases r <;> simp [Reading.atLeast]

theorem Sensing.noteRestored_restored (x : Sensing) : x.noteRestored.restored = true ↔ x.restored = true ∨
    (x.degraded = true ∧ ∃ p v sat, x.failed = some p ∧ (x.pickup p).reading = .good v sat) := by
  unfold Sensing.noteRestored
  cases hf : x.failed with
  | none => simp
  | some p =>
    have sees : (x.pickup p).reading.atLeast 0 = true ↔ ∃ v sat, (x.pickup p).reading = .good v sat := by
      simp [Reading.atLeast_iff]
    simp only [Option.some.injEq, exists_and_left, exists_eq_left', ← sees]
    cases x.degraded <;> cases (x.pickup p).reading.atLeast 0 <;> simp

section

variable (s : State) (k : Engine)

theorem State.speedUpdate_eq : s.speedUpdate k =
    if (s.sense k).unmeasured ∧ (s.eng k).state = .stopped then ((s.measured k).speedReport k).runDemandStart k
    else (s.measured k).speedReport k := rfl

theorem State.formed_first (p : Pickup) (first : (s.sense k).a.reading = .notMeasured) :
    s.formed k p = readingOf ((s.sense k).pickup p).current s.cfg.roster.teeth := by
  cases p <;> simp [State.formed, Sensing.pickup, first]

theorem State.formed_next (p : Pickup) (next : (s.sense k).a.reading ≠ .notMeasured) :
    s.formed k p = readingOf ((s.sense k).pickup p).close.window s.cfg.roster.teeth := by
  cases p <;> simp [State.formed, Sensing.pickup, next] <;> rfl

theorem State.measure_reading (draw : Nat) (p : Pickup) :
    (((s.sense k).measure s.cfg.roster.teeth draw).pickup p).reading = s.formed k p := by
  by_cases first : (s.sense k).a.reading = .notMeasured
  · rw [Sensing.measure_first first, s.formed_first k p first]
    cases p <;> simp [Sensing.pickup, PickupState.read, PickupState.first_window]
  · rw [Sensing.measure_next first, s.formed_next k p first]
    cases p <;> rfl

theorem Sensing.measure_keeps (x : Sensing) (teeth draw : Nat) : x.measure teeth draw =
    { x with a := (x.measure teeth draw).a, b := (x.measure teeth draw).b } := by
  unfold Sensing.measure
  split <;> rfl

theorem otherPickup_eq (p : Pickup) : otherPickup p = p.other := by cases p <;> rfl

/-- The failover is due exactly when the measured set fails over. -/
theorem State.failsOver_eq : ((s.sense k).measure s.cfg.roster.teeth s.freeCount).failsOver = s.failoverDue k := by
  have reading (p : Pickup) := s.measure_reading k s.freeCount p
  have selection : ((s.sense k).measure s.cfg.roster.teeth s.freeCount).selection = (s.sense k).selection := by
    rw [Sensing.measure_keeps]
  unfold Sensing.failsOver State.failoverDue
  rw [selection, reading, reading, otherPickup_eq]
  rfl

theorem State.failoverDue_iff : s.failoverDue k = true ↔ s.formed k (s.sense k).selection = .silent ∧
    ∃ v sat, s.formed k (otherPickup (s.sense k).selection) = .good v sat ∧ 100 ≤ v := by
  unfold State.failoverDue
  cases s.formed k (otherPickup (s.sense k).selection) <;> simp

/-- The sensing set that the report is made of. -/
theorem State.measured_sense : (s.measured k).sense k = (s.sense k).updated s.cfg.roster.teeth s.freeCount := by
  unfold State.measured Sensing.updated
  simp only
  split
  · exact ((State.postInternal_onlyChanges _ .pickup k).sense k (by simp)).trans (State.sense_setSense_self _ k _)
  · exact State.sense_setSense_self _ k _

theorem Sensing.updated_keeps (x : Sensing) (teeth draw : Nat) :
    (x.updated teeth draw).a = (x.measure teeth draw).a ∧ (x.updated teeth draw).b = (x.measure teeth draw).b ∧
      (x.updated teeth draw).coolant = x.coolant ∧ (x.updated teeth draw).sensorGood = x.sensorGood ∧
      (x.updated teeth draw).hotCount = x.hotCount ∧ (x.updated teeth draw).coolCount = x.coolCount ∧
      (x.updated teeth draw).overCount = x.overCount ∧ (x.updated teeth draw).warmCount = x.warmCount ∧
      (x.updated teeth draw).warmed = x.warmed := by
  unfold Sensing.updated
  split <;> rw [Sensing.noteRestored_keeps, Sensing.measure_keeps]
  · exact ⟨rfl, rfl, rfl, rfl, rfl, rfl, rfl, rfl, rfl⟩
  · exact ⟨rfl, rfl, rfl, rfl, rfl, rfl, rfl, rfl, rfl⟩

/-- The readings of the report are the readings formed. -/
theorem State.measured_reading (p : Pickup) : (((s.measured k).sense k).pickup p).reading = s.formed k p := by
  obtain ⟨a, b, -⟩ := (s.sense k).updated_keeps s.cfg.roster.teeth s.freeCount
  rw [State.measured_sense, ← s.measure_reading k s.freeCount p]
  cases p
  · exact congrArg PickupState.reading a
  · exact congrArg PickupState.reading b

theorem State.measured_failover (due : s.failoverDue k = true) :
    ((s.measured k).sense k).selection = otherPickup (s.sense k).selection ∧
      ((s.measured k).sense k).failed = some (s.sense k).selection ∧ ((s.measured k).sense k).degraded = true ∧
      ((s.measured k).sense k).restored = false := by
  obtain ⟨silent, -⟩ := (s.failoverDue_iff k).mp due
  rw [State.measured_sense, Sensing.updated, State.failsOver_eq, if_pos due]
  have restored : ((s.sense k).measure s.cfg.roster.teeth s.freeCount).failover.noteRestored.restored = false := by
    rw [Bool.eq_false_iff, ne_eq, Sensing.noteRestored_restored]
    rintro (h | ⟨-, p, v, sat, failed, good⟩)
    · cases h
    · have left : (s.sense k).selection = p := by
        rw [Sensing.measure_keeps] at failed
        exact Option.some.inj failed
      have reading : s.formed k p = .good v sat := by
        rw [← good, ← s.measure_reading k s.freeCount p]
        cases p <;> rfl
      rw [← left, silent] at reading
      cases reading
  rw [Sensing.noteRestored_keeps, restored, otherPickup_eq, Sensing.failover, Sensing.measure_keeps]
  exact ⟨rfl, rfl, rfl, rfl⟩

theorem State.measured_selection (stays : s.failoverDue k = false) :
    ((s.measured k).sense k).selection = (s.sense k).selection ∧
      ((s.measured k).sense k).failed = (s.sense k).failed ∧
      ((s.measured k).sense k).degraded = (s.sense k).degraded ∧
      (((s.measured k).sense k).restored = true ↔ (s.sense k).restored = true ∨
        ((s.sense k).degraded = true ∧ ∃ p v sat, (s.sense k).failed = some p ∧ s.formed k p = .good v sat)) := by
  have updated : (s.measured k).sense k = ((s.sense k).measure s.cfg.roster.teeth s.freeCount).noteRestored := by
    rw [State.measured_sense, Sensing.updated, State.failsOver_eq, stays]
    rfl
  have restored := ((s.sense k).measure s.cfg.roster.teeth s.freeCount).noteRestored_restored
  simp only [s.measure_reading k s.freeCount] at restored
  rw [updated, restored]
  rw [Sensing.noteRestored_keeps, Sensing.measure_keeps]
  exact ⟨rfl, rfl, rfl, Iff.rfl⟩

theorem State.setFreeCount_onlyChanges (n : Nat) : s.onlyChanges (s.setFreeCount n) [.freeCount] := by
  simp [State.onlyChanges_iff, Part.same, State.eng, State.sense, State.dutyOf]

/-- The measurement, and the post of PICKUP that a failover makes of it. -/
theorem State.measured_posts : ∃ m : State,
    s.onlyChanges m (.sense k :: if (s.sense k).a.reading = .notMeasured then [.freeCount] else []) ∧
      s.measured k = if s.failoverDue k then m.postInternal .pickup k else m := by
  have drawn : s.onlyChanges (if (s.sense k).unmeasured then s.setFreeCount (s.freeCount + 6) else s)
      (if (s.sense k).a.reading = .notMeasured then [.freeCount] else []) := by
    by_cases first : (s.sense k).a.reading = .notMeasured
    · rw [if_pos first, if_pos (show (s.sense k).unmeasured = true from decide_eq_true first)]
      exact s.setFreeCount_onlyChanges _
    · rw [if_neg first, if_neg (show ¬ (s.sense k).unmeasured = true by simpa [Sensing.unmeasured] using first)]
      exact s.onlyChanges_refl []
  unfold State.measured
  simp only [State.failsOver_eq]
  generalize (if (s.sense k).unmeasured then s.setFreeCount (s.freeCount + 6) else s) = t at *
  have sensed (x : Sensing) : s.onlyChanges (t.setSense k x)
      (.sense k :: if (s.sense k).a.reading = .notMeasured then [.freeCount] else []) :=
    (drawn.mono (List.subset_cons_self _ _)).trans ((t.setSense_onlyChanges k x).mono (by simp))
  cases s.failoverDue k
  · exact ⟨_, sensed _, rfl⟩
  · exact ⟨_, sensed _, rfl⟩

theorem State.measured_onlyChanges : s.onlyChanges (s.measured k) (s.updateParts k) := by
  obtain ⟨m, frame, eq⟩ := s.measured_posts k
  rw [eq]
  unfold State.updateParts
  split
  · exact (frame.mono (List.subset_append_left _ _)).trans
      ((m.postInternal_onlyChanges .pickup k).mono (List.subset_append_right _ _))
  · rw [List.append_nil]
    exact frame

theorem State.mem_updateParts {p : Part} (h : p ∈ s.updateParts k) :
    p ∈ [.sense k, .freeCount, .table, .limits, .handed] := by
  unfold State.updateParts at h
  split at h <;> split at h <;> simp at h ⊢ <;> tauto

theorem State.measured_keeps : (s.measured k).eng = s.eng ∧ (s.measured k).car = s.car ∧
    (s.measured k).cfs = s.cfs ∧ (s.measured k).lic = s.lic ∧ (s.measured k).cfg = s.cfg ∧
    (s.measured k).fitted = s.fitted := by
  have frame := (s.measured_onlyChanges k).mono fun _ => s.mem_updateParts k
  have cfs : (s.measured k).cfs = s.cfs := frame.cfs (by simp)
  exact ⟨funext fun j => frame.eng j (by simp), frame .car (by simp), cfs, frame .lic (by simp),
    State.cfg_congr cfs, State.fitted_congr cfs⟩

/-- With no failover the table, its limits and the events stand. -/
theorem State.measured_idle (stays : s.failoverDue k = false) : (s.measured k).table = s.table ∧
    (s.measured k).limits = s.limits := by
  obtain ⟨m, frame, eq⟩ := s.measured_posts k
  rw [eq, stays]
  exact ⟨frame.table (by split <;> simp), frame .limits (by split <;> simp)⟩

/-- What the post of PICKUP leaves: the demands, every slot but its own, and the events handed before. -/
theorem State.measured_limits (good : s.tableGood) : (s.measured k).tableGood ∧
    s.limits.sameDemands (s.measured k).limits ∧ eventsKept s.handed (s.measured k).handed ∧
    (∀ e ∈ s.limitsHanded s.limits (s.measured k).limits, e ∈ (s.measured k).handed) ∧
    (∀ n, n ≠ internalSlot .pickup k → slotAt (s.measured k).table n = slotAt s.table n) := by
  obtain ⟨m, frame, eq⟩ := s.measured_posts k
  have table : m.table = s.table := frame.table (by split <;> simp)
  have limits : m.limits = s.limits := frame .limits (by split <;> simp)
  have handed : m.handed = s.handed := frame .handed (by split <;> simp)
  have fitted : m.fitted = s.fitted := State.fitted_congr (frame.cfs (by split <;> simp))
  have goodM : m.tableGood := (State.tableKept_of_eq table limits).1 good
  rw [eq]
  split
  · refine ⟨(m.tableKept_postInternal .pickup k).1 goodM, ?_, ?_, ?_, fun n other => ?_⟩
    · rw [← limits]
      exact State.postInternal_sameDemands goodM k rfl
    · rw [State.postInternal_handsOn, handed]
      exact eventsKept_of_prefix (List.prefix_append _ _)
    · rw [State.postInternal_handsOn, State.limitsHanded_congr fitted, limits]
      exact fun e he => List.mem_append_right _ he
    · rw [State.postInternal_slot, if_neg fun h => other h.1, table]
  · refine ⟨goodM, by rw [limits]; exact ⟨rfl, rfl, rfl⟩, by rw [handed]; exact eventsKept_of_prefix (List.prefix_refl _),
      ?_, fun n _ => by rw [table]⟩
    rw [limits, State.limitsHanded_refl]
    nofun

/-- At a failover PICKUP is posted where it is FREE, and stays where it is LIVE. -/
theorem State.measured_pickup (good : s.tableGood) (fitted : s.fitted k = true) (due : s.failoverDue k = true) :
    (s.measured k).stands .pickup k = true ∧
      (s.stands .pickup k = false → slotAt (s.measured k).table (internalSlot .pickup k) =
        ⟨nextGen (slotAt s.table (internalSlot .pickup k)).gen, some (s.internalEntry .pickup k)⟩) ∧
      (s.stands .pickup k = true →
        slotAt (s.measured k).table (internalSlot .pickup k) = slotAt s.table (internalSlot .pickup k)) := by
  obtain ⟨m, frame, eq⟩ := s.measured_posts k
  have table : m.table = s.table := frame.table (by split <;> simp)
  have cfs : m.cfs = s.cfs := frame.cfs (by split <;> simp)
  have stands : m.stands .pickup k = s.stands .pickup k := by simp [State.stands, table]
  have goodM : m.tableGood := (State.tableKept_of_eq table (frame .limits (by split <;> simp))).1 good
  have entry : m.internalEntry .pickup k = s.internalEntry .pickup k := by
    simp [State.internalEntry, State.cfg_congr cfs]
  rw [eq, if_pos due]
  cases live : s.stands .pickup k with
  | false =>
    obtain ⟨slot, -, -⟩ := State.postInternal_posts goodM (by rw [State.fitted_congr cfs]; exact fitted)
      (stands.trans live)
    rw [entry, table] at slot
    exact ⟨by rw [State.stands, slot]; rfl, fun _ => slot, nofun⟩
  | true =>
    have idle : m.postInternal .pickup k = m := if_neg (by simp [stands, live])
    rw [idle]
    exact ⟨stands.trans live, nofun, fun _ => by rw [table]⟩

end

end Sys2Proof.Machine

namespace Sys2Proof.Machine

/-! ## What a sequencer may change at a speed report -/

/-- Limits with one set of demands hand on the same events whatever else of them changes. -/
theorem State.limitsHanded_trans {s : State} {l l' l'' : Limits} {e : Event} (first : l.sameDemands l')
    (second : l'.sameDemands l'') (h : e ∈ s.limitsHanded l l'') : e ∈ s.limitsHanded l l' ∨ e ∈ s.limitsHanded l' l'' := by
  obtain ⟨-, stop, run⟩ := first
  obtain ⟨-, stop', run'⟩ := second
  by_cases same : l' = l
  · subst same
    exact .inr h
  · refine .inl ?_
    unfold State.limitsHanded at h ⊢
    rw [if_neg same, stop, run]
    split at h
    · cases h
    · rw [stop', run', stop, run] at h
      exact h

/-- From u to t the sequencer of engine k, with what it asks of the others, has acted: of its sensing set it moves only warmed
and the warm count, of the table only the WARMUP slot. -/
structure State.reportMoves (u t : State) (k : Engine) : Prop where
  frame : u.onlyChanges t (.sense k :: engineParts k)
  sense : t.sense k = { u.sense k with warmed := (t.sense k).warmed, warmCount := (t.sense k).warmCount }
  slots : ∀ n, n ≠ internalSlot .warmup k → slotAt t.table n = slotAt u.table n
  kept : eventsKept u.handed t.handed
  limits : u.tableGood → t.tableGood ∧ u.limits.sameDemands t.limits ∧
    ∀ e ∈ u.limitsHanded u.limits t.limits, e ∈ t.handed

section

variable {s t u : State} {k : Engine}

theorem State.reportMoves.refl (s : State) (k : Engine) : s.reportMoves s k where
  frame := s.onlyChanges_refl _
  sense := rfl
  slots _ _ := rfl
  kept := eventsKept_of_prefix (List.prefix_refl _)
  limits good := ⟨good, ⟨rfl, rfl, rfl⟩, by rw [State.limitsHanded_refl]; nofun⟩

theorem State.reportMoves.trans (h : s.reportMoves t k) (h' : t.reportMoves u k) : s.reportMoves u k where
  frame := h.frame.trans h'.frame
  sense := by rw [h'.sense, h.sense]
  slots n hn := (h'.slots n hn).trans (h.slots n hn)
  kept := eventsKept_trans h.kept h'.kept
  limits good := by
    obtain ⟨goodT, demands, handsOn⟩ := h.limits good
    obtain ⟨goodU, demands', handsOn'⟩ := h'.limits goodT
    have fitted : t.fitted = s.fitted := State.fitted_congr (h.frame.cfs (by simp [engineParts]))
    refine ⟨goodU, Limits.sameDemands_trans demands demands', fun e he => ?_⟩
    rw [← State.limitsHanded_congr fitted] at he
    obtain first | second := State.limitsHanded_trans demands demands' he
    · rw [State.limitsHanded_congr fitted] at first
      exact h'.kept e (handsOn e first) (State.limitsHanded_noSag first)
    · exact handsOn' e second

/-- A change that leaves table, limits and the other fields of the sensing set. -/
theorem State.reportMoves.of_frame (frame : s.onlyChanges t [.sense k, .engine k, .car, .notices, .handed])
    (sense : t.sense k = { s.sense k with warmed := (t.sense k).warmed, warmCount := (t.sense k).warmCount })
    (kept : eventsKept s.handed t.handed) : s.reportMoves t k where
  frame := frame.mono (by simp [engineParts])
  sense := sense
  slots n _ := by rw [frame.table (by simp)]
  kept := kept
  limits good := by
    have limits : t.limits = s.limits := frame .limits (by simp)
    rw [limits, State.limitsHanded_refl]
    exact ⟨(State.tableKept_of_eq (frame.table (by simp)) limits).1 good, ⟨rfl, rfl, rfl⟩, nofun⟩

theorem State.entered_table (s : State) (k : Engine) (new : EState) (c : List CountedEvent) (f : EngineRec → EngineRec) :
    s.tableKept (s.enter k new c f) ∧
      ∀ n, n ≠ internalSlot .warmup k → slotAt (s.enter k new c f).table n = slotAt s.table n := by
  obtain ⟨-, -, limits, table⟩ := s.recorded_keeps k new c f
  have entered : (s.enter k new c f).table = (s.entered k new c f).table ∧
      (s.enter k new c f).limits = (s.entered k new c f).limits := by simp [State.enter_eq]
  refine ⟨State.tableKept_trans (t := s.entered k new c f) ?_ (State.tableKept_of_eq entered.1 entered.2), fun n other => ?_⟩
  · unfold State.entered
    split
    · exact State.tableKept_trans (State.tableKept_of_eq table limits) (State.tableKept_retireInternal _ _ _)
    · exact State.tableKept_of_eq table limits
  · rw [entered.1]
    unfold State.entered
    split
    · rw [State.retireInternal_slot, if_neg other, table]
    · rw [table]

theorem State.enter_reportMoves (s : State) (k : Engine) (new : EState) (c : List CountedEvent)
    (f : EngineRec → EngineRec) : s.reportMoves (s.enter k new c f) k where
  frame := (s.enter_onlyChanges k new c f).mono (by simp)
  sense := by rw [(s.enter_onlyChanges k new c f).sense k (by simp [engineParts])]
  slots := (s.entered_table k new c f).2
  kept := s.enter_keepsHanded k new c f
  limits good := ⟨(s.entered_table k new c f).1.1 good, State.enter_sameDemands good k new c f, s.enter_handsOn k new c f⟩

theorem State.modEng_reportMoves (s : State) (k : Engine) (f : EngineRec → EngineRec) :
    s.reportMoves (s.modEng k f) k := by
  have frame := s.modEng_onlyChanges k f
  refine .of_frame (frame.mono (by simp)) (by rw [frame.sense k (by simp)]) ?_
  rw [show (s.modEng k f).handed = s.handed from frame .handed (by simp)]
  exact eventsKept_of_prefix (List.prefix_refl _)

theorem State.hold_reportMoves (s : State) (k : Engine) : s.reportMoves (s.hold k) k := by
  obtain ⟨-, -, -, -, frame⟩ := s.hold_changes k
  refine .of_frame (frame.mono (by simp)) (by rw [frame.sense k (by simp)]) ?_
  rw [show (s.hold k).handed = s.handed from frame .handed (by simp)]
  exact eventsKept_of_prefix (List.prefix_refl _)

theorem State.setSense_reportMoves {x : Sensing}
    (same : x = { s.sense k with warmed := x.warmed, warmCount := x.warmCount }) : s.reportMoves (s.setSense k x) k := by
  refine .of_frame ((s.setSense_onlyChanges k x).mono (by simp)) ?_ (eventsKept_of_prefix (List.prefix_refl _))
  rw [State.sense_setSense_self]
  exact same

theorem State.warmupAtFire_reportMoves (s : State) (k : Engine) : s.reportMoves (s.warmupAtFire k) k := by
  unfold State.warmupAtFire
  dsimp only
  split
  · split
    · refine (State.setSense_reportMoves (s := s) (x := { s.sense k with warmCount := 0 }) rfl).trans ?_
      generalize s.setSense k _ = v
      exact {
        frame := (v.postInternal_onlyChanges .warmup k).mono (by simp [engineParts])
        sense := by rw [(v.postInternal_onlyChanges .warmup k).sense k (by simp)]
        slots := fun n other => by rw [State.postInternal_slot, if_neg fun h => other h.1]
        kept := by
          rw [State.postInternal_handsOn]
          exact eventsKept_of_prefix (List.prefix_append _ _)
        limits := fun good => ⟨(v.tableKept_postInternal .warmup k).1 good, State.postInternal_sameDemands good k rfl, by
          rw [State.postInternal_handsOn]
          exact fun e he => List.mem_append_right _ he⟩ }
    · exact .refl s k
  · exact .refl s k

theorem State.admitStart_reportMoves (s : State) (k : Engine) (reason : StartReason) :
    s.reportMoves (s.admitStart k reason) k := by
  have enters : s.reportMoves (s.toPrelube k reason) k :=
    (s.enter_reportMoves k .prelube [] fun r => r.starting reason s.cfg.timing.attempts).trans
      (State.setSense_reportMoves rfl)
  rw [State.admitStart_eq]
  split
  · refine enters.trans ?_
    unfold State.prelubeStep
    split
    · exact State.hold_reportMoves _ k
    · exact State.enter_reportMoves _ k _ _ _
  · exact enters

theorem State.runDemandStart_reportMoves (s : State) (k : Engine) : s.reportMoves (s.runDemandStart k) k := by
  unfold State.runDemandStart State.takeStart
  split
  · split
    · exact s.admitStart_reportMoves k _
    · exact .refl s k
  · exact .refl s k

theorem State.enterRest_reportMoves (s : State) (k : Engine) (c : List CountedEvent) :
    s.reportMoves (s.enterRest k c) k := by
  rw [State.enterRest_eq]
  split
  · exact s.enter_reportMoves k _ _ _
  · exact (s.enter_reportMoves k _ _ _).trans (State.runDemandStart_reportMoves _ k)

theorem State.failAttempt_reportMoves (s : State) (k : Engine) (cause : AttemptCause) :
    s.reportMoves (s.failAttempt k cause) k := by
  unfold State.failAttempt
  dsimp only
  split
  · exact (s.modEng_reportMoves k _).trans (State.enter_reportMoves _ k _ _ _)
  · exact (s.modEng_reportMoves k _).trans (State.enter_reportMoves _ k _ _ _)

theorem State.tryOnline_reportMoves (s : State) (k : Engine) : s.reportMoves (s.tryOnline k) k := by
  unfold State.tryOnline
  split
  · split
    · exact s.hold_reportMoves k
    · exact s.enter_reportMoves k _ _ _
  · exact .refl s k

theorem State.speedReport_reportMoves (s : State) (k : Engine) : s.reportMoves (s.speedReport k) k := by
  unfold State.speedReport
  dsimp only
  split
  · exact s.enter_reportMoves k _ _ _
  split
  · exact s.enter_reportMoves k _ _ _
  cases hs : (s.eng k).state with
  | cranking =>
    dsimp only
    split
    · exact (s.enter_reportMoves k _ _ _).trans (State.warmupAtFire_reportMoves _ k)
    · exact .refl s k
  | runup =>
    dsimp only
    split
    · exact s.failAttempt_reportMoves k _
    · exact s.tryOnline_reportMoves k
  | stopping =>
    dsimp only
    split
    · exact s.enterRest_reportMoves k _
    · exact .refl s k
  | isolated | stopped | prelube | crankWait | crankRest | online | cooldown | tripped => exact .refl s k

/-- A speed update is its measurement, then what the sequencer makes of it. -/
theorem State.speedUpdate_reportMoves (s : State) (k : Engine) : (s.measured k).reportMoves (s.speedUpdate k) k := by
  rw [State.speedUpdate_eq]
  split
  · exact (State.speedReport_reportMoves _ k).trans (State.runDemandStart_reportMoves _ k)
  · exact State.speedReport_reportMoves _ k

/-- The limits that a speed update changes are handed on, of a failover and of the report. -/
theorem State.speedUpdate_limits (good : s.tableGood) : (s.speedUpdate k).tableGood ∧
    ∀ e ∈ s.limitsHanded s.limits (s.speedUpdate k).limits, e ∈ (s.speedUpdate k).handed := by
  obtain ⟨goodU, demands, -, handsOn, -⟩ := s.measured_limits k good
  have moves := s.speedUpdate_reportMoves k
  obtain ⟨goodT, demands', handsOn'⟩ := moves.limits goodU
  refine ⟨goodT, fun e he => ?_⟩
  obtain first | second := State.limitsHanded_trans demands demands' he
  · exact moves.kept e (handsOn e first) (State.limitsHanded_noSag first)
  · rw [← State.limitsHanded_congr (s.measured_keeps k).2.2.2.2.2] at second
    exact handsOn' e second

end

end Sys2Proof.Machine

namespace Sys2Proof.Machine

/-! ## The report a sequencer reads -/

section

variable {s : State} {k : Engine}

theorem State.reported_measured (s : State) (k : Engine) : s.reported k ≠ .notMeasured := by
  unfold State.reported
  split <;> exact readingOf_measured _ _

theorem State.measured_selectedReading (s : State) (k : Engine) :
    (((s.measured k).sense k).pickup ((s.measured k).sense k).selection).reading = s.reported k := by
  rw [State.measured_reading, State.reported]
  cases due : s.failoverDue k with
  | true => rw [(s.measured_failover k due).1]; rfl
  | false => rw [(s.measured_selection k due).1]; rfl

theorem State.measured_selected (s : State) (k : Engine) :
    ((s.measured k).sense k).selected = some (s.reportedSpeed k) := by
  have measured := s.reported_measured k
  rw [Sensing.selected, State.measured_selectedReading, State.reportedSpeed]
  cases h : s.reported k with
  | notMeasured => exact absurd h measured
  | silent => rfl
  | good v sat => rfl

theorem State.measured_bothSilent (s : State) (k : Engine) :
    ((s.measured k).sense k).bothSilent = true ↔ s.bothFormedSilent k := by
  have a := s.measured_reading k .a
  have b := s.measured_reading k .b
  simp only [Sensing.pickup] at a b
  simp [Sensing.bothSilent, a, b, State.bothFormedSilent]

theorem State.measured_overspeed (s : State) (k : Engine) (trip : Nat) :
    ((s.measured k).sense k).overspeed trip = ((s.formed k .a).over trip || (s.formed k .b).over trip) := by
  rw [← s.measured_reading k .a, ← s.measured_reading k .b]
  rfl

theorem State.measured_atRest (s : State) (k : Engine) : (s.measured k).atRest k = true ↔ s.foundAtRest k := by
  obtain ⟨-, -, -, -, cfg, -⟩ := s.measured_keeps k
  simp [State.atRest, State.measured_selected, State.foundAtRest, cfg, State.measured_bothSilent]

theorem State.measured_admits (good : s.tableGood) :
    (s.measured k).admits k = true ↔ s.startAllowed k ∧ s.foundAtRest k := by
  obtain ⟨-, ⟨inhibit, stop, -⟩, -⟩ := s.measured_limits k good
  obtain ⟨eng, -, cfs, lic, -, -⟩ := s.measured_keeps k
  rw [State.admits_iff, State.measured_atRest]
  simp only [State.startAllowed, State.valid_congr cfs, State.writing_congr cfs, State.runLine, State.emergency,
    State.level, lic, inhibit, stop, eng]

/-- No report moves an engine at rest, or one whose pickups nothing yet reads. -/
theorem State.speedReport_rest (state : (s.eng k).state = .isolated ∨ (s.eng k).state = .tripped ∨
    (s.eng k).state = .stopped ∨ (s.eng k).state = .prelube ∨ (s.eng k).state = .crankWait ∨
    (s.eng k).state = .crankRest) : s.speedReport k = s := by
  unfold State.speedReport
  obtain h | h | h | h | h | h := state <;> simp [h, EState.overspeedTrips, EState.silenceTrips]

theorem State.speedUpdate_running (state : (s.eng k).state ≠ .stopped) :
    s.speedUpdate k = (s.measured k).speedReport k := if_neg fun h => state h.2

/-- What the first update of a STOPPED engine adds: the offer of a run demand in force (R72, R193). -/
theorem State.speedUpdate_stopped (state : (s.eng k).state = .stopped) :
    s.speedUpdate k = if (s.sense k).a.reading = .notMeasured then (s.measured k).runDemandStart k else s.measured k := by
  have rest : (s.measured k).speedReport k = s.measured k := by
    refine State.speedReport_rest (.inr (.inr (.inl ?_)))
    rw [(s.measured_keeps k).1]
    exact state
  rw [State.speedUpdate_eq, rest]
  simp [Sensing.unmeasured, state]

/-- A start out of a state that another change has left, which kept what the supply and a start read. -/
theorem State.startsTo_congr {u t : State} {reason : StartReason} (car : u.car = s.car) (cfg : u.cfg = s.cfg)
    (lic : u.lic = s.lic) (eng : u.eng = s.eng) (inhibit : u.limits.inhibit = s.limits.inhibit)
    (h : u.startsTo t k reason) : s.startsTo t k reason := by
  obtain ⟨why, attempts, last, warmed, changed, opened, held, waits, stays⟩ := h
  have lube : u.lubeMade k = s.lubeMade k := by rw [State.lubeMade, lic]; rfl
  have line (good : s.lineGood) : u.lineGood := State.lineGood_congr car cfg (fun j => by rw [eng]) good
  rw [lube] at opened held waits stays
  rw [eng] at held waits stays
  rw [cfg] at attempts
  refine ⟨why, attempts, last, warmed, changed, opened, held, fun made out => ?_, fun no good =>
    State.supplyKept_source car cfg (stays no (line good))⟩
  obtain ⟨state, joined⟩ := waits made out
  exact ⟨state, fun good => State.supplyJoined_source car cfg inhibit (joined (line good))⟩

end

theorem readingOf_cases (pulses teeth : Nat) (toothed : 0 < teeth) :
    (pulses = 0 → readingOf pulses teeth = .silent) ∧
      (0 < pulses → pulses * 60000 < 3000 * (teeth * 200) →
        readingOf pulses teeth = .good (pulses * 60000 / (teeth * 200)) false) ∧
      (3000 * (teeth * 200) ≤ pulses * 60000 → readingOf pulses teeth = .good 3000 true) := by
  have limit : 3000 ≤ pulses * 60000 / (teeth * 200) ↔ 3000 * (teeth * 200) ≤ pulses * 60000 :=
    Nat.le_div_iff_mul_le (by omega)
  unfold readingOf
  refine ⟨fun none => if_pos none, fun some below => ?_, fun full => ?_⟩
  · rw [if_neg (by omega), if_neg (by rw [limit]; omega)]
  · rw [if_neg (by omega), if_pos (limit.mpr full)]

/-- Settles O44. -/
theorem speedFormedFromPulses : Obligations.SpeedFormedFromPulses := by
  unfold Obligations.SpeedFormedFromPulses
  refine ⟨readingOf_cases, fun s k awake fitted => ⟨?_, ?_⟩, fun s k x awake fitted => ?_⟩
  · exact ⟨_, State.ifFitted_next awake fitted, State.sense_setSense_self _ k _, s.setSense_onlyChanges k _⟩
  · exact ⟨_, State.ifFitted_next awake fitted, State.sense_setSense_self _ k _, s.setSense_onlyChanges k _⟩
  · rintro rfl
    have moves := s.speedUpdate_reportMoves k
    obtain ⟨a, b, coolant, sensor, hot, cool, overheat, warm, warmed⟩ :=
      (s.sense k).updated_keeps s.cfg.roster.teeth s.freeCount
    have updated := s.measured_sense k
    have frame := s.measured_onlyChanges k
    have eng := (s.measured_keeps k).1
    rw [← updated] at a b coolant sensor hot cool overheat warm warmed
    have idle (h : s.speedUpdate k = s.measured k) : ((s.speedUpdate k).sense k).warmed = (s.sense k).warmed ∧
        ((s.speedUpdate k).sense k).warmCount = (s.sense k).warmCount ∧
        s.onlyChanges (s.speedUpdate k) (s.updateParts k) := by
      rw [h]
      exact ⟨warmed, warm, frame⟩
    refine ⟨_, State.ifFitted_next awake fitted, fun later => ?_, fun y y' which first => ?_, ?_, ?_, ?_, ?_, ?_,
      fun state => ?_, fun good state h => ?_, fun good state first demand allowed found => ?_⟩
    · rw [moves.sense, a, b, Sensing.measure_next later]
      exact ⟨rfl, rfl⟩
    · have formed : y' = (y.first s.freeCount).read s.cfg.roster.teeth ∨
          y' = (y.first (s.freeCount + 3)).read s.cfg.roster.teeth := by
        rw [moves.sense, a, b, Sensing.measure_first first] at which
        obtain ⟨rfl, h⟩ | ⟨rfl, h⟩ := which
        · exact .inl h
        · exact .inr h
      obtain rfl | rfl := formed
      · obtain ⟨current, window⟩ := y.first_window s.freeCount
        exact ⟨current, window, congrArg (readingOf · _) window⟩
      · obtain ⟨current, window⟩ := y.first_window (s.freeCount + 3)
        exact ⟨current, window, congrArg (readingOf · _) window⟩
    · rw [moves.sense]; exact coolant
    · rw [moves.sense]; exact sensor
    · rw [moves.sense]; exact hot
    · rw [moves.sense]; exact cool
    · rw [moves.sense]; exact overheat
    · refine idle ?_
      rw [State.speedUpdate_running (by obtain h | h := state <;> simp [h])]
      refine State.speedReport_rest ?_
      rw [eng]
      tauto
    · refine idle ?_
      rw [State.speedUpdate_stopped state]
      split
      next first =>
        have demands := (s.measured_limits k good).2.1
        refine State.runDemandStart_idle (.inr (.inr ?_))
        rw [demands.2.2, ← Bool.not_eq_true ((s.measured k).admits k), State.measured_admits good]
        tauto
      next => rfl
    · obtain ⟨goodU, ⟨inhibit, -, run⟩, -⟩ := s.measured_limits k good
      obtain ⟨-, car, cfs, lic, cfg, same⟩ := s.measured_keeps k
      have rest : ((s.measured k).eng k).state = .stopped := by rw [eng]; exact state
      have starts : s.speedUpdate k = (s.measured k).admitStart k .runDemand := by
        rw [State.speedUpdate_stopped state, if_pos first]
        exact State.runDemandStart_starts (by rw [same]; exact fitted) rest (by rw [run]; exact demand)
          ((State.measured_admits good).mpr ⟨allowed, found⟩)
      obtain ⟨started, -, -, frame'⟩ := State.admitStart_changes (reason := .runDemand) rest
      rw [starts]
      exact ⟨State.startsTo_congr car cfg lic eng inhibit started, (frame.mono (List.subset_append_left _ _)).trans
        (frame'.mono (by simp [engineParts, State.updateParts]))⟩

theorem Sensing.pickupsAgree_iff (x : Sensing) : x.pickupsAgree = true ↔ ∃ a b p q, x.a.reading = .good a p ∧
    x.b.reading = .good b q ∧ 100 ≤ a ∧ 100 ≤ b ∧ 10 * (max a b - min a b) ≤ max a b := by
  unfold Sensing.pickupsAgree
  cases ha : x.a.reading with
  | notMeasured | silent => simp
  | good a p =>
    cases hb : x.b.reading with
    | notMeasured | silent => simp
    | good b q => simp [Config.pickupFloor, and_assoc]

/-- Settles O45: the failover is that of the measurement, and what the sequencer makes of the report leaves it. -/
theorem pickupsFailOverAndClear : Obligations.PickupsFailOverAndClear := by
  unfold Obligations.PickupsFailOverAndClear
  refine ⟨fun s k awake fitted good => ⟨?_, fun due => ?_, fun stays => ?_⟩, fun s c e k takes => ⟨?_, fun apart => ?_⟩⟩
  · rintro p rfl
    exact s.failoverDue_iff k
  · have moves := s.speedUpdate_reportMoves k
    have frame := s.measured_onlyChanges k |>.mono fun _ => s.mem_updateParts k
    obtain ⟨selection, failed, degraded, restored⟩ := s.measured_failover k due
    obtain ⟨-, -, -, -, kept⟩ := s.measured_limits k good
    obtain ⟨stands, posted, live⟩ := s.measured_pickup k good fitted due
    obtain ⟨goodT, handsOn⟩ := State.speedUpdate_limits (k := k) good
    have other : internalSlot .pickup k ≠ internalSlot .warmup k := by cases k <;> decide
    have whole : s.onlyChanges (s.speedUpdate k) (.sense k :: .freeCount :: engineParts k) :=
      (frame.mono (by simp [engineParts])).trans (moves.frame.mono (by simp [engineParts]))
    refine ⟨_, State.ifFitted_next awake fitted, ?_, ?_, ?_, ?_, ?_, fun free => (moves.slots _ other).trans (posted free),
      fun h => (moves.slots _ other).trans (live h), fun n warmup pickup => (moves.slots n warmup).trans (kept n pickup),
      goodT.resolved, handsOn, fun j hj => ⟨whole.sense j ?_, whole.eng j ?_⟩, whole .lic ?_, whole .dsl ?_,
      whole .plan ?_, whole .bsm ?_, whole.dct ?_ ?_, whole.cfs ?_⟩
    · rw [moves.sense]; exact selection
    · rw [moves.sense]; exact failed
    · rw [moves.sense]; exact degraded
    · rw [moves.sense]; exact restored
    · rw [State.stands, moves.slots _ other]; exact stands
    all_goals simp [engineParts, *]
  · have moves := s.speedUpdate_reportMoves k
    obtain ⟨selection, failed, degraded, restored⟩ := s.measured_selection k stays
    have other : internalSlot .pickup k ≠ internalSlot .warmup k := by cases k <;> decide
    refine ⟨_, State.ifFitted_next awake fitted, ?_, ?_, ?_, ?_, ?_⟩
    · rw [moves.sense]; exact selection
    · rw [moves.sense]; exact failed
    · rw [moves.sense]; exact degraded
    · rw [State.stands, moves.slots _ other, (s.measured_idle k stays).1]; rfl
    · rw [moves.sense]; exact restored
  · intro a b x y ha hb hfa hfb near
    have agree : (s.sense k).pickupsAgree = true := (s.sense k).pickupsAgree_iff.mpr ⟨a, b, x, y, ha, hb, hfa, hfb, near⟩
    have does : s.clearPickupFault k = ((s.setSense k { s.sense k with
        degraded := false, restored := false, failed := none }).retireInternal .pickup k, ⟨.ok, []⟩) := if_pos agree
    have sensed := s.setSense_onlyChanges k { s.sense k with degraded := false, restored := false, failed := none }
    have self := s.sense_setSense_self k { s.sense k with degraded := false, restored := false, failed := none }
    have handed : (s.setSense k { s.sense k with degraded := false, restored := false, failed := none }).handed =
      s.handed := rfl
    have limits : (s.setSense k { s.sense k with degraded := false, restored := false, failed := none }).limits =
      s.limits := rfl
    have table : (s.setSense k { s.sense k with degraded := false, restored := false, failed := none }).table =
      s.table := rfl
    generalize s.setSense k { s.sense k with degraded := false, restored := false, failed := none } = u at *
    have retired := u.retireInternal_onlyChanges .pickup k
    have frame : s.onlyChanges (u.retireInternal .pickup k) [.sense k, .table, .limits, .handed] :=
      (sensed.mono (by simp)).trans (retired.mono (by simp))
    obtain ⟨answers, total, after⟩ := State.servedFor (fun k u => u.clearPickupFault k) takes does frame (by simp)
    refine ⟨_, rfl, answers, ?_, ?_, fun good => ⟨?_, ?_⟩, total⟩
    · exact (after.sense k (by simp [answerParts])).trans ((retired.sense k (by simp)).trans self)
    · have sameTable := after.table (by simp [answerParts])
      rw [State.stands, sameTable]
      exact State.retireInternal_stands _ _ _
    · rw [after.table (by simp [answerParts]), show _ = _ from after .limits (by simp [answerParts])]
      exact u.retireInternal_limits .pickup k (by rw [limits, table]; exact good.resolved)
    · have hands := u.retireInternal_handsOn .pickup k
      rw [handed, limits, State.limitsHanded_congr (State.fitted_congr (sensed.cfs (by simp)))] at hands
      rw [show _ = _ from after .limits (by simp [answerParts]), show _ = _ from after .handed (by simp [answerParts])]
      exact hands
  · have does : s.clearPickupFault k = (s, ⟨.wrongState, []⟩) := by
      refine if_neg fun agree => ?_
      obtain ⟨a, b, x, y, ha, hb, hfa, hfb, near⟩ := (s.sense k).pickupsAgree_iff.mp agree
      have := apart a b x y ha hb
      omega
    obtain ⟨answers, frame⟩ := State.servedFor_idle (fun k u => u.clearPickupFault k) takes does
    exact ⟨_, rfl, answers, frame⟩

end Sys2Proof.Machine

namespace Sys2Proof.Machine

/-! ## What a sequencer makes of a speed report (R79, R83, R85, R107, R109) -/

section

variable {s : State} {k : Engine}

theorem State.speedReport_overspeed (trips : (s.eng k).state.overspeedTrips = true)
    (fast : (s.sense k).overspeed s.cfg.thresholds.overspeed = true) : s.speedReport k = s.trip k .overspeed [] := by
  unfold State.speedReport
  simp [trips, fast]

theorem State.speedReport_silent (slow : (s.sense k).overspeed s.cfg.thresholds.overspeed = false)
    (trips : (s.eng k).state.silenceTrips = true) (silent : (s.sense k).bothSilent = true) :
    s.speedReport k = s.trip k .noSpeedSignal [] := by
  unfold State.speedReport
  simp [slow, trips, silent]

theorem State.speedReport_cranking (slow : (s.sense k).overspeed s.cfg.thresholds.overspeed = false)
    (state : (s.eng k).state = .cranking) : s.speedReport k =
      if s.cfg.thresholds.fireSpeed ≤ (s.sense k).reportSpeed then s.fire k else s := by
  unfold State.speedReport
  simp [slow, state, EState.silenceTrips]

theorem State.speedReport_runup (slow : (s.sense k).overspeed s.cfg.thresholds.overspeed = false)
    (heard : (s.sense k).bothSilent = false) (state : (s.eng k).state = .runup) : s.speedReport k =
      if (s.sense k).reportSpeed < s.cfg.thresholds.fireSpeed then s.failAttempt k .falseStart else s.tryOnline k := by
  unfold State.speedReport
  simp [slow, heard, state]

theorem State.speedReport_stopping (slow : (s.sense k).overspeed s.cfg.thresholds.overspeed = false)
    (state : (s.eng k).state = .stopping) : s.speedReport k = if s.atRest k then s.enterRest k [] else s := by
  unfold State.speedReport
  simp [slow, state, EState.silenceTrips]

theorem State.speedReport_runs (slow : (s.sense k).overspeed s.cfg.thresholds.overspeed = false)
    (heard : (s.sense k).bothSilent = false) (state : (s.eng k).state = .online ∨ (s.eng k).state = .cooldown) :
    s.speedReport k = s := by
  unfold State.speedReport
  obtain state | state := state
  · simp [slow, heard, state]
  · simp [slow, heard, state]

/-! ## Firing -/

theorem State.warmupAtFire_posts {c : Int} (cold : (s.sense k).warmed = false) (sensor : (s.sense k).sensorGood = true)
    (reading : (s.sense k).coolant = some c) (below : c < s.cfg.thresholds.warm) (free : s.stands .warmup k = false) :
    s.warmupAtFire k = (s.setSense k { s.sense k with warmCount := 0 }).postInternal .warmup k := by
  simp [State.warmupAtFire, cold, sensor, reading, below, free]

theorem State.warmupAtFire_idle (h : (s.sense k).warmed = true ∨ (s.sense k).sensorGood = false ∨
    (s.sense k).coolant = none ∨ (∃ c, (s.sense k).coolant = some c ∧ s.cfg.thresholds.warm ≤ c) ∨
    s.stands .warmup k = true) : s.warmupAtFire k = s := by
  unfold State.warmupAtFire
  dsimp only
  split
  next c reading =>
    refine if_neg ?_
    obtain h | h | h | ⟨c', h, warm⟩ | h := h
    · simp [h]
    · simp [h]
    · rw [reading] at h; cases h
    · obtain rfl : c = c' := Option.some.inj (reading.symm.trans h)
      simp [warm]
    · simp [h]
  next => rfl

/-- What the supply shows of a change is kept by a later one that leaves the arbiter, the states and the events. -/
theorem State.supplyLeft_after {t u : State} (car : u.car = t.car) (cfg : u.cfg = t.cfg)
    (states : ∀ j, (u.eng j).state = (t.eng j).state) (inhibit : u.limits.inhibit = t.limits.inhibit)
    (handed : eventsKept t.handed u.handed) (h : s.supplyLeft t k) : s.supplyLeft u k := by
  have wants : u.wantsSupply ↔ t.wantsSupply := State.wantsSupply_congr (by rw [car]) (by rw [car]) cfg states
  have follows {released : Bool} : s.lineFollows t released → s.lineFollows u released :=
    State.lineFollows_congr (by rw [car]) (by rw [car]) wants
  obtain ⟨waits, cranks, other⟩ := h
  rw [← car] at waits cranks
  refine ⟨fun h => ?_, fun h holder => ?_, fun h h' => State.supplyKept_congr car wants (other h h')⟩
  · obtain ⟨queue, out, holder, phase, gap, line⟩ := waits h
    exact ⟨queue, out, holder, phase, gap, follows line⟩
  · obtain ⟨recovery, gap, freed⟩ := cranks h holder
    refine ⟨handed _ recovery nofun, fun positive => ?_, fun none => ?_⟩
    · obtain ⟨queue, holder, phase, timer, line⟩ := gap positive
      exact ⟨queue, holder, phase, timer, follows line⟩
    · obtain ⟨idle, timer, line, stays, gives⟩ := freed none
      rw [← car, ← inhibit] at stays gives
      rw [← car] at timer
      refine ⟨handed _ idle nofun, timer, follows line, stays, fun j first held => ?_⟩
      obtain ⟨queue, holder, phase, granted, grant⟩ := gives j first held
      exact ⟨queue, holder, phase, handed _ granted nofun, handed _ grant nofun⟩

/-- The record of an engine that fires. -/
def EngineRec.fired (r : EngineRec) : EngineRec :=
  { r.noTimers with state := .runup, lastAttempt := some .fired, runupTimer := some 0 }

/-- A CRANKING engine that fires, before the WARMUP examination. -/
def State.fires (s : State) (k : Engine) : State := s.enter k .runup [] EngineRec.fired

theorem State.fire_eq (s : State) (k : Engine) : s.fire k = (s.fires k).warmupAtFire k := rfl

theorem State.fires_changes (s : State) (k : Engine) : (s.fires k).eng k = (s.eng k).fired ∧
    (s.fires k).cli.notices.changed.get k = true ∧ s.supplyLeft (s.fires k) k ∧
    s.onlyChanges (s.fires k) [.engine k, .car, .notices, .handed] :=
  ⟨(s.enter_eng k k _ _ _).trans (if_pos rfl), s.enter_changed .., s.enter_supplyLeft k _ _ (by simp) (by simp),
    s.enter_onlyChanges_of_stays k _ _ _ rfl⟩

theorem State.fire_changes (good : s.tableGood) : (s.fire k).eng k = (s.eng k).fired ∧
    (s.fire k).cli.notices.changed.get k = true ∧ s.supplyLeft (s.fire k) k := by
  obtain ⟨record, changed, left, frame⟩ := s.fires_changes k
  have moves := (s.fires k).warmupAtFire_reportMoves k
  obtain ⟨-, -, -, engines, car, -, -, cli, cfs, -⟩ := (s.fires k).warmupAtFire_keeps k
  have eng := State.eng_congr engines
  have goodFires : (s.fires k).tableGood :=
    (State.tableKept_of_eq (frame.table (by simp)) (frame .limits (by simp))).1 good
  obtain ⟨-, ⟨inhibit, -⟩, -⟩ := moves.limits goodFires
  rw [State.fire_eq, eng, cli]
  exact ⟨record, changed, State.supplyLeft_after car (State.cfg_congr cfs) (fun j => by rw [eng]) inhibit moves.kept left⟩

/-- A cold engine not yet warmed gets its WARMUP entry when it fires. -/
theorem State.fire_posts {c : Int} (good : s.tableGood) (fitted : s.fitted k = true) (cold : (s.sense k).warmed = false)
    (sensor : (s.sense k).sensorGood = true) (reading : (s.sense k).coolant = some c)
    (below : c < s.cfg.thresholds.warm) (free : s.stands .warmup k = false) :
    slotAt (s.fire k).table (internalSlot .warmup k) =
        ⟨nextGen (slotAt s.table (internalSlot .warmup k)).gen, some (s.internalEntry .warmup k)⟩ ∧
      ((s.fire k).sense k).warmCount = 0 := by
  obtain ⟨-, -, -, frame⟩ := s.fires_changes k
  have sense : (s.fires k).sense k = s.sense k := frame.sense k (by simp)
  have table : (s.fires k).table = s.table := frame.table (by simp)
  have cfg : (s.fires k).cfg = s.cfg := State.cfg_congr (frame.cfs (by simp))
  rw [State.fire_eq, State.warmupAtFire_posts (by rw [sense]; exact cold) (by rw [sense]; exact sensor)
    (by rw [sense]; exact reading) (by rw [cfg]; exact below) (by rw [State.stands, table]; exact free)]
  have goodSense : ((s.fires k).setSense k { (s.fires k).sense k with warmCount := 0 }).tableGood :=
    (State.tableKept_of_eq table (frame .limits (by simp))).1 good
  have fittedSense : ((s.fires k).setSense k { (s.fires k).sense k with warmCount := 0 }).fitted k = true :=
    (congrFun (State.fitted_of_cfg cfg) k).trans fitted
  have self := (s.fires k).sense_setSense_self k { (s.fires k).sense k with warmCount := 0 }
  have entry : ((s.fires k).setSense k { (s.fires k).sense k with warmCount := 0 }).internalEntry .warmup k =
      s.internalEntry .warmup k := by
    rw [State.internalEntry, State.internalEntry, ← cfg]
    rfl
  have tableSense : ((s.fires k).setSense k { (s.fires k).sense k with warmCount := 0 }).table = s.table := table
  generalize (s.fires k).setSense k { (s.fires k).sense k with warmCount := 0 } = v at *
  obtain ⟨slot, -, -⟩ := v.postInternal_posts goodSense fittedSense (c := .warmup)
    (by rw [State.stands, tableSense]; exact free)
  rw [entry, tableSense] at slot
  refine ⟨slot, ?_⟩
  rw [(v.postInternal_onlyChanges .warmup k).sense k (by simp), self]

theorem State.failAttempt_clears (cause : AttemptCause) (left : 2 ≤ (s.eng k).attempts) :
    ((s.failAttempt k cause).eng k).runupTimer = none ∧ ((s.failAttempt k cause).eng k).held = false := by
  have enters : s.failAttempt k cause =
      (s.modEng k fun r => { r with attempts := (s.eng k).attempts - 1, lastAttempt := some cause }).enter k .crankRest
        [.failed] fun r => { r.noTimers with held := false, restTimer := some 0 } := if_neg (by omega)
  rw [enters, State.enter_eng, if_pos rfl]
  exact ⟨rfl, rfl⟩

end

end Sys2Proof.Machine

namespace Sys2Proof.Machine

/-! ## The report of a speed update -/

section

variable {s : State} {k : Engine}

theorem State.measured_reportSpeed (s : State) (k : Engine) :
    ((s.measured k).sense k).reportSpeed = s.reportedSpeed k := by
  rw [Sensing.reportSpeed, State.measured_selected]
  rfl

theorem State.measured_slow (a : (s.formed k .a).over s.cfg.thresholds.overspeed = false)
    (b : (s.formed k .b).over s.cfg.thresholds.overspeed = false) :
    ((s.measured k).sense k).overspeed (s.measured k).cfg.thresholds.overspeed = false := by
  rw [(s.measured_keeps k).2.2.2.2.1, State.measured_overspeed, a, b]
  rfl

theorem State.measured_heard (heard : ¬ s.bothFormedSilent k) : ((s.measured k).sense k).bothSilent = false := by
  rw [Bool.eq_false_iff, ne_eq, State.measured_bothSilent]
  exact heard

theorem State.measured_onlineTest (s : State) (k : Engine) : (s.measured k).onlineTest k = true ↔
    s.lubeMade k = true ∧ s.enRpm 0 ≤ s.reportedSpeed k + s.cfg.thresholds.idleBand := by
  obtain ⟨-, -, -, lic, cfg, -⟩ := s.measured_keeps k
  rw [State.onlineTest, State.measured_selected]
  simp [State.lubeMade, State.enRpm, lic, cfg]

/-- A trip that a speed update makes, its frame and the limits it hands on those of the whole update. -/
theorem State.speedUpdate_trips {before : EngineRec} {cause : TripCause} {counted : List CountedEvent}
    (good : s.tableGood) (h : (s.measured k).tripsTo (s.speedUpdate k) k before cause counted) :
    s.tripsWith (s.speedUpdate k) k before cause counted (s.updateParts k) := by
  obtain ⟨record, changed, events, warmup, left, -, frame⟩ := h
  obtain ⟨eng, car, -, -, cfg, -⟩ := s.measured_keeps k
  exact ⟨record, changed, events, warmup, State.supplyLeft_source car cfg (by rw [eng]) left,
    (State.speedUpdate_limits good).2, ((s.measured_onlyChanges k).mono (List.subset_append_left _ _)).trans
      (frame.mono (List.subset_append_right _ _))⟩

/-- A speed update whose report the sequencer makes nothing of. -/
theorem State.speedUpdate_idle (state : (s.eng k).state ≠ .stopped)
    (idle : (s.measured k).speedReport k = s.measured k) : s.onlyChanges (s.speedUpdate k) (s.updateParts k) := by
  rw [State.speedUpdate_running state, idle]
  exact s.measured_onlyChanges k

theorem State.speedUpdate_onlyChanges {ps : List Part} (frame : (s.measured k).onlyChanges (s.speedUpdate k) ps) :
    s.onlyChanges (s.speedUpdate k) (s.updateParts k ++ ps) :=
  ((s.measured_onlyChanges k).mono (List.subset_append_left _ _)).trans (frame.mono (List.subset_append_right _ _))

theorem State.updateParts_engineParts (s : State) (k : Engine) :
    .sense k :: engineParts k ⊆ s.updateParts k ++ engineParts k :=
  List.cons_subset.mpr ⟨by simp [State.updateParts], List.subset_append_right _ _⟩

theorem Reading.over_iff (r : Reading) (limit : Nat) : r.over limit = true ↔
    ∃ v sat, r = .good v sat ∧ (limit < v ∨ sat = true) := by
  cases r with
  | notMeasured | silent => simp [Reading.over]
  | good v sat =>
    refine ⟨fun h => ⟨v, sat, rfl, by simpa [Reading.over] using h⟩, ?_⟩
    rintro ⟨_, _, same, h⟩
    cases same
    simpa [Reading.over] using h

/-- The slots of the table after an update, but for those of WARMUP and, at a failover, PICKUP. -/
theorem State.speedUpdate_slots (good : s.tableGood) {n : Nat} (warmup : n ≠ internalSlot .warmup k)
    (pickup : s.failoverDue k = false ∨ n ≠ internalSlot .pickup k) :
    slotAt (s.speedUpdate k).table n = slotAt s.table n := by
  rw [(s.speedUpdate_reportMoves k).slots n warmup]
  obtain stays | other := pickup
  · rw [(s.measured_idle k stays).1]
  · exact (s.measured_limits k good).2.2.2.2 n other

/-- A CRANKING engine at fire speed fires. -/
theorem State.speedUpdate_fires (slow : ((s.measured k).sense k).overspeed (s.measured k).cfg.thresholds.overspeed = false)
    (state : (s.eng k).state = .cranking) (fast : s.cfg.thresholds.fireSpeed ≤ s.reportedSpeed k) :
    s.speedUpdate k = (s.measured k).fire k := by
  obtain ⟨eng, -, -, -, cfg, -⟩ := s.measured_keeps k
  rw [State.speedUpdate_running (by simp [state]), State.speedReport_cranking slow (by rw [eng]; exact state),
    State.measured_reportSpeed, cfg, if_pos fast]

/-- The WARMUP entry of an engine that fires: posted on a cold engine not yet warmed. -/
theorem State.speedUpdate_warmup {c : Int} (good : s.tableGood) (fitted : s.fitted k = true)
    (fires : s.speedUpdate k = (s.measured k).fire k) (cold : (s.sense k).warmed = false)
    (sensor : (s.sense k).sensorGood = true) (reading : (s.sense k).coolant = some c)
    (below : c < s.cfg.thresholds.warm) (free : s.stands .warmup k = false) :
    slotAt (s.speedUpdate k).table (internalSlot .warmup k) =
        ⟨nextGen (slotAt s.table (internalSlot .warmup k)).gen, some (s.internalEntry .warmup k)⟩ ∧
      ((s.speedUpdate k).sense k).warmCount = 0 := by
  obtain ⟨-, -, -, -, cfg, same⟩ := s.measured_keeps k
  obtain ⟨-, -, coolant, good', -, -, -, -, warmed⟩ := (s.sense k).updated_keeps s.cfg.roster.teeth s.freeCount
  rw [← State.measured_sense] at coolant good' warmed
  obtain ⟨goodU, -, -, -, kept⟩ := s.measured_limits k good
  have slot : slotAt (s.measured k).table (internalSlot .warmup k) = slotAt s.table (internalSlot .warmup k) :=
    kept _ (by cases k <;> decide)
  have entry : (s.measured k).internalEntry .warmup k = s.internalEntry .warmup k := by
    simp [State.internalEntry, cfg]
  have posts := State.fire_posts goodU (by rw [same]; exact fitted) (warmed.trans cold) (good'.trans sensor)
    (coolant.trans reading) (by rw [cfg]; exact below) (by rw [State.stands, slot]; exact free)
  rw [slot, entry] at posts
  rw [fires]
  exact posts

/-- No WARMUP entry where the examination of a fire finds no cause. -/
theorem State.speedUpdate_warm (good : s.tableGood) (fires : s.speedUpdate k = (s.measured k).fire k)
    (h : (s.sense k).warmed = true ∨ (s.sense k).sensorGood = false ∨ (s.sense k).coolant = none ∨
      (∃ c, (s.sense k).coolant = some c ∧ s.cfg.thresholds.warm ≤ c) ∨ s.stands .warmup k = true) :
    (s.speedUpdate k).table = (s.measured k).table ∧ (s.speedUpdate k).limits = (s.measured k).limits := by
  obtain ⟨-, -, -, -, cfg, -⟩ := s.measured_keeps k
  obtain ⟨-, -, coolant, good', -, -, -, -, warmed⟩ := (s.sense k).updated_keeps s.cfg.roster.teeth s.freeCount
  rw [← State.measured_sense] at coolant good' warmed
  have slot : slotAt (s.measured k).table (internalSlot .warmup k) = slotAt s.table (internalSlot .warmup k) :=
    (s.measured_limits k good).2.2.2.2 _ (by cases k <;> decide)
  obtain ⟨-, -, -, frame⟩ := (s.measured k).fires_changes k
  have table : ((s.measured k).fires k).table = (s.measured k).table := frame.table (by simp)
  have idle := State.warmupAtFire_idle (s := (s.measured k).fires k) (k := k) (by
    rw [frame.sense k (by simp), State.cfg_congr (frame.cfs (by simp)), cfg, coolant, good', warmed, State.stands,
      table, slot]
    exact h)
  rw [fires, State.fire_eq, idle]
  exact ⟨table, frame .limits (by simp)⟩

/-- Coming to rest, read off the state before the measurement. -/
theorem State.speedUpdate_rests (good : s.tableGood) (fitted : s.fitted k = true)
    (slow : ((s.measured k).sense k).overspeed (s.measured k).cfg.thresholds.overspeed = false)
    (state : (s.eng k).state = .stopping) (found : s.foundAtRest k) :
    s.restsTo (s.speedUpdate k) k (s.startAllowed k) ∧ ((s.speedUpdate k).eng k).stopTimer = none ∧
      s.onlyChanges (s.speedUpdate k) (s.updateParts k ++ engineParts k) := by
  obtain ⟨eng, car, cfs, lic, cfg, same⟩ := s.measured_keeps k
  obtain ⟨goodU, ⟨inhibit, -, run⟩, -⟩ := s.measured_limits k good
  have stateU : ((s.measured k).eng k).state = .stopping := by rw [eng]; exact state
  have rests : s.speedUpdate k = (s.measured k).enterRest k [] := by
    rw [State.speedUpdate_running (by simp [state]), State.speedReport_stopping slow stateU,
      if_pos ((s.measured_atRest k).mpr found)]
  obtain ⟨⟨counted, changed, cause, warmup, isolates, stops, starts⟩, frame, -⟩ :=
    State.enterRest_restsTo goodU (by rw [same]; exact fitted) (by rw [stateU]; rfl)
  have iso : (s.measured k).isoCond k = s.isoCond k := by
    unfold State.isoCond
    rw [lic, show (s.measured k).engines.get k = s.engines.get k from congrFun eng k]
  have admits : (s.measured k).admits k = true ↔ s.startAllowed k :=
    (State.measured_admits good).trans (and_iff_left found)
  rw [iso] at isolates stops starts
  rw [run, admits] at stops starts
  have timer : (((s.measured k).enterRest k []).eng k).stopTimer = none := by
    obtain ⟨record, -⟩ := (s.measured k).rested_changes k []
    have stopped : (((s.measured k).rested k []).eng k).stopTimer = none := by rw [record]; rfl
    rw [State.enterRest_eq]
    split
    · exact stopped
    · unfold State.runDemandStart State.takeStart
      split
      · split
        next admitted => exact (State.admitStart_keeps _ admitted.1).2.2.2
        next => exact stopped
      · exact stopped
  rw [rests]
  refine ⟨⟨counted, changed, cause, warmup, fun h => ?_, fun h no => ?_, fun h demand allowed =>
    State.startsTo_congr car cfg lic eng inhibit (starts h demand allowed)⟩, timer, ?_⟩
  · obtain ⟨state, kept⟩ := isolates h
    exact ⟨state, State.supplyKept_source car cfg kept⟩
  · obtain ⟨state, kept⟩ := stops h no
    exact ⟨state, State.supplyKept_source car cfg kept⟩
  · exact ((s.measured_onlyChanges k).mono (List.subset_append_left _ _)).trans
      (frame.mono (s.updateParts_engineParts k))

end

/-- Settles O46: the report is that of the measured sensing set, and each case of it is one of the lemmas above. -/
theorem speedReportFiresTripsAndRests : Obligations.SpeedReportFiresTripsAndRests := by
  unfold Obligations.SpeedReportFiresTripsAndRests
  refine ⟨fun s k awake fitted good fast state => ?overspeed, Reading.over_iff, fun s k awake fitted good a b => ?_⟩
  case overspeed =>
    obtain ⟨eng, -, -, -, cfg, -⟩ := s.measured_keeps k
    have trips : s.speedUpdate k = (s.measured k).trip k .overspeed [] := by
      rw [State.speedUpdate_running (by obtain h | h | h | h | h := state <;> simp [h])]
      refine State.speedReport_overspeed ?_ ?_
      · rw [eng]
        obtain h | h | h | h | h := state <;> rw [h] <;> rfl
      · rw [cfg, State.measured_overspeed]
        simpa using fast
    refine ⟨_, State.ifFitted_next awake fitted, State.speedUpdate_trips good ?_⟩
    rw [trips, ← eng]
    exact (s.measured k).trip_tripsTo k .overspeed []
  obtain ⟨eng, car, cfs, lic, cfg, same⟩ := s.measured_keeps k
  have slow := State.measured_slow a b
  have speed := s.measured_reportSpeed k
  refine ⟨fun state fast => ?fires, fun state silent => ?silent,
    fun state heard below => ⟨fun left => ?rests, fun last => ?fails⟩,
    fun state heard above => ⟨fun free made test => ?passes, fun h => ?waits⟩, fun state found => ?stops, fun h => ?idle⟩
  case fires =>
    have fires := State.speedUpdate_fires slow state fast
    obtain ⟨record, changed, left⟩ := State.fire_changes (k := k) (s.measured_limits k good).1
    rw [eng, ← fires] at record
    rw [← fires] at changed left
    refine ⟨_, State.ifFitted_next awake fitted, ?_⟩
    rw [record]
    refine ⟨rfl, rfl, rfl, rfl, rfl, changed, State.supplyLeft_source car cfg (by rw [eng]) left,
      fun c cold sensor reading below free => ?_, fun h => ⟨?_, fun stays => ?_⟩, ?_⟩
    · obtain ⟨slot, count⟩ := State.speedUpdate_warmup good fitted fires cold sensor reading below free
      exact ⟨slot, fun n warmup pickup => State.speedUpdate_slots good warmup pickup,
        (State.speedUpdate_limits good).1.resolved, count⟩
    · rw [(State.speedUpdate_warm good fires h).1]
      exact (s.measured_limits k good).2.2.2.2 (internalSlot .warmup k) (by cases k <;> decide)
    · obtain ⟨table, limits⟩ := s.measured_idle k stays
      obtain ⟨table', limits'⟩ := State.speedUpdate_warm good fires h
      exact ⟨table'.trans table, limits'.trans limits⟩
    · exact ((s.measured_onlyChanges k).mono (List.subset_append_left _ _)).trans
        ((s.speedUpdate_reportMoves k).frame.mono (s.updateParts_engineParts k))
  case silent =>
    have trips : s.speedUpdate k = (s.measured k).trip k .noSpeedSignal [] := by
      rw [State.speedUpdate_running (by obtain h | h | h := state <;> simp [h])]
      refine State.speedReport_silent slow ?_ ((s.measured_bothSilent k).mpr silent)
      rw [eng]
      obtain h | h | h := state <;> rw [h] <;> rfl
    refine ⟨_, State.ifFitted_next awake fitted, State.speedUpdate_trips good ?_⟩
    rw [trips, ← eng]
    exact (s.measured k).trip_tripsTo k .noSpeedSignal []
  case rests =>
    have fails : s.speedUpdate k = (s.measured k).failAttempt k .falseStart := by
      rw [State.speedUpdate_running (by simp [state]),
        State.speedReport_runup slow (State.measured_heard heard) (by rw [eng]; exact state), speed, cfg, if_pos below]
    rw [← eng] at left
    obtain ⟨rest, attempts, last, timer, -, reason, counted, changed, out, frame⟩ :=
      State.failAttempt_rests .falseStart left
    obtain ⟨runup, held⟩ := State.failAttempt_clears .falseStart left
    rw [← fails] at *
    rw [eng] at attempts reason
    have kept := out.2.2 (by rw [eng, state]; nofun) (by rw [eng, state]; nofun)
    exact ⟨_, State.ifFitted_next awake fitted, rest, attempts, last, timer, runup, held, reason, counted, changed,
      State.supplyKept_source car cfg kept, State.speedUpdate_onlyChanges frame⟩
  case fails =>
    have fails : s.speedUpdate k = (s.measured k).failAttempt k .falseStart := by
      rw [State.speedUpdate_running (by simp [state]),
        State.speedReport_runup slow (State.measured_heard heard) (by rw [eng]; exact state), speed, cfg, if_pos below]
    refine ⟨_, State.ifFitted_next awake fitted, State.speedUpdate_trips good ?_⟩
    rw [fails, ← eng]
    exact State.failAttempt_trips .falseStart (by rw [eng]; exact last)
  case passes =>
    have tries : s.speedUpdate k = (s.measured k).tryOnline k := by
      rw [State.speedUpdate_running (by simp [state]),
        State.speedReport_runup slow (State.measured_heard heard) (by rw [eng]; exact state), speed, cfg,
        if_neg (by omega)]
    obtain ⟨⟨passes, holds, changed⟩, frame⟩ := State.tryOnline_passes (s := s.measured k) (k := k)
      (by rw [eng]; exact state) (by rw [eng]; exact free) ((s.measured_onlineTest k).mpr ⟨made, test⟩)
    rw [← tries] at passes holds changed frame
    rw [eng] at passes holds
    refine ⟨_, State.ifFitted_next awake fitted, ⟨fun out => ?_, fun point => ?_, changed⟩,
      State.speedUpdate_onlyChanges frame⟩
    · obtain ⟨record, counted, kept⟩ := passes out
      rw [State.enRpm, cfg] at record
      exact ⟨record, counted, State.supplyKept_source car cfg kept⟩
    · obtain ⟨record, same⟩ := holds point
      exact ⟨record, same.trans car⟩
  case waits =>
    refine ⟨_, State.ifFitted_next awake fitted, State.speedUpdate_idle (by simp [state]) ?_⟩
    rw [State.speedReport_runup slow (State.measured_heard heard) (by rw [eng]; exact state), speed, cfg,
      if_neg (by omega)]
    refine if_neg fun ⟨_, free, test⟩ => ?_
    obtain ⟨made, reached⟩ := (s.measured_onlineTest k).mp test
    rw [eng] at free
    obtain held | open' | short := h
    · rw [free] at held; cases held
    · rw [made] at open'; cases open'
    · omega
  case stops =>
    obtain ⟨rests, timer, frame⟩ := State.speedUpdate_rests good fitted slow state found
    refine ⟨_, State.ifFitted_next awake fitted, rests, timer, fun h => ?_, frame⟩
    obtain ⟨-, -, -, -, isolates, stops, -⟩ := rests
    cases iso : s.isoCond k with
    | true => exact (isolates iso).1
    | false =>
      rw [iso] at h
      exact (stops iso (.inl (h.resolve_left nofun))).1
  case idle =>
    have idle : (s.eng k).state ≠ .stopped ∧ (s.measured k).speedReport k = s.measured k := by
      obtain h | h | h | ⟨h, heard⟩ | ⟨h, below⟩ | ⟨h, turns⟩ := h
      · exact ⟨by simp [h], State.speedReport_rest (by rw [eng]; tauto)⟩
      · exact ⟨by simp [h], State.speedReport_rest (by rw [eng]; tauto)⟩
      · exact ⟨by simp [h], State.speedReport_rest (by rw [eng]; tauto)⟩
      · exact ⟨by obtain h | h := h <;> simp [h],
          State.speedReport_runs slow (State.measured_heard heard) (by rw [eng]; exact h)⟩
      · refine ⟨by simp [h], ?_⟩
        rw [State.speedReport_cranking slow (by rw [eng]; exact h), speed, cfg, if_neg (by omega)]
      · refine ⟨by simp [h], ?_⟩
        rw [State.speedReport_stopping slow (by rw [eng]; exact h),
          if_neg fun rest => turns ((s.measured_atRest k).mp rest)]
    exact ⟨_, State.ifFitted_next awake fitted, State.speedUpdate_idle idle.1 idle.2⟩

end Sys2Proof.Machine

namespace Sys2Proof.Machine

/-! ## Requests at the Restriction Table -/

section

variable {s : State} {c : Instr} {owner : State → State × Reply} {status : Status} {payload : List Byte}

/-- A request taken whose owner changes the table: the limits are those of the new one, and a change of them is handed on. -/
theorem State.served_table {x : List Slot} (taken : s.takes c = true)
    (own : owner s = (s.changeTable x, ⟨status, payload⟩)) : (s.serveCommand c owner).table = x ∧
      (s.serveCommand c owner).limits = resolve (s.serveCommand c owner).table ∧
      (s.serveCommand c owner).handed = s.handed ++ s.limitsHanded s.limits (s.serveCommand c owner).limits ∧
      s.answers (s.serveCommand c owner) c status payload ∧
      s.onlyChanges (s.serveCommand c owner) (.table :: .limits :: .handed :: answerParts) := by
  obtain ⟨answers, frame, after⟩ := State.served taken own (s.changeTable_onlyChanges x) (by simp)
  have table : (s.serveCommand c owner).table = (s.changeTable x).table := after.table (by simp [answerParts])
  have limits : (s.serveCommand c owner).limits = (s.changeTable x).limits := after .limits (by simp [answerParts])
  have handed : (s.serveCommand c owner).handed = (s.changeTable x).handed := after .handed (by simp [answerParts])
  rw [table, limits, handed]
  exact ⟨(s.changeTable_spec x).1, s.changeTable_limits x, s.changeTable_handsOn x, answers, frame⟩

end

theorem slotAt_set_self {t : List Slot} {n : Nat} (inside : n < t.length) (x : Slot) : slotAt (t.set n x) n = x := by
  rw [slotAt_set, if_pos ⟨rfl, inside⟩]

theorem slotAt_set_other {t : List Slot} {n m : Nat} (other : m ≠ n) (x : Slot) : slotAt (t.set n x) m = slotAt t m := by
  rw [slotAt_set, if_neg fun h => other h.1]

/-! ## Values, expiries and forms -/

theorem Kind.hasValue_eq (kd : Kind) : kd.hasValue = decide (kd = .notchCeiling ∨ kd = .powerCap) := by
  cases kd <;> rfl

theorem valueFormOk_iff (kd : Kind) (vp : Byte) : valueFormOk kd vp = true ↔
    yesNoField vp = some (decide (kd = .notchCeiling ∨ kd = .powerCap)) := by
  rw [valueFormOk, Kind.hasValue_eq, decide_eq_true_iff]

theorem adjustValue_eq (kd : Kind) (v : Nat) : adjustValue kd v = (if kd = .notchCeiling then some (min v 8)
    else if kd = .powerCap then some v else none, decide (kd = .notchCeiling ∧ 8 < v)) := by
  cases kd <;> simp [adjustValue]

theorem adjustExpiry_eq (x : Nat) : adjustExpiry x = (if x = 0 then none else some (min x 3600), decide (3600 < x)) := by
  unfold adjustExpiry
  split
  next zero => simp [zero]
  next => rfl

theorem clampStatus_eq {p : Prop} [Decidable p] {b : Bool} (h : b = true ↔ p) :
    clampStatus b = if p then .clamped else .ok := by
  simp only [clampStatus, h]

/-! ## POST -/

theorem freeExternal_eq_some {t : List Slot} {n : Nat} (low : 17 ≤ n) (high : n ≤ 48) (free : (slotAt t n).live = false)
    (lowest : ∀ m, 17 ≤ m → m < n → (slotAt t m).live = true) : freeExternal t = some n := by
  rw [freeExternal, externalSlots, List.find?_range'_eq_some]
  refine ⟨by simp [free], ?_, fun j hj hn => by simp [lowest j hj hn]⟩
  rw [List.mem_range'_1]
  exact ⟨low, by simp only [Config.externalFirst]; omega⟩

theorem freeExternal_eq_none {t : List Slot} (full : ∀ n, 17 ≤ n → n ≤ 48 → (slotAt t n).live = true) :
    freeExternal t = none := by
  rw [freeExternal, List.find?_eq_none]
  intro n hn
  simp only [externalSlots, List.mem_range'_1, Config.externalFirst] at hn
  simp [full n (by omega) (by omega)]

section

variable {s : State} {origin kind scope vp : Byte} {value expiry : Word16} {kd : Kind}

theorem State.post_scoped {sc : Scope} {dropped : Bool} (field : kindField kind = some kd)
    (form : yesNoField vp = some (decide (kd = .notchCeiling ∨ kd = .powerCap)))
    (inScope : s.checkScope kd scope = some (sc, dropped)) : s.post origin kind scope vp value expiry =
      match freeExternal s.table with
      | none => (s, ⟨.tableFull, []⟩)
      | some n => (s.changeTable (postAt s.table n ⟨.external origin, kd, sc, (adjustValue kd value.toNat).1,
            (adjustExpiry expiry.toNat).1⟩),
          ⟨clampStatus (dropped || (adjustValue kd value.toNat).2 || (adjustExpiry expiry.toNat).2),
            handleBytes (s.changeTable (postAt s.table n ⟨.external origin, kd, sc, (adjustValue kd value.toNat).1,
              (adjustExpiry expiry.toNat).1⟩)).table n⟩) := by
  unfold State.post
  rw [field]
  simp only [(valueFormOk_iff kd vp).mpr form, inScope]
  rfl

theorem State.post_badKind (field : kindField kind = none) :
    s.post origin kind scope vp value expiry = (s, ⟨.badValue, []⟩) := by
  unfold State.post
  rw [field]
  rfl

theorem State.post_badForm (field : kindField kind = some kd)
    (form : yesNoField vp ≠ some (decide (kd = .notchCeiling ∨ kd = .powerCap))) :
    s.post origin kind scope vp value expiry = (s, ⟨.badRequest, []⟩) := by
  unfold State.post
  rw [field]
  exact if_pos (by rw [Bool.not_eq_true', Bool.eq_false_iff, ne_eq, valueFormOk_iff]; exact form)

theorem State.post_badScope (field : kindField kind = some kd)
    (form : yesNoField vp = some (decide (kd = .notchCeiling ∨ kd = .powerCap)))
    (inScope : s.checkScope kd scope = none) : s.post origin kind scope vp value expiry = (s, ⟨.badValue, []⟩) := by
  unfold State.post
  rw [field]
  simp only [(valueFormOk_iff kd vp).mpr form, inScope]
  rfl

/-! ## The scope check (R21) -/

theorem noEngine_iff (set : PerEngine Bool) : noEngine set = true ↔ ∀ k, set.get k = false := by
  constructor
  · intro h k
    cases k <;> simp_all [noEngine, PerEngine.get]
  · intro h
    change (!(set.get .e1 || set.get .e2 || set.get .e3 || set.get .e4)) = true
    simp [h]

theorem scopeField_engines (low : scope.toNat < 16) :
    scopeField scope = some (.engines (.of fun k => scope.getLsbD (k.number - 1))) := by
  have other : scope ≠ 0x80 := by rintro rfl; exact absurd low (by decide)
  rw [scopeField, if_neg other, if_pos low]
  rfl

theorem scopeField_none (high : 16 ≤ scope.toNat) (other : scope ≠ 0x80) : scopeField scope = none := by
  rw [scopeField, if_neg other, if_neg (by omega)]

/-- A named engine is dropped exactly when the engines kept are not the engines named. -/
theorem PerEngine.of_and_ne_iff (named fits : Engine → Bool) :
    PerEngine.of (fun k => named k && fits k) ≠ PerEngine.of named ↔ ∃ k, named k = true ∧ fits k = false := by
  rw [← not_iff_not, not_ne_iff]
  constructor
  · rintro same ⟨k, hn, hf⟩
    have := congrArg (fun p => PerEngine.get p k) same
    simp [hn, hf] at this
  · intro none
    refine PerEngine.eq_of_get _ _ fun k => ?_
    rw [PerEngine.get_of, PerEngine.get_of]
    cases hn : named k with
    | false => rfl
    | true => simpa using fun h => none ⟨k, hn, h⟩

/-- The engines a request names, as far as they are fitted. -/
theorem State.checkScope_engines {set : PerEngine Bool} (uncapped : kd ≠ .powerCap)
    (field : scopeField scope = some (.engines set)) : s.checkScope kd scope =
      if noEngine (.of fun k => set.get k && s.fitted k) then none
      else some (.engines (.of fun k => set.get k && s.fitted k), decide ((.of fun k => set.get k && s.fitted k) ≠ set)) := by
  unfold State.checkScope
  rw [field]
  cases kd with
  | powerCap => exact absurd rfl uncapped
  | notchCeiling | startInhibit | runDemand | stopDemand => rfl

end

/-- Settles O15. -/
theorem postCreatesEntryInLowestFreeSlot : Obligations.PostCreatesEntryInLowestFreeSlot := by
  unfold Obligations.PostCreatesEntryInLowestFreeSlot
  refine ⟨fun s c kind scope vp value expiry kd sc dropped taken good field form inScope =>
    ⟨fun n low high free lowest => ?created, fun full => ?full⟩, fun s kd scope => ⟨?_, ?_, ?_, ?_⟩⟩
  case created =>
    have does := (State.post_scoped (origin := c.origin) (value := value) (expiry := expiry) field form inScope)
    rw [freeExternal_eq_some low high free lowest] at does
    dsimp only at does
    have inside : n < s.table.length := by rw [good.length, Config.slots]; omega
    obtain ⟨table, resolved, handsOn, answers, frame⟩ := State.served_table
      (owner := fun u => u.post c.origin kind scope vp value expiry) taken does
    refine ⟨_, rfl, ?_, fun m other => ?_, resolved, handsOn, ?_, frame⟩
    · rw [table, postAt, slotAt_set_self inside, adjustValue_eq, adjustExpiry_eq]
    · rw [table, postAt, slotAt_set_other other]
    · rw [(s.changeTable_spec _).1, handleBytes, postAt, slotAt_set_self inside] at answers
      convert answers using 1
      refine (clampStatus_eq ?_).symm
      simp [adjustValue_eq, adjustExpiry_eq, or_assoc]
  case full =>
    have does := (State.post_scoped (origin := c.origin) (value := value) (expiry := expiry) field form inScope)
    rw [freeExternal_eq_none full] at does
    obtain ⟨answers, frame⟩ := State.served_idle (owner := fun u => u.post c.origin kind scope vp value expiry) taken does
    exact ⟨_, rfl, answers, frame⟩
  · rintro rfl rfl
    rfl
  · rintro rfl other
    unfold State.checkScope
    by_cases low : scope.toNat < 16
    · rw [scopeField_engines low]
    · rw [scopeField_none (by omega) other]
  · intro uncapped high
    by_cases loco : scope = 0x80
    · subst loco
      cases kd with
      | powerCap => exact absurd rfl uncapped
      | notchCeiling | startInhibit | runDemand | stopDemand => rfl
    · unfold State.checkScope
      rw [scopeField_none high loco]
  · rintro kept uncapped low rfl
    have scope_eq := s.checkScope_engines uncapped (scopeField_engines low)
    simp only [PerEngine.get_of] at scope_eq
    rw [scope_eq]
    refine ⟨fun none => if_pos ((noEngine_iff _).mpr none), fun ⟨k, hk⟩ drops => ?_, fun ⟨k, hk⟩ fits => ?_⟩
    · rw [if_neg fun none => by simp [(noEngine_iff _).mp none k] at hk,
        decide_eq_true ((PerEngine.of_and_ne_iff _ _).mpr drops)]
    · rw [if_neg fun none => by simp [(noEngine_iff _).mp none k] at hk, decide_eq_false fun drops => ?_]
      obtain ⟨j, named, unfit⟩ := (PerEngine.of_and_ne_iff _ _).mp drops
      rw [fits j named] at unfit
      cases unfit

/-! ## The handle check (R18) -/

section

variable {s : State} {slot gen : Byte}

theorem checkHandle_range (out : 49 ≤ slot.toNat) : checkHandle s.table slot gen = .error .badValue :=
  if_pos (by simpa [Config.slots] using out)

theorem checkHandle_unknown (inside : slot.toNat ≤ 48)
    (h : (slotAt s.table slot.toNat).live = false ∨ (slotAt s.table slot.toNat).gen ≠ gen) :
    checkHandle s.table slot gen = .error .unknownHandle := by
  unfold checkHandle
  rw [if_neg (by simp only [Config.slots]; omega)]
  cases entry : (slotAt s.table slot.toNat).entry with
  | none => rfl
  | some e =>
    refine if_neg fun same => h.elim (fun free => ?_) fun other => other same
    rw [Slot.live, entry] at free
    cases free

theorem checkHandle_valid {e : Entry} (inside : slot.toNat ≤ 48) (holds : slotAt s.table slot.toNat = ⟨gen, some e⟩) :
    checkHandle s.table slot gen = .ok e := by
  unfold checkHandle
  rw [if_neg (by simp only [Config.slots]; omega), holds]
  exact if_pos rfl

/-- A handle refused is refused alike by AMEND, RETIRE and READ_ENTRY. -/
theorem exec_badHandle {c : Caller} {vp : Byte} {value expiry : Word16} {cmd : Instr} {status : Status}
    (is : cmd = .amend c slot gen vp value expiry ∨ cmd = .retire c slot gen ∨ cmd = .readEntry c slot gen)
    (taken : s.takes cmd = true) (bad : checkHandle s.table slot gen = .error status) :
    ∃ t, exec cmd s = .next t ∧ s.answers t cmd status [] ∧ s.onlyChanges t answerParts := by
  obtain rfl | rfl | rfl := is
  · have does : s.amend c.origin slot gen vp value expiry = (s, ⟨status, []⟩) := by
      unfold State.amend
      rw [bad]
      rfl
    obtain ⟨answers, frame⟩ := State.served_idle (owner := fun u => u.amend c.origin slot gen vp value expiry) taken does
    exact ⟨_, rfl, answers, frame⟩
  · have does : s.retire c.origin slot gen = (s, ⟨status, []⟩) := by
      unfold State.retire
      rw [bad]
      rfl
    obtain ⟨answers, frame⟩ := State.served_idle (owner := fun u => u.retire c.origin slot gen) taken does
    exact ⟨_, rfl, answers, frame⟩
  · have does : s.readEntry slot gen = (s, ⟨status, []⟩) := by
      unfold State.readEntry
      rw [bad]
      rfl
    obtain ⟨answers, frame⟩ := State.served_idle (owner := fun u => u.readEntry slot gen) taken does
    exact ⟨_, rfl, answers, frame⟩

end

/-- Settles O16. -/
theorem tableRequestsRefuseBadFields : Obligations.TableRequestsRefuseBadFields := by
  unfold Obligations.TableRequestsRefuseBadFields
  refine ⟨fun s c kind scope vp value expiry taken => ⟨fun field => ?_, fun kd field form => ?_,
    fun kd field form named loco => ?_⟩, fun s c slot gen vp value expiry cmd is taken => ⟨fun out => ?_,
      fun inside unknown => ?_⟩⟩
  · obtain ⟨answers, frame⟩ := State.served_idle (owner := fun u => u.post c.origin kind scope vp value expiry) taken
      (State.post_badKind field)
    exact ⟨_, rfl, answers, frame⟩
  · obtain ⟨answers, frame⟩ := State.served_idle (owner := fun u => u.post c.origin kind scope vp value expiry) taken
      (State.post_badForm field form)
    exact ⟨_, rfl, answers, frame⟩
  · have bad : s.checkScope kd scope = none := by
      unfold State.checkScope
      cases hs : scopeField scope with
      | none => rfl
      | some sc =>
        cases sc with
        | locomotive =>
          have uncapped := loco hs
          cases kd with
          | powerCap => exact absurd rfl uncapped
          | notchCeiling | startInhibit | runDemand | stopDemand => rfl
        | engines set =>
          obtain rfl | none := named set hs
          · rfl
          · have empty : noEngine (.of fun k => set.get k && s.fitted k) = true :=
              (noEngine_iff _).mpr fun k => by simpa using none k
            cases kd with
            | powerCap => rfl
            | notchCeiling | startInhibit | runDemand | stopDemand => exact if_pos empty
    obtain ⟨answers, frame⟩ := State.served_idle (owner := fun u => u.post c.origin kind scope vp value expiry) taken
      (State.post_badScope field form bad)
    exact ⟨_, rfl, answers, frame⟩
  · exact exec_badHandle is taken (checkHandle_range out)
  · exact exec_badHandle is taken (checkHandle_unknown inside unknown)

/-- Settles O17. -/
theorem amendAndRetireActOnOwnedEntry : Obligations.AmendAndRetireActOnOwnedEntry := by
  unfold Obligations.AmendAndRetireActOnOwnedEntry
  intro s c slot gen vp value expiry e good inRange holds
  have handle := checkHandle_valid inRange holds
  have inside : slot.toNat < s.table.length := by rw [good.length, Config.slots]; omega
  refine ⟨fun cmd is taken denied => ?denied, fun o external owned =>
    ⟨fun taken => ?retired, fun taken form => ?badForm, fun taken form => ?amended⟩⟩
  case denied =>
    have may : s.mayChange c.origin e = false := by
      obtain ⟨x, owner⟩ | ⟨o, owner, other, role⟩ := denied
      · simp [State.mayChange, owner]
      · simp [State.mayChange, owner, other, role]
    obtain rfl | rfl := is
    · have does : s.amend c.origin slot gen vp value expiry = (s, ⟨.notPermitted, []⟩) := by
        simp [State.amend, handle, may, Reply.bare]
      obtain ⟨answers, frame⟩ := State.served_idle (owner := fun u => u.amend c.origin slot gen vp value expiry) taken does
      exact ⟨_, rfl, answers, frame⟩
    · have does : s.retire c.origin slot gen = (s, ⟨.notPermitted, []⟩) := by
        simp [State.retire, handle, may, Reply.bare]
      obtain ⟨answers, frame⟩ := State.served_idle (owner := fun u => u.retire c.origin slot gen) taken does
      exact ⟨_, rfl, answers, frame⟩
  all_goals
    have may : s.mayChange c.origin e = true := by
      obtain rfl | role := owned
      · simp [State.mayChange, external]
      · simp [State.mayChange, external, role]
  case retired =>
    have does : s.retire c.origin slot gen = (s.changeTable (freeAt s.table slot.toNat), ⟨.ok, []⟩) := by
      simp [State.retire, handle, may, Reply.bare]
    obtain ⟨table, resolved, handsOn, answers, frame⟩ := State.served_table
      (owner := fun u => u.retire c.origin slot gen) taken does
    refine ⟨_, rfl, ?_, fun m other => ?_, resolved, handsOn, answers, frame⟩
    · rw [table, freeAt, slotAt_set_self inside, holds]
    · rw [table, freeAt, slotAt_set_other other]
  case badForm =>
    have does : s.amend c.origin slot gen vp value expiry = (s, ⟨.badRequest, []⟩) := by
      have bad : valueFormOk e.kind vp = false := by
        rw [Bool.eq_false_iff, ne_eq, valueFormOk_iff]
        exact form
      simp [State.amend, handle, may, bad, Reply.bare]
    obtain ⟨answers, frame⟩ := State.served_idle (owner := fun u => u.amend c.origin slot gen vp value expiry) taken does
    exact ⟨_, rfl, answers, frame⟩
  case amended =>
    have does : s.amend c.origin slot gen vp value expiry = (s.changeTable (amendAt s.table slot.toNat
        { e with value := (adjustValue e.kind value.toNat).1, expiry := (adjustExpiry expiry.toNat).1 }),
        ⟨clampStatus ((adjustValue e.kind value.toNat).2 || (adjustExpiry expiry.toNat).2), [slot, gen]⟩) := by
      have well := (valueFormOk_iff e.kind vp).mpr form
      simp [State.amend, handle, may, well, (s.changeTable_spec _).1, handleBytes, amendAt, slotAt_set_self inside,
        holds, byte]
    obtain ⟨table, resolved, handsOn, answers, frame⟩ := State.served_table
      (owner := fun u => u.amend c.origin slot gen vp value expiry) taken does
    refine ⟨_, rfl, ?_, fun m other => ?_, resolved, handsOn, ?_, frame⟩
    · rw [table, amendAt, slotAt_set_self inside, holds, adjustValue_eq, adjustExpiry_eq]
    · rw [table, amendAt, slotAt_set_other other]
    · rw [clampStatus_eq (p := (e.kind = .notchCeiling ∧ 8 < value.toNat) ∨ 3600 < expiry.toNat)
        (by simp [adjustValue_eq, adjustExpiry_eq])] at answers
      exact answers

end Sys2Proof.Machine

namespace Sys2Proof.Machine

/-! ## Listings (R29, R30) -/

/-- The first six of an ascending list are those below its next slot. -/
theorem mem_take_six {l : List Nat} (ascending : l.Pairwise (· < ·)) (bound : ∀ n ∈ l, n < 49) (n : Nat) :
    n ∈ l.take 6 ↔ n ∈ l ∧ n < nextSlot l := by
  unfold nextSlot
  cases rest : l.drop 5 with
  | nil =>
    have all : l.take 6 = l := List.take_of_length_le (by have := List.drop_eq_nil_iff.mp rest; omega)
    rw [all]
    exact ⟨fun h => ⟨h, bound n h⟩, fun h => h.1⟩
  | cons a more =>
    have parts : l = l.take 5 ++ a :: more := by rw [← rest, List.take_append_drop]
    have five : (l.take 5).length = 5 := by
      have : (l.drop 5).length ≠ 0 := by rw [rest]; simp
      simp only [List.length_take, List.length_drop] at this ⊢
      omega
    have six : l.take 6 = l.take 5 ++ [a] := by
      conv_lhs => rw [parts]
      rw [List.take_append, five]
      simp
    rw [parts, List.pairwise_append, List.pairwise_cons] at ascending
    obtain ⟨-, ⟨above, -⟩, below⟩ := ascending
    rw [six]
    conv_rhs => rw [parts]
    simp only [List.mem_append, List.mem_cons, List.not_mem_nil, or_false]
    constructor
    · rintro (h | rfl)
      · exact ⟨.inl h, by have := below n h a List.mem_cons_self; omega⟩
      · exact ⟨.inr (.inl rfl), by omega⟩
    · rintro ⟨h | rfl | h, low⟩
      · exact .inl h
      · exact .inr rfl
      · have := above n h
        omega

theorem nextSlot_short {l : List Nat} (short : (l.take 6).length < 6) : nextSlot l = 49 := by
  have none : l.drop 5 = [] := by
    rw [List.drop_eq_nil_iff]
    simp only [List.length_take] at short
    omega
  rw [nextSlot, none]

theorem nextSlot_full {l : List Nat} (full : (l.take 6).length = 6) : (l.take 6).getLast? = some (nextSlot l - 1) := by
  simp only [List.length_take] at full
  have long : 5 < l.length := by omega
  have last : (l.take 6).getLast? = l[5]? := by
    rw [List.getLast?_eq_getElem?, List.length_take, Nat.min_eq_left (by omega), List.getElem?_take]
    simp
  have first : l.drop 5 = l[5] :: l.drop 6 := List.drop_eq_getElem_cons long
  rw [last, nextSlot, first, List.getElem?_eq_getElem long]
  rfl

section

variable (t : List Slot) (start : Nat) (kd : Option Kind) (en : Option Engine) (og : OriginFilter)

theorem mem_matching (n : Nat) : n ∈ matching t start kd en og ↔ start ≤ n ∧ n < 49 ∧
    ∃ e, (slotAt t n).entry = some e ∧ e.matches kd en og = true := by
  have passes : ((slotAt t n).entry.map fun e => e.matches kd en og).getD false = true ↔
      ∃ e, (slotAt t n).entry = some e ∧ e.matches kd en og = true := by
    cases (slotAt t n).entry <;> simp
  rw [matching, List.mem_filter, passes, List.mem_range'_1, and_assoc, Config.slots]
  refine ⟨fun ⟨low, high, h⟩ => ⟨low, by omega, h⟩, fun ⟨low, high, h⟩ => ⟨low, by omega, h⟩⟩

theorem matching_ascending : (matching t start kd en og).Pairwise (· < ·) :=
  List.Pairwise.filter _ (List.pairwise_lt_range' (step := 1))

end

/-! ## Reports of an entry (R28, R41, R180, R181) -/

theorem State.mem_fittedEngines (s : State) (k : Engine) : k ∈ s.fittedEngines ↔ s.fitted k = true := by
  simp [State.fittedEngines, Engine.all]
  cases k <;> simp

/-- The binding flag by kind. -/
theorem State.binding_iff (s : State) (e : Entry) :
     (e.kind = .notchCeiling → (s.binding e = true ↔
       ∃ k, s.fitted k = true ∧ e.covers k = true ∧ e.value = some (s.limits.ceiling.get k))) ∧
     (∀ v, e.kind = .powerCap → e.value = some v →
       (s.binding e = true ↔ s.limits.cap = some v ∧ v < s.lp s.dsl.demand)) ∧
     (e.kind = .startInhibit → (s.binding e = true ↔ ∃ k, s.fitted k = true ∧ e.covers k = true ∧
       ((s.eng k).state = .stopped ∨ (s.eng k).state = .crankWait))) ∧
     (e.kind = .runDemand → (s.binding e = true ↔ ∃ k, s.fitted k = true ∧ e.covers k = true ∧
       s.limits.stop.get k = false ∧ (s.eng k).state ≠ .isolated ∧ (s.eng k).state ≠ .tripped)) ∧
     (e.kind = .stopDemand → (s.binding e = true ↔ ∃ k, s.fitted k = true ∧ e.covers k = true ∧
       (s.eng k).state ≠ .stopped ∧ (s.eng k).state ≠ .isolated ∧ (s.eng k).state ≠ .tripped)) := by
  have rests (k : Engine) : (!(s.eng k).state.resting) = true ↔
      (s.eng k).state ≠ .stopped ∧ (s.eng k).state ≠ .isolated ∧ (s.eng k).state ≠ .tripped := by
    cases (s.eng k).state <;> simp [EState.resting]
  have scoped' (p : Engine → Bool) : (s.fittedEngines.any fun k => e.covers k && p k) = true ↔
      ∃ k, s.fitted k = true ∧ e.covers k = true ∧ p k = true := by
    simp [State.mem_fittedEngines]
  unfold State.binding
  refine ⟨fun kind => ?_, fun v kind value => ?_, fun kind => ?_, fun kind => ?_, fun kind => ?_⟩
  · simp only [kind, scoped', decide_eq_true_eq]
  · simp [kind, value, eq_comm (a := some v)]
  · simp only [kind, scoped', Bool.or_eq_true, decide_eq_true_eq]
  · simp only [kind, scoped', Bool.and_eq_true, Bool.not_eq_true', decide_eq_false_iff_not, and_assoc, ne_eq]
  · simp only [kind, scoped', rests]

theorem Entry.matches_iff (e : Entry) (kd : Option Kind) (en : Option Engine) (og : OriginFilter) :
    e.matches kd en og = true ↔ (kd = none ∨ kd = some e.kind) ∧
     (en = none ∨ ∃ k set, en = some k ∧ e.scope = .engines set ∧ set.get k = true) ∧
     (og = .any ∨ (∃ o, og = .origin o ∧ e.owner = .external o) ∨ (og = .internal ∧ ∃ x, e.owner = .internal x)) := by
  have kinds : (kd.all fun x => decide (x = e.kind)) = true ↔ kd = none ∨ kd = some e.kind := by
    cases kd <;> simp
  have engines : (en.all fun k => e.covers k) = true ↔
      en = none ∨ ∃ k set, en = some k ∧ e.scope = .engines set ∧ set.get k = true := by
    cases en with
    | none => simp
    | some k => cases hs : e.scope <;> simp [Entry.covers, hs]
  have owners : og.passes e.owner = true ↔
      og = .any ∨ (∃ o, og = .origin o ∧ e.owner = .external o) ∨ (og = .internal ∧ ∃ x, e.owner = .internal x) := by
    cases og <;> cases e.owner <;> simp [OriginFilter.passes, eq_comm]
  rw [Entry.matches, Bool.and_eq_true, Bool.and_eq_true, kinds, engines, owners, and_assoc]

/-! ## Codes of the fields (R180) -/

theorem kindField_none {b : Byte} (high : 5 < b.toNat) : kindField b = none := by
  unfold kindField
  split
  case h_6 => rfl
  all_goals omega

theorem engineField_none {b : Byte} (high : 4 < b.toNat) : engineField b = none := by
  unfold engineField Engine.ofNumber?
  split
  case h_5 => rfl
  all_goals omega

theorem kindFilter_codes : kindFilter 0 = some none ∧ (∀ kd, kindFilter (kindCode kd) = some (some kd)) ∧
    ∀ b : Byte, 5 < b.toNat → kindFilter b = none := by
  refine ⟨rfl, fun kd => by cases kd <;> rfl, fun b high => ?_⟩
  rw [kindFilter, if_neg (by rintro rfl; simp at high), kindField_none high]
  rfl

theorem engineFilter_codes : engineFilter 0 = some none ∧ (∀ k : Engine, engineFilter (byte k.number) = some (some k)) ∧
    ∀ b : Byte, 4 < b.toNat → engineFilter b = none := by
  refine ⟨rfl, fun k => by cases k <;> rfl, fun b high => ?_⟩
  rw [engineFilter, if_neg (by rintro rfl; simp at high), engineField_none high]
  rfl

theorem originFilter_codes : originFilter 0x10 = some .internal ∧ originFilter 0xFF = some .any ∧
    (∀ b : Byte, b.toNat ≤ 15 → originFilter b = some (.origin b)) ∧
    ∀ b : Byte, 16 < b.toNat → b ≠ 0xFF → originFilter b = none := by
  refine ⟨rfl, rfl, fun b low => ?_, fun b high other => ?_⟩
  · rw [originFilter, if_neg (by rintro rfl; simp at low), if_neg (by rintro rfl; simp at low), if_pos low]
  · rw [originFilter, if_neg other, if_neg (by rintro rfl; simp at high), if_neg (by omega)]

theorem engineBits_bits (set : PerEngine Bool) : (engineBits set).toNat < 16 ∧
    ∀ k : Engine, (engineBits set).getLsbD (k.number - 1) = set.get k := by
  obtain ⟨e1, e2, e3, e4⟩ := set
  have all : ∀ e1 e2 e3 e4 : Bool, (engineBits ⟨e1, e2, e3, e4⟩).toNat < 16 ∧
      (engineBits ⟨e1, e2, e3, e4⟩).getLsbD 0 = e1 ∧ (engineBits ⟨e1, e2, e3, e4⟩).getLsbD 1 = e2 ∧
      (engineBits ⟨e1, e2, e3, e4⟩).getLsbD 2 = e3 ∧ (engineBits ⟨e1, e2, e3, e4⟩).getLsbD 3 = e4 := by decide
  obtain ⟨small, h1, h2, h3, h4⟩ := all e1 e2 e3 e4
  refine ⟨small, fun k => ?_⟩
  cases k
  · exact h1
  · exact h2
  · exact h3
  · exact h4

theorem State.entryReport_fields (s : State) (slot gen : Byte) (e : Entry) {p : List Byte}
    (report : p = s.entryReport slot gen e) : p.length = 13 ∧
       p.take 2 = [slot, gen] ∧ (∀ o, e.owner = .external o → p.getD 2 0 = o ∧ p.getD 3 0 = 0) ∧
       (∀ x, e.owner = .internal x → p.getD 2 0 = 0x10 ∧ p.getD 3 0 = match x with
         | .warmup => 1
         | .hot => 2
         | .pickup => 3
         | .lockout => 4
         | .batteryLow => 5) ∧ p.getD 4 0 = kindCode e.kind ∧
       p.getD 5 0 = scopeCode e.scope ∧
       (∀ v, e.value = some v → p.getD 6 0 = 1 ∧ p.getD 7 0 = byte (v / 256) ∧ p.getD 8 0 = byte v) ∧
       (e.value = none → p.getD 6 0 = 0 ∧ p.getD 7 0 = 0 ∧ p.getD 8 0 = 0) ∧
       (∀ v, e.expiry = some v → p.getD 9 0 = 1 ∧ p.getD 10 0 = byte (v / 256) ∧ p.getD 11 0 = byte v) ∧
       (e.expiry = none → p.getD 9 0 = 0 ∧ p.getD 10 0 = 0 ∧ p.getD 11 0 = 0) ∧ p.getD 12 0 = bit (s.binding e) := by
  have value : ∃ v0 v1 v2, optional16 e.value = [v0, v1, v2] := by cases e.value <;> exact ⟨_, _, _, rfl⟩
  have expiry : ∃ x0 x1 x2, optional16 e.expiry = [x0, x1, x2] := by cases e.expiry <;> exact ⟨_, _, _, rfl⟩
  obtain ⟨v0, v1, v2, hv⟩ := value
  obtain ⟨x0, x1, x2, hx⟩ := expiry
  rw [State.entryReport, hv, hx] at report
  subst report
  refine ⟨rfl, rfl, fun o owner => ?_, fun x owner => ?_, rfl, rfl, fun v some => ?_, fun none => ?_, fun v some => ?_,
    fun none => ?_, rfl⟩
  · rw [owner]
    exact ⟨rfl, rfl⟩
  · rw [owner]
    cases x <;> exact ⟨rfl, rfl⟩
  · rw [some] at hv
    cases hv
    exact ⟨rfl, rfl, rfl⟩
  · rw [none] at hv
    cases hv
    exact ⟨rfl, rfl, rfl⟩
  · rw [some] at hx
    cases hx
    exact ⟨rfl, rfl, rfl⟩
  · rw [none] at hx
    cases hx
    exact ⟨rfl, rfl, rfl⟩

/-- Settles O18. -/
theorem readRequestsReportEntries : Obligations.ReadRequestsReportEntries := by
  unfold Obligations.ReadRequestsReportEntries
  refine ⟨fun s c slot gen e taken inRange holds => ?_,
    fun s c kind engine origin start kd en og taken kinds engines origins => ⟨fun out => ?_, fun inside => ?_⟩,
    State.binding_iff, Entry.matches_iff, ⟨rfl, rfl, rfl, rfl, rfl⟩, kindFilter_codes, ⟨rfl, engineBits_bits⟩,
    engineFilter_codes, originFilter_codes⟩
  · have does : s.readEntry slot gen = (s, ⟨.ok, s.entryReport slot gen e⟩) := by
      unfold State.readEntry
      rw [checkHandle_valid inRange holds]
    obtain ⟨answers, frame⟩ := State.served_idle (owner := fun u => u.readEntry slot gen) taken does
    obtain ⟨length, handle, external, internal, kind, scope, value, noValue, expiry, noExpiry, binding⟩ :=
      s.entryReport_fields slot gen e rfl
    exact ⟨_, _, rfl, answers, length, handle, external, internal, kind, scope, value, noValue, expiry, noExpiry,
      binding, frame⟩
  · have does : s.listEntries kind engine origin start = (s, ⟨.badValue, []⟩) := by
      simp [State.listEntries, kinds, engines, origins, Config.slots, out, Reply.bare]
    obtain ⟨answers, frame⟩ := State.served_idle (owner := fun u => u.listEntries kind engine origin start) taken does
    exact ⟨_, rfl, answers, frame⟩
  · have does : s.listEntries kind engine origin start = (s, ⟨.ok,
        byte ((matching s.table start.toNat kd en og).take 6).length ::
          ((matching s.table start.toNat kd en og).take 6).flatMap (handleBytes s.table) ++
            [byte (nextSlot (matching s.table start.toNat kd en og))]⟩) := by
      have fits : ¬ Config.slots < start.toNat := by simp only [Config.slots]; omega
      simp [State.listEntries, kinds, engines, origins, fits]
    obtain ⟨answers, frame⟩ := State.served_idle (owner := fun u => u.listEntries kind engine origin start) taken does
    have ascending := matching_ascending s.table start.toNat kd en og
    have member := mem_matching s.table start.toNat kd en og
    refine ⟨_, _, _, rfl, answers, by simp, ascending.sublist (List.take_sublist 6 _), fun n => ?_, nextSlot_short,
      nextSlot_full, frame⟩
    rw [mem_take_six ascending (fun n hn => ((member n).mp hn).2.1), member]
    tauto

/-! ## The expiry count (R31) -/

theorem Entry.spent_iff (e : Entry) : e.spent = true ↔ ∃ o m, e.owner = .external o ∧ e.expiry = some m ∧ m ≤ 1 := by
  unfold Entry.spent
  cases e.owner <;> cases e.expiry <;> simp

theorem anySpent_iff (t : List Slot) : (liveEntries t).any Entry.spent = true ↔
    ∃ e o m, e ∈ liveEntries t ∧ e.owner = .external o ∧ e.expiry = some m ∧ m ≤ 1 := by
  simp only [List.any_eq_true, Entry.spent_iff]
  exact ⟨fun ⟨e, he, o, m, h⟩ => ⟨e, o, m, he, h⟩, fun ⟨e, o, m, he, h⟩ => ⟨e, he, o, m, h⟩⟩

theorem anySpent_false {t : List Slot}
    (last : ∀ e o m, e ∈ liveEntries t → e.owner = .external o → e.expiry = some m → 1 < m) :
    (liveEntries t).any Entry.spent = false := by
  rw [Bool.eq_false_iff, ne_eq, anySpent_iff]
  rintro ⟨e, o, m, he, owner, expiry, low⟩
  have := last e o m he owner expiry
  omega

theorem State.setTable_onlyChanges (s : State) (x : List Slot) : s.onlyChanges (s.setTable x) [.table] := by
  simp [State.onlyChanges_iff, Part.same, State.eng, State.sense, State.dutyOf]

theorem State.flagExpired_onlyChanges (s : State) : s.onlyChanges s.flagExpired [.notices] := by
  simp [State.onlyChanges_iff, Part.same, State.eng, State.sense, State.dutyOf, State.flagExpired, State.setNotices]

/-- A count that spends an entry. -/
theorem State.expiryCount_spent {s : State} (spent : (liveEntries s.table).any Entry.spent = true) :
    s.expiryCount.limits = resolve s.expiryCount.table ∧
      s.expiryCount.cli.notices = { s.cli.notices with expired := true } ∧
      s.expiryCount.handed = s.handed ++ s.limitsHanded s.limits s.expiryCount.limits ∧
      s.onlyChanges s.expiryCount [.table, .limits, .handed, .notices] := by
  have does : s.expiryCount = (s.changeTable (s.table.map Slot.counted)).flagExpired := if_pos spent
  have flagged := (s.changeTable (s.table.map Slot.counted)).flagExpired_onlyChanges
  have table := flagged.table (by simp)
  have limits : (s.changeTable (s.table.map Slot.counted)).flagExpired.limits = _ := flagged .limits (by simp)
  have handed : (s.changeTable (s.table.map Slot.counted)).flagExpired.handed = _ := flagged .handed (by simp)
  rw [does, table, limits, handed]
  refine ⟨s.changeTable_limits _, ?_, s.changeTable_handsOn _,
    ((s.changeTable_onlyChanges _).mono (by simp)).trans (flagged.mono (by simp))⟩
  simp [State.flagExpired, State.setNotices]

/-- Settles O19. -/
theorem expiryCountRetiresSpentEntries : Obligations.ExpiryCountRetiresSpentEntries := by
  unfold Obligations.ExpiryCountRetiresSpentEntries
  intro s awake
  have next : exec .expiryCount s = .next s.expiryCount := State.running_next _ awake
  have slot (n : Nat) : slotAt s.expiryCount.table n = (slotAt s.table n).counted := by
    rw [s.expiryCount_cases.1, slotAt_map_counted]
  have goes {n : Nat} {e : Entry} {o : Byte} {m : Nat} (live : (slotAt s.table n).entry = some e)
      (owner : e.owner = .external o) (expiry : e.expiry = some m) (low : m ≤ 1) :
      slotAt s.expiryCount.table n = ⟨(slotAt s.table n).gen, none⟩ := by
    rw [slot, Slot.counted, live, Option.bind_some, Entry.counted_of_spent ((e.spent_iff).mpr ⟨o, m, owner, expiry, low⟩)]
  refine ⟨⟨_, next, fun n e o m live owner expiry high => ?_, fun n e o m live owner expiry low =>
    goes live owner expiry low, fun n e live lasts => ?_, fun n free => ?_, fun spent => ?_, fun last => ?_⟩,
    fun spent => ?_, fun last => ?_⟩
  · have stays : e.spent = false := by
      rw [Bool.eq_false_iff, ne_eq, Entry.spent_iff]
      rintro ⟨o', m', -, same, low⟩
      rw [expiry] at same
      cases same
      omega
    rw [slot, Slot.counted, live, Option.bind_some, Entry.counted_of_not_spent stays, owner]
    simp [expiry]
  · have stays : e.spent = false := by
      rw [Bool.eq_false_iff, ne_eq, Entry.spent_iff]
      rintro ⟨o, m, owner, expiry, -⟩
      obtain ⟨x, internal⟩ | none := lasts
      · rw [internal] at owner; cases owner
      · rw [none] at expiry; cases expiry
    have same : e.counted = some e := by
      rw [Entry.counted_of_not_spent stays]
      obtain ⟨x, internal⟩ | none := lasts
      · rw [internal]
      · cases owner : e.owner with
        | internal x => rfl
        | external o =>
          cases e
          simp_all
    rw [slot, Slot.counted, live, Option.bind_some, same, ← live]
  · rw [slot, Slot.counted]
    have none : (slotAt s.table n).entry = none := by simpa [Slot.live] using free
    rw [none, Option.bind_none, ← none]
  · exact State.expiryCount_spent ((anySpent_iff s.table).mpr spent)
  · have does : s.expiryCount = s.setTable (s.table.map Slot.counted) := if_neg (by simp [anySpent_false last])
    rw [does]
    exact s.setTable_onlyChanges _
  · have anySpent := (anySpent_iff s.table).mpr spent
    refine ⟨_, (State.running_next _ awake).trans (congrArg Host.Outcome.next (if_pos anySpent)), next, ?_,
      fun n e o m live owner expiry low => goes live owner expiry low⟩
    rw [(State.expiryCount_spent anySpent).2.1]
  · exact (State.running_next _ awake).trans (congrArg Host.Outcome.next (if_neg (by simp [anySpent_false last])))

end Sys2Proof.Machine

namespace Sys2Proof.Machine

/-! ## What the planner reads beside the plan -/

section

variable {s t : State}

theorem State.setPlan_onlyChanges (s : State) (p : Plan) : s.onlyChanges (s.setPlan p) [.plan] := by
  simp [State.onlyChanges_iff, Part.same, State.eng, State.sense, State.dutyOf]

/-- The parts that the planner changes: it reads none of the others afresh in one evaluation. -/
def planParts : List Part := [.plan, .handed, .notices]

theorem State.valid_of_frame (frame : s.onlyChanges t planParts) : t.cfs = s.cfs ∧ t.lic = s.lic ∧ t.eng = s.eng ∧
    t.limits = s.limits ∧ t.dct = s.dct ∧ t.sense = s.sense :=
  ⟨frame.cfs (by simp [planParts]), frame .lic (by simp [planParts]), funext fun k => frame.eng k (by simp [planParts]),
    frame .limits (by simp [planParts]), frame.dct (by simp [planParts]) (by simp [planParts]),
    funext fun k => frame.sense k (by simp [planParts])⟩

theorem State.candidates_of_frame (frame : s.onlyChanges t planParts) :
    t.recallCandidates = s.recallCandidates ∧ t.newStartCandidates = s.newStartCandidates ∧
      t.runSeconds = s.runSeconds ∧ t.stagingEngine = s.stagingEngine ∧ t.stagingCount = s.stagingCount := by
  obtain ⟨cfs, lic, eng, limits, dct, sense⟩ := State.valid_of_frame frame
  have fitted : t.fittedEngines = s.fittedEngines := by
    unfold State.fittedEngines
    rw [State.fitted_congr cfs]
  have cfg := State.cfg_congr cfs
  have iso (k : Engine) : t.isoCond k = s.isoCond k := by
    have record : t.engines.get k = s.engines.get k := congrFun eng k
    unfold State.isoCond
    rw [lic, record]
  have rest (k : Engine) : t.atRest k = s.atRest k := by
    unfold State.atRest
    rw [sense, cfg]
  have cap (k : Engine) : t.capOf k = s.capOf k := by
    unfold State.capOf
    rw [limits, State.enKw_congr cfs]
  refine ⟨?_, ?_, ?_, ?_, ?_⟩
  · unfold State.recallCandidates
    rw [fitted, eng]
  · unfold State.newStartCandidates
    simp only [fitted, eng, limits, iso, rest, cap]
  · unfold State.runSeconds
    rw [dct]
  · unfold State.stagingEngine
    rw [fitted, eng]
  · unfold State.stagingCount
    rw [fitted, eng]

theorem State.startOrder_of_frame (frame : s.onlyChanges t planParts) : t.startOrder = s.startOrder := by
  obtain ⟨recalls, starts, run, -, -⟩ := State.candidates_of_frame frame
  unfold State.startOrder
  rw [recalls, starts, run]

theorem State.startBlocked_of_frame (frame : s.onlyChanges t planParts) : t.startBlocked = s.startBlocked := by
  obtain ⟨cfs, lic, -⟩ := State.valid_of_frame frame
  simp only [State.startBlocked, State.valid_congr cfs, State.writing_congr cfs, State.emergency, lic]

/-- The clauses of the start condition read the figures of the plan. -/
theorem State.clauses_of_frame (frame : s.onlyChanges t planParts) (figures : t.plan.figures = s.plan.figures) :
    t.capacityClause = s.capacityClause ∧ t.minimumClause = s.minimumClause ∧ t.startCondition = s.startCondition := by
  obtain ⟨-, -, -, -, count⟩ := State.candidates_of_frame frame
  obtain ⟨cfs, lic, -⟩ := State.valid_of_frame frame
  simp only [Plan.figures, Prod.mk.injEq] at figures
  obtain ⟨p, online, co, -⟩ := figures
  have capacity : t.capacityClause = s.capacityClause := by
    simp only [State.capacityClause, State.cfg_congr cfs, p, online, co, count]
  have minimum : t.minimumClause = s.minimumClause := by
    simp only [State.minimumClause, State.cfg_congr cfs, online, count, State.runLine, lic]
  exact ⟨capacity, minimum, by rw [State.startCondition, capacity, minimum]; rfl⟩

/-- The shed condition reads the figures of the plan and the candidate. -/
theorem State.shedCondition_of_frame (frame : s.onlyChanges t planParts) (figures : t.plan.figures = s.plan.figures)
    (candidate : t.plan.candidate = s.plan.candidate) : t.shedCondition = s.shedCondition := by
  obtain ⟨-, -, -, staging, -⟩ := State.candidates_of_frame frame
  obtain ⟨cfs, -⟩ := State.valid_of_frame frame
  simp only [Plan.figures, Prod.mk.injEq] at figures
  obtain ⟨p, online, co, caps⟩ := figures
  simp only [State.shedCondition, candidate, State.cfg_congr cfs, p, online, co, caps, staging]

end

/-! ## The decisions, as what they hand on and what they leave in the plan -/

theorem complete_startedAt0 (timer : Option Nat) (dwell : Nat) :
    complete (startedAt0 timer) dwell = decide (dwell ≤ timer.getD 0) := rfl

section

variable (s : State)

/-- The start decision calls for an order (R48 to R50), a dwell over counted. -/
def State.calls (onDwell : Bool) : Bool :=
  (s.minimumClause || (s.capacityClause && onDwell && decide (s.cfg.staging.startDwell ≤ s.plan.startTimer.getD 0))) &&
    s.stagingEngine.isNone && !s.startBlocked

/-- The shed decision gives its order (R57, R58), a dwell over counted. -/
def State.sheds (onDwell : Bool) : Bool :=
  s.shedCondition && onDwell && decide (s.cfg.staging.shedDwell ≤ s.plan.shedTimer.getD 0) && s.valid

/-- The start orders of one evaluation. -/
def State.startOrders (onDwell : Bool) : List Event := if s.calls onDwell then s.startOrder.toList else []

/-- The shed orders of one evaluation. -/
def State.shedOrders (onDwell : Bool) : List Event :=
  if s.sheds onDwell then s.plan.candidate.toList.map (Event.stopOrder · .shed) else []

theorem State.calls_iff (onDwell : Bool) : s.calls onDwell = true ↔
    (s.minimumClause = true ∨ (s.capacityClause = true ∧ onDwell = true ∧
      complete (startedAt0 s.plan.startTimer) s.cfg.staging.startDwell = true)) ∧
      s.stagingEngine = none ∧ s.startBlocked = false := by
  simp [State.calls, complete_startedAt0, and_assoc]

theorem State.sheds_iff (onDwell : Bool) : s.sheds onDwell = true ↔ s.shedCondition = true ∧ onDwell = true ∧
    complete (startedAt0 s.plan.shedTimer) s.cfg.staging.shedDwell = true ∧ s.valid = true := by
  simp [State.sheds, complete_startedAt0, and_assoc]

/-- The start decision in full. -/
theorem State.decideStart_does (onDwell : Bool) :
    (s.decideStart onDwell).handed = s.handed ++ s.startOrders onDwell ∧
      (s.decideStart onDwell).plan = { s.plan with
        startTimer := if s.startCondition then
            if s.calls onDwell && s.startOrder.isSome then some 0 else startedAt0 s.plan.startTimer
          else none } ∧
      s.onlyChanges (s.decideStart onDwell) [.plan, .handed] := by
  have planned (p : Plan) : s.onlyChanges (s.setPlan p) [.plan, .handed] := (s.setPlan_onlyChanges p).mono (by simp)
  have called := s.calls_iff onDwell
  unfold State.startOrders
  obtain ⟨no, does⟩ | ⟨holds, due, staging, free, e, order, does⟩ | ⟨holds, stays, does⟩ := s.decideStart_cases onDwell
  · have out : s.calls onDwell = false := by
      rw [State.startCondition, Bool.or_eq_false_iff] at no
      rw [Bool.eq_false_iff, ne_eq, called, no.1, no.2]
      simp
    rw [does, no, out]
    exact ⟨by simp [State.modPlan], rfl, planned _⟩
  · rw [does, holds, called.mpr ⟨due, staging, free⟩, order]
    exact ⟨rfl, rfl, (planned _).trans ((State.emit_onlyChanges _ _).mono (by simp))⟩
  · have idle : s.calls onDwell = false ∨ s.startOrder = none :=
      stays.imp_left fun h => by rw [Bool.eq_false_iff, ne_eq, called]; exact h
    rw [does, holds]
    obtain out | order := idle
    · rw [out]
      exact ⟨by simp [State.modPlan], rfl, planned _⟩
    · rw [order]
      exact ⟨by simp [State.modPlan], by simp [State.modPlan], planned _⟩

/-- The shed decision in full. -/
theorem State.decideShed_does (onDwell : Bool) :
    (s.decideShed onDwell).handed = s.handed ++ s.shedOrders onDwell ∧
      (s.decideShed onDwell).plan = { s.plan with
        shedTimer := if s.shedCondition && !s.sheds onDwell then startedAt0 s.plan.shedTimer else none } ∧
      s.onlyChanges (s.decideShed onDwell) [.plan, .handed] := by
  have planned (p : Plan) : s.onlyChanges (s.setPlan p) [.plan, .handed] := (s.setPlan_onlyChanges p).mono (by simp)
  have sheds := s.sheds_iff onDwell
  unfold State.shedOrders
  obtain ⟨no, does⟩ | ⟨x, holds, candidate, ⟨due, complete, valid, does⟩ | ⟨waits, does⟩⟩ := s.decideShed_cases onDwell
  · have out : s.sheds onDwell = false := by
      rw [Bool.eq_false_iff, ne_eq, sheds, no]
      simp
    rw [does, no, out]
    exact ⟨by simp [State.modPlan], rfl, planned _⟩
  · rw [does, holds, sheds.mpr ⟨holds, due, complete, valid⟩, candidate]
    exact ⟨rfl, rfl, (planned _).trans ((State.emit_onlyChanges _ _).mono (by simp))⟩
  · have out : s.sheds onDwell = false := by
      rw [Bool.eq_false_iff, ne_eq, sheds]
      exact fun h => waits h.2
    rw [does, holds, out]
    exact ⟨by simp [State.modPlan], rfl, planned _⟩

/-! ## Which order (R52, R53) -/

theorem State.candidates_ascending : s.recallCandidates.Pairwise (fun a b => a.number < b.number) ∧
    s.newStartCandidates.Pairwise (fun a b => a.number < b.number) :=
  ⟨(Engine.all_ascending.filter _).filter _, (Engine.all_ascending.filter _).filter _⟩

theorem State.lowestRun_recall (k : Engine) : lowestRun s.runSeconds s.recallCandidates = some k ↔
    s.lowestRunOf s.recallCandidates k := lowestRun_spec _ _ s.candidates_ascending.1 k

theorem State.lowestRun_newStart (k : Engine) : lowestRun s.runSeconds s.newStartCandidates = some k ↔
    s.lowestRunOf s.newStartCandidates k := lowestRun_spec _ _ s.candidates_ascending.2 k

theorem State.startOrder_recall (k : Engine) : s.startOrder = some (.recall k) ↔ s.lowestRunOf s.recallCandidates k := by
  rw [← State.lowestRun_recall, State.startOrder]
  cases lowestRun s.runSeconds s.recallCandidates <;> simp

theorem State.startOrder_start (k : Engine) : s.startOrder = some (.startOrder k .staging) ↔
    s.recallCandidates = [] ∧ s.lowestRunOf s.newStartCandidates k := by
  rw [← State.lowestRun_newStart, ← lowestRun_eq_none s.runSeconds, State.startOrder]
  cases lowestRun s.runSeconds s.recallCandidates <;> simp

theorem State.startOrder_none : s.startOrder = none ↔ s.recallCandidates = [] ∧ s.newStartCandidates = [] := by
  rw [← lowestRun_eq_none s.runSeconds, ← lowestRun_eq_none s.runSeconds, State.startOrder]
  cases lowestRun s.runSeconds s.recallCandidates <;> simp

theorem State.mem_startOrders {onDwell : Bool} {e : Event} : e ∈ s.startOrders onDwell ↔
    s.calls onDwell = true ∧ s.startOrder = some e := by
  unfold State.startOrders
  split <;> simp [*, Option.mem_toList]

theorem State.startOrders_form {onDwell : Bool} {e : Event} (h : e ∈ s.startOrders onDwell) :
    ∃ k, e = .recall k ∨ e = .startOrder k .staging := by
  obtain ⟨-, order⟩ := s.mem_startOrders.mp h
  unfold State.startOrder at order
  split at order
  next k _ => exact ⟨k, .inl (Option.some.inj order).symm⟩
  next =>
    obtain ⟨k, -, rfl⟩ := Option.map_eq_some_iff.mp order
    exact ⟨k, .inr rfl⟩

theorem State.mem_shedOrders {onDwell : Bool} {e : Event} : e ∈ s.shedOrders onDwell ↔
    s.sheds onDwell = true ∧ ∃ x, s.plan.candidate = some x ∧ e = .stopOrder x .shed := by
  unfold State.shedOrders
  split <;> simp [*, eq_comm]

end

end Sys2Proof.Machine

namespace Sys2Proof.Machine

/-! ## The planner count (R44) -/

section

variable (s : State)

/-- The plan with the dwell timers advanced. -/
def Plan.ticked (p : Plan) (startDwell shedDwell : Nat) : Plan :=
  { p with startTimer := tickDwell p.startTimer startDwell, shedTimer := tickDwell p.shedTimer shedDwell }

/-- A dwell that a count finds over is over before it: one reached at this count waits for its own row. -/
theorem reaches_tickDwell (timer : Option Nat) (dwell : Nat) :
    (!reaches timer dwell && decide (dwell ≤ (tickDwell timer dwell).getD 0)) = decide (dwell ≤ timer.getD 0) := by
  cases timer with
  | none => simp [reaches, tickDwell]
  | some n =>
    simp only [reaches, tickDwell, Option.map_some, Option.getD_some]
    by_cases h : n < dwell
    · by_cases h' : dwell ≤ n + 1 <;> simp [h, h']
    · simp [h]

/-- A planner count in full: its orders are those of the dwells over before it, and of the minimum clause. -/
theorem State.plannerCount_does : s.plannerCount.handed = s.handed ++ s.startOrders true ++ s.shedOrders true ∧
    s.plannerCount.plan = { s.plan with
      startTimer := if s.startCondition then if s.calls true && s.startOrder.isSome then some 0
          else startedAt0 (tickDwell s.plan.startTimer s.cfg.staging.startDwell) else none
      shedTimer := if s.shedCondition && !s.sheds true then
          startedAt0 (tickDwell s.plan.shedTimer s.cfg.staging.shedDwell) else none } ∧
    s.onlyChanges s.plannerCount [.plan, .handed] := by
  let t := s.setPlan (s.plan.ticked s.cfg.staging.startDwell s.cfg.staging.shedDwell)
  let startReached := reaches s.plan.startTimer s.cfg.staging.startDwell
  let shedReached := reaches s.plan.shedTimer s.cfg.staging.shedDwell
  have does : s.plannerCount = (t.decideStart (!startReached)).decideShed (!shedReached) := rfl
  have ticked : s.onlyChanges t [.plan] := s.setPlan_onlyChanges _
  have frameT : s.onlyChanges t planParts := ticked.mono (by simp [planParts])
  obtain ⟨starts, startPlan, startFrame⟩ := t.decideStart_does (!startReached)
  have frameU : s.onlyChanges (t.decideStart (!startReached)) planParts :=
    frameT.trans (startFrame.mono (by simp [planParts]))
  have figures : (t.decideStart (!startReached)).plan.figures = s.plan.figures := t.decideStart_figures _
  obtain ⟨sheds, shedPlan, shedFrame⟩ := (t.decideStart (!startReached)).decideShed_does (!shedReached)
  obtain ⟨-, -, -, staging, -⟩ := State.candidates_of_frame frameT
  obtain ⟨capacity, minimum, condition⟩ := State.clauses_of_frame (t := t) frameT rfl
  have order := State.startOrder_of_frame frameT
  have calls : t.calls (!startReached) = s.calls true := by
    have due : (s.capacityClause && !startReached && decide (s.cfg.staging.startDwell ≤
        (tickDwell s.plan.startTimer s.cfg.staging.startDwell).getD 0)) =
        (s.capacityClause && true && decide (s.cfg.staging.startDwell ≤ s.plan.startTimer.getD 0)) := by
      rw [Bool.and_assoc, reaches_tickDwell, Bool.and_true]
    unfold State.calls
    rw [minimum, capacity, staging, State.startBlocked_of_frame frameT, ← due]
    rfl
  have candidate : (t.decideStart (!startReached)).plan.candidate = s.plan.candidate := by rw [startPlan]; rfl
  have shedTimer : (t.decideStart (!startReached)).plan.shedTimer =
      tickDwell s.plan.shedTimer s.cfg.staging.shedDwell := by rw [startPlan]; rfl
  have shedCond := State.shedCondition_of_frame frameU figures candidate
  obtain ⟨cfs, -⟩ := State.valid_of_frame frameU
  have shed : (t.decideStart (!startReached)).sheds (!shedReached) = s.sheds true := by
    have due : (s.shedCondition && !shedReached && decide (s.cfg.staging.shedDwell ≤
        (tickDwell s.plan.shedTimer s.cfg.staging.shedDwell).getD 0)) =
        (s.shedCondition && true && decide (s.cfg.staging.shedDwell ≤ s.plan.shedTimer.getD 0)) := by
      rw [Bool.and_assoc, reaches_tickDwell, Bool.and_true]
    unfold State.sheds
    rw [shedCond, State.valid_congr cfs, State.cfg_congr cfs, shedTimer, ← due]
  have startOrders : t.startOrders (!startReached) = s.startOrders true := by
    unfold State.startOrders
    rw [calls, order]
  have shedOrders : (t.decideStart (!startReached)).shedOrders (!shedReached) = s.shedOrders true := by
    unfold State.shedOrders
    rw [shed, candidate]
  rw [does]
  refine ⟨?_, ?_, ((ticked.mono (by simp)).trans startFrame).trans shedFrame⟩
  · rw [sheds, starts, startOrders, shedOrders]
    rfl
  · rw [shedPlan, shedCond, shed, shedTimer, startPlan, condition, calls, order]
    rfl

variable {s}

theorem State.startOrders_of {onDwell : Bool} {e : Event} (called : s.calls onDwell = true)
    (order : s.startOrder = some e) : s.startOrders onDwell = [e] := by
  rw [State.startOrders, called, order]
  rfl

theorem State.startOrders_nil {onDwell : Bool} (h : s.calls onDwell = false ∨ s.startOrder = none) :
    s.startOrders onDwell = [] := by
  unfold State.startOrders
  obtain h | h := h <;> simp [h]

theorem State.shedOrders_nil {onDwell : Bool} (h : s.sheds onDwell = false) : s.shedOrders onDwell = [] := by
  simp [State.shedOrders, h]

theorem State.sheds_of_no {onDwell : Bool} (no : s.shedCondition = false) : s.sheds onDwell = false := by
  simp [State.sheds, no]

theorem State.startBlocked_iff : s.startBlocked = false ↔ s.valid = true ∧ s.writing = false ∧ s.emergency = false := by
  simp [State.startBlocked, and_assoc]

/-- Under the minimum clause there is nothing to shed. -/
theorem State.shedCondition_of_minimum (minimum : s.minimumClause = true) : s.shedCondition = false := by
  unfold State.minimumClause at minimum
  rw [Bool.and_eq_true, decide_eq_true_iff] at minimum
  unfold State.shedCondition
  split
  · rfl
  · rw [decide_eq_false (by omega), Bool.false_and, Bool.false_and]

/-- No order is called for before the dwell is over. -/
theorem State.calls_waits (above : s.minimumClause = false)
    (short : s.plan.startTimer.getD 0 < s.cfg.staging.startDwell) : s.calls true = false := by
  simp [State.calls, above, short]

/-- A dwell over calls for an order unless a staging start is in progress or R49 holds. -/
theorem State.calls_dwell {n : Nat} (condition : s.startCondition = true) (above : s.minimumClause = false)
    (timer : s.plan.startTimer = some n) (over' : s.cfg.staging.startDwell ≤ n) : s.calls true = true ↔
    s.stagingEngine = none ∧ s.valid = true ∧ s.writing = false ∧ s.emergency = false := by
  have capacity : s.capacityClause = true := by simpa [State.startCondition, above] using condition
  rw [State.calls_iff, State.startBlocked_iff, complete_startedAt0, timer]
  simp [capacity, over']

end

/-- Settles O24: the count's two decisions in full, and for each case of the statement what they come to. -/
theorem plannerCountAdvancesDwells : Obligations.PlannerCountAdvancesDwells := by
  unfold Obligations.PlannerCountAdvancesDwells
  intro s awake
  obtain ⟨handed, plan, frame⟩ := s.plannerCount_does
  refine ⟨_, State.running_next _ awake, ?_⟩
  rw [plan, handed]
  refine ⟨rfl, rfl, rfl, rfl, rfl, rfl, rfl, fun no => by simp [no], fun no => by simp [no],
    fun condition above timer dwell => ?_, fun n condition above timer short => ?_, fun n condition timer short => ?_,
    fun condition timer dwell => ?_, fun minimum staging valid writing emergency k => ?minimum,
    fun n condition above noShed timer full => ⟨fun h => ?blocked, fun staging valid writing emergency k => ?dwell⟩,
    fun n x condition noStart timer full candidate => ?shed, fun noStart noShed => ?quiet, frame⟩
  · have waits := State.calls_waits above (by rw [timer]; exact dwell)
    simp [condition, waits, timer, tickDwell, startedAt0]
  · have waits := State.calls_waits above (by rw [timer]; exact short)
    simp [condition, waits, timer, tickDwell, startedAt0, short]
  · have waits : s.sheds true = false := by simp [State.sheds, timer, short]
    simp [condition, waits, timer, tickDwell, startedAt0, short]
  · have waits : s.sheds true = false := by simp [State.sheds, timer, Nat.ne_of_gt dwell]
    simp [condition, waits, timer, tickDwell, startedAt0]
  case minimum =>
    have called : s.calls true = true :=
      (s.calls_iff true).mpr ⟨.inl minimum, staging, State.startBlocked_iff.mpr ⟨valid, writing, emergency⟩⟩
    have condition : s.startCondition = true := by simp [State.startCondition, minimum]
    rw [State.shedOrders_nil (State.sheds_of_no (State.shedCondition_of_minimum minimum)), List.append_nil]
    refine ⟨fun lowest => ?_, fun none lowest => ?_⟩
    · have order := (s.startOrder_recall k).mpr lowest
      rw [State.startOrders_of called order]
      simp [condition, called, order]
    · have order := (s.startOrder_start k).mpr ⟨none, lowest⟩
      rw [State.startOrders_of called order]
      simp [condition, called, order]
  case blocked =>
    rw [State.shedOrders_nil (State.sheds_of_no noShed), List.append_nil]
    have idle : s.calls true = false ∨ s.startOrder = none := by
      by_cases order : s.startOrder = none
      · exact .inr order
      · refine .inl ?_
        rw [Bool.eq_false_iff, ne_eq, State.calls_dwell condition above timer full]
        rintro ⟨staging, valid, writing, emergency⟩
        rw [staging, valid, writing, emergency, ← State.startOrder_none] at h
        simp [order] at h
    rw [State.startOrders_nil idle]
    obtain idle | idle := idle <;> simp [condition, idle, timer, startedAt0, tickDwell, full]
  case dwell =>
    have called := (State.calls_dwell condition above timer full).mpr ⟨staging, valid, writing, emergency⟩
    rw [State.shedOrders_nil (State.sheds_of_no noShed), List.append_nil]
    refine ⟨fun lowest => ?_, fun none lowest => ?_⟩
    · have order := (s.startOrder_recall k).mpr lowest
      rw [State.startOrders_of called order]
      simp [condition, called, order]
    · have order := (s.startOrder_start k).mpr ⟨none, lowest⟩
      rw [State.startOrders_of called order]
      simp [condition, called, order]
  case shed =>
    have uncalled : s.calls true = false := by
      rw [State.startCondition, Bool.or_eq_false_iff] at noStart
      simp [State.calls, noStart.1, noStart.2]
    rw [State.startOrders_nil (.inl uncalled), List.append_nil]
    refine ⟨fun valid => ?_, fun invalid => ?_⟩
    · have sheds : s.sheds true = true := by simp [State.sheds, condition, timer, full, valid]
      simp [State.shedOrders, sheds, candidate]
    · have stays : s.sheds true = false := by simp [State.sheds, invalid]
      simp [State.shedOrders, stays, condition, timer, startedAt0, tickDwell, full]
  case quiet =>
    have uncalled : s.calls true = false := by
      rw [State.startCondition, Bool.or_eq_false_iff] at noStart
      simp [State.calls, noStart.1, noStart.2]
    rw [State.startOrders_nil (.inl uncalled), State.shedOrders_nil (State.sheds_of_no noShed), List.append_nil,
      List.append_nil]

end Sys2Proof.Machine

namespace Sys2Proof.Machine

/-! ## One re-plan, stage by stage (R43) -/

section

variable (s : State) (cause : ReplanCause)

/-- A re-plan up to its start decision. -/
def State.replanStart (s : State) : State := s.formDemand.decideStart true

/-- A re-plan up to the choice of the shed candidate. -/
def State.replanChoice (s : State) (cause : ReplanCause) : State := s.replanStart.chooseCandidate cause

/-- A re-plan up to its shed decision. -/
def State.replanShed (s : State) (cause : ReplanCause) : State := (s.replanChoice cause).decideShed true

theorem State.replan_eq : s.replan cause = (s.replanShed cause).formShort.handPairs := rfl

theorem State.formDemand_onlyChanges : s.onlyChanges s.formDemand planParts :=
  (s.setPlan_onlyChanges _).mono (by simp [planParts])

theorem State.chooseCandidate_onlyChanges : s.onlyChanges (s.chooseCandidate cause) [.plan] := by
  unfold State.chooseCandidate
  dsimp only
  split
  · split
    · exact s.onlyChanges_refl _
    · exact s.setPlan_onlyChanges _
  · exact s.onlyChanges_refl _

theorem State.formShort_onlyChanges : s.onlyChanges s.formShort [.plan, .notices] := by
  unfold State.formShort
  split
  · exact s.onlyChanges_refl _
  · simp [State.onlyChanges_iff, Part.same, State.eng, State.sense, State.dutyOf, State.modPlan,
      State.flagPowerShort, State.setNotices]

theorem State.handPairs_onlyChanges : s.onlyChanges s.handPairs [.plan, .handed] := by
  unfold State.handPairs
  dsimp only
  split
  · exact ((s.setPlan_onlyChanges _).mono (by simp)).trans ((State.emit_onlyChanges _ _).mono (by simp))
  · exact (s.setPlan_onlyChanges _).mono (by simp)

theorem State.replanStart_onlyChanges : s.onlyChanges s.replanStart planParts :=
  s.formDemand_onlyChanges.trans ((s.formDemand.decideStart_does true).2.2.mono (by simp [planParts]))

theorem State.replanChoice_onlyChanges : s.onlyChanges (s.replanChoice cause) planParts :=
  s.replanStart_onlyChanges.trans ((State.chooseCandidate_onlyChanges _ cause).mono (by simp [planParts]))

theorem State.replanShed_onlyChanges : s.onlyChanges (s.replanShed cause) planParts :=
  (s.replanChoice_onlyChanges cause).trans (((s.replanChoice cause).decideShed_does true).2.2.mono (by simp [planParts]))

theorem State.replan_onlyChanges : s.onlyChanges (s.replan cause) planParts :=
  ((s.replanShed_onlyChanges cause).trans ((State.formShort_onlyChanges _).mono (by simp [planParts]))).trans
    ((State.handPairs_onlyChanges _).mono (by simp [planParts]))

/-- The figures stand from stage 2 on. -/
theorem State.replan_sameFigures : (s.replan cause).plan.figures = s.formDemand.plan.figures ∧
    (s.replanChoice cause).plan.figures = s.formDemand.plan.figures ∧
    (s.replanShed cause).plan.figures = s.formDemand.plan.figures := by
  simp [State.replan, State.replanChoice, State.replanShed, State.replanStart]

/-- The pairs that a re-plan hands. -/
def State.pairsHanded (s : State) (cause : ReplanCause) : PerEngine (Option Pair) :=
  .of fun k => handPair (s.fitted k) (s.plan.pairs.get k) ((s.replan cause).plan.pairs.get k)

/-- What stages 6 and 7 leave of the plan (R55, R61, R62). -/
theorem State.replan_ends : (s.replan cause).plan.short = (s.replanShed cause).isShort ∧
    (s.replan cause).plan.startTimer = (s.replanShed cause).plan.startTimer ∧
    (s.replan cause).plan.shedTimer = (s.replanShed cause).plan.shedTimer ∧
    (s.replan cause).plan.candidate = (s.replanShed cause).plan.candidate ∧
    (s.replan cause).plan.pairs = .of (s.replanShed cause).formShort.plannedPair ∧
    (s.replan cause).handed = (s.replanShed cause).handed ++
      (if .of (fun k => handPair ((s.replanShed cause).fitted k) ((s.replanShed cause).plan.pairs.get k)
          ((s.replanShed cause).formShort.plannedPair k)) = PerEngine.same none then []
        else [.pairs (.of fun k => handPair ((s.replanShed cause).fitted k) ((s.replanShed cause).plan.pairs.get k)
          ((s.replanShed cause).formShort.plannedPair k))]) ∧
    (s.replan cause).cli.notices = { (s.replanShed cause).cli.notices with
      powerShort := (s.replanShed cause).cli.notices.powerShort ||
        decide ((s.replanShed cause).isShort ≠ (s.replanShed cause).plan.short) } := by
  have last := (s.replanShed cause).formShort.handPairs_handed _ rfl
  rw [State.replan_eq]
  generalize s.replanShed cause = u at *
  have frame := u.formShort_onlyChanges
  have handed : u.formShort.handed = u.handed := frame .handed (by simp)
  have fitted : u.formShort.fitted = u.fitted := State.fitted_congr (frame.cfs (by simp))
  have shorts : u.formShort.plan = { u.plan with short := u.isShort } ∧ u.formShort.cli.notices = { u.cli.notices with
      powerShort := u.cli.notices.powerShort || decide (u.isShort ≠ u.plan.short) } := by
    unfold State.formShort
    split
    next same => simp [same]
    next other => simp [other, State.modPlan, State.flagPowerShort, State.setNotices]
  have kept : u.formShort.handPairs.plan = { u.formShort.plan with pairs := .of u.formShort.plannedPair } := by
    unfold State.handPairs
    dsimp only
    split <;> rfl
  have notices : u.formShort.handPairs.cli = u.formShort.cli := by
    unfold State.handPairs
    dsimp only
    split <;> rfl
  rw [handed, fitted, shorts.1] at last
  rw [notices, shorts.2, kept, shorts.1]
  exact ⟨rfl, rfl, rfl, rfl, rfl, last.2, rfl⟩

/-- What stages 1 to 3 leave for the choice of the shed candidate. -/
theorem State.replanStart_does : s.replanStart.handed = s.handed ++ s.formDemand.startOrders true ∧
    s.replanStart.plan = { s.formDemand.plan with
      startTimer := if s.formDemand.startCondition then
          if s.formDemand.calls true && s.startOrder.isSome then some 0 else startedAt0 s.plan.startTimer
        else none } := by
  obtain ⟨handed, plan, -⟩ := s.formDemand.decideStart_does true
  rw [State.startOrder_of_frame s.formDemand_onlyChanges] at plan
  exact ⟨handed, plan⟩

/-- What stage 4 finds: the candidate held or chosen afresh, and its timer (R56, R58). -/
theorem State.replanChoice_does : (s.replanChoice cause).handed = s.handed ++ s.formDemand.startOrders true ∧
    (s.replanChoice cause).plan.startTimer = s.replanStart.plan.startTimer ∧
    (s.replanChoice cause).plan.candidate = (if cause.chooses || s.replanStart.candidateGone then
      s.replanStart.freshCandidate else s.plan.candidate) ∧
    (s.replanChoice cause).plan.shedTimer.getD 0 =
      (if (s.replanChoice cause).plan.candidate = s.plan.candidate then s.plan.shedTimer.getD 0 else 0) ∧
    (s.replanChoice cause).plan.short = s.plan.short ∧ (s.replanChoice cause).plan.pairs = s.plan.pairs := by
  obtain ⟨handed, plan⟩ := s.replanStart_does
  obtain ⟨candidate, timer⟩ := s.replanStart.chooseCandidate_plan cause
  have held : s.replanStart.plan.candidate = s.plan.candidate := by rw [plan]; rfl
  have shed : s.replanStart.plan.shedTimer = s.plan.shedTimer := by rw [plan]; rfl
  have others : (s.replanChoice cause).plan.startTimer = s.replanStart.plan.startTimer ∧
      (s.replanChoice cause).plan.short = s.replanStart.plan.short ∧
      (s.replanChoice cause).plan.pairs = s.replanStart.plan.pairs := by
    unfold State.replanChoice State.chooseCandidate
    dsimp only
    split
    · split <;> exact ⟨rfl, rfl, rfl⟩
    · exact ⟨rfl, rfl, rfl⟩
  rw [held] at candidate timer
  rw [shed] at timer
  refine ⟨?_, others.1, candidate, ?_, ?_, ?_⟩
  · rw [← handed]
    exact (s.replanStart.chooseCandidate_onlyChanges cause) .handed (by simp)
  · refine (congrArg (Option.getD · 0) timer).trans ?_
    change (if (s.replanChoice cause).plan.candidate = s.plan.candidate then s.plan.shedTimer
      else s.plan.shedTimer.map fun _ => 0).getD 0 = _
    split
    · rfl
    · cases s.plan.shedTimer <;> rfl
  · rw [others.2.1, plan]
    rfl
  · rw [others.2.2, plan]
    rfl

/-- A re-plan in full: its orders, its pairs and the plan it leaves. -/
theorem State.replan_does : (s.replan cause).handed = s.handed ++ (s.formDemand.startOrders true ++
      (s.replanChoice cause).shedOrders true) ++
      (if s.pairsHanded cause = .same none then [] else [.pairs (s.pairsHanded cause)]) ∧
    (s.replan cause).plan.startTimer = (if s.formDemand.startCondition then
        if s.formDemand.calls true && s.startOrder.isSome then some 0 else startedAt0 s.plan.startTimer
      else none) ∧
    (s.replan cause).plan.candidate = (s.replanChoice cause).plan.candidate ∧
    (s.replan cause).plan.shedTimer = (if (s.replanChoice cause).shedCondition && !(s.replanChoice cause).sheds true then
      startedAt0 (s.replanChoice cause).plan.shedTimer else none) ∧
    (s.replan cause).plan.short = (s.replanShed cause).isShort ∧
    (s.replan cause).cli.notices = { s.cli.notices with
      powerShort := s.cli.notices.powerShort || decide ((s.replan cause).plan.short ≠ s.plan.short) } := by
  obtain ⟨short, start, shed, candidate, pairs, handed, notices⟩ := s.replan_ends cause
  obtain ⟨shedHanded, shedPlan, shedFrame⟩ := (s.replanChoice cause).decideShed_does true
  obtain ⟨choiceHanded, choiceStart, -, -, choiceShort, choicePairs⟩ := s.replanChoice_does cause
  obtain ⟨-, startPlan⟩ := s.replanStart_does
  have plan : (s.replanShed cause).plan = _ := shedPlan
  have frame := s.replanShed_onlyChanges cause
  have fitted : (s.replanShed cause).fitted = s.fitted :=
    State.fitted_congr (frame.cfs (by simp [planParts]))
  have cli : (s.replanShed cause).cli.notices = s.cli.notices := by
    have start : s.onlyChanges s.replanStart [.plan, .handed] :=
      ((s.setPlan_onlyChanges _).mono (by simp)).trans (s.formDemand.decideStart_does true).2.2
    exact ((start.trans ((s.replanStart.chooseCandidate_onlyChanges cause).mono (by simp))).trans shedFrame)
      .notices (by simp)
  have pairsEq : PerEngine.of (fun k => handPair ((s.replanShed cause).fitted k) ((s.replanShed cause).plan.pairs.get k)
      ((s.replanShed cause).formShort.plannedPair k)) = s.pairsHanded cause := by
    rw [State.pairsHanded, pairs, fitted, plan, choicePairs]
    simp only [PerEngine.get_of]
  rw [pairsEq] at handed
  refine ⟨?_, ?_, ?_, ?_, short, ?_⟩
  · rw [handed, show (s.replanShed cause).handed = _ from shedHanded, choiceHanded, List.append_assoc s.handed]
  · rw [start, plan]
    refine choiceStart.trans ?_
    rw [startPlan]
  · rw [candidate, plan]
  · rw [shed, plan]
  · rw [notices, cli, short, plan, choiceShort]

/-- POWER_SHORT of the plan formed (R55). -/
theorem State.replan_short : (s.replan cause).plan.short = true ↔ (s.replan cause).plan.co < (s.replan cause).plan.p ∧
    s.stagingEngine = none ∧ s.recallCandidates = [] ∧ s.newStartCandidates = [] := by
  have frame := s.replanShed_onlyChanges cause
  obtain ⟨all, -, some⟩ := s.replan_sameFigures cause
  have figures := all.trans some.symm
  simp only [Plan.figures, Prod.mk.injEq] at figures
  obtain ⟨p, -, co, -⟩ := figures
  obtain ⟨-, -, -, staging, -⟩ := State.candidates_of_frame frame
  rw [(s.replan_does cause).2.2.2.2.1, State.isShort, State.startOrder_of_frame frame, staging, ← p, ← co,
    ← State.startOrder_none]
  simp [and_left_comm, and_comm]

variable {s}

theorem State.cappedDemand_off (h : s.runLine = false ∨ s.emergency = true ∨ s.valid = false) : s.cappedDemand = 0 :=
  if_pos (by simpa [or_assoc] using h)

theorem State.cappedDemand_on (run : s.runLine = true) (emergency : s.emergency = false) (valid : s.valid = true) :
    s.cappedDemand = match s.limits.cap with
      | none => s.lp s.dsl.demand
      | some c => min c (s.lp s.dsl.demand) := if_neg (by simp [run, emergency, valid])

end

theorem handPair_eq (fitted : Bool) (last now : Pair) :
    handPair fitted last now = if fitted = true ∧ now ≠ last then some now else none := by
  simp only [handPair, Bool.and_eq_true, decide_eq_true_eq]

theorem State.mem_members {set : PerEngine Bool} {k : Engine} : k ∈ members set ↔ set.get k = true := by
  cases k <;> simp [members, Engine.all]

/-- Settles O22. -/
theorem replanFormsDemandAndCapacity : Obligations.ReplanFormsDemandAndCapacity := by
  unfold Obligations.ReplanFormsDemandAndCapacity
  intro s pre post cause awake handed oldest
  have figures := (s.setHanded (pre ++ post)).replan_figures cause
  have does := (s.setHanded (pre ++ post)).replan_does cause
  have short := (s.setHanded (pre ++ post)).replan_short cause
  have frame := State.onlyChanges_after ((s.setHanded (pre ++ post)).replan_onlyChanges cause) (by simp [planParts])
  simp only [Plan.figures, Prod.mk.injEq] at figures
  obtain ⟨p, online, co, caps⟩ := figures
  obtain ⟨events, -, -, -, -, notices⟩ := does
  refine ⟨_, exec_replan s awake handed oldest, fun h => ?_, fun run emergency valid => ?_, fun k => ?_, fun k => ?_, ?_,
    short, notices, ⟨_, _, events, fun e he => ?_, fun k => ?_⟩, frame.mono (by simp [planParts])⟩
  · rw [p]
    exact State.cappedDemand_off (s := s.setHanded (pre ++ post)) h
  · rw [p]
    exact State.cappedDemand_on (s := s.setHanded (pre ++ post)) run emergency valid
  · rw [online]
    exact s.onlineSet_get_iff k
  · rw [caps, PerEngine.get_of]
    rfl
  · rw [co, online, caps]
    exact congrArg (fun f => ((members s.onlineSet).map f).sum) (funext fun k => (PerEngine.get_of s.capOf k).symm)
  · obtain start | shed := List.mem_append.mp he
    · obtain ⟨k, h⟩ := State.startOrders_form _ start
      exact ⟨k, h.imp_right .inl⟩
    · obtain ⟨-, x, -, rfl⟩ := (State.mem_shedOrders _).mp shed
      exact ⟨x, .inr (.inr rfl)⟩
  · rw [State.pairsHanded, PerEngine.get_of]
    exact handPair_eq _ _ _

end Sys2Proof.Machine

namespace Sys2Proof.Machine

/-! ## Dwells complete -/

section

variable {s : State}

/-- The start order of a dwell over, with nothing of R49 and no staging start in the way (R50, R51). -/
theorem State.startDwellComplete_orders {n : Nat} {e : Event} (timer : s.plan.startTimer = some n)
    (full : s.cfg.staging.startDwell ≤ n) (capacity : s.capacityClause = true) (staging : s.stagingEngine = none)
    (valid : s.valid = true) (writing : s.writing = false) (emergency : s.emergency = false)
    (order : s.startOrder = some e) : s.startDwellComplete.handed = s.handed ++ [e] ∧
      s.startDwellComplete.plan = { s.plan with startTimer := some 0 } ∧
      s.onlyChanges s.startDwellComplete [.plan, .handed] := by
  have condition : s.startCondition = true := by simp [State.startCondition, capacity]
  have called : s.calls true = true := (s.calls_iff true).mpr ⟨.inr ⟨capacity, rfl, by
    rw [complete_startedAt0, timer]; simpa using full⟩, staging, State.startBlocked_iff.mpr ⟨valid, writing, emergency⟩⟩
  have does : s.startDwellComplete = s.decideStart true :=
    if_pos (by simpa [timer, complete, condition] using full)
  obtain ⟨handed, plan, frame⟩ := s.decideStart_does true
  rw [State.startOrders_of called order] at handed
  rw [condition, called, order] at plan
  rw [does]
  exact ⟨handed, plan, frame⟩

theorem State.shedCondition_iff (s : State) : s.shedCondition = true ↔ s.cfg.staging.minOnline < s.onlineCount ∧
    s.stagingEngine = none ∧
    ∃ x, s.plan.candidate = some x ∧ 100 * s.plan.p < s.cfg.staging.shedPct * (s.plan.co - s.plan.caps.get x) := by
  unfold State.shedCondition State.onlineCount countOf
  cases s.plan.candidate <;> simp [and_assoc]

theorem State.shedDwellComplete_orders {n : Nat} {x : Engine} (timer : s.plan.shedTimer = some n)
    (full : s.cfg.staging.shedDwell ≤ n) (candidate : s.plan.candidate = some x) (valid : s.valid = true)
    (condition : s.shedCondition = true) : s.shedDwellComplete.handed = s.handed ++ [.stopOrder x .shed] ∧
      s.shedDwellComplete.plan = { s.plan with shedTimer := none } ∧
      s.onlyChanges s.shedDwellComplete [.plan, .handed] := by
  have sheds : s.sheds true = true := by simp [State.sheds, condition, timer, full, valid]
  have does : s.shedDwellComplete = s.decideShed true :=
    if_pos (by simpa [timer, complete, condition] using full)
  obtain ⟨handed, plan, frame⟩ := s.decideShed_does true
  rw [State.shedOrders, sheds, candidate] at handed
  rw [condition, sheds] at plan
  rw [does]
  exact ⟨handed, plan, frame⟩

/-! ## The clauses and the candidates, spelled out (R47, R48, R52, R53) -/

theorem State.stagingStart_eq (s : State) (k : Engine) : s.stagingStart k = (s.fitted k && (s.eng k).staging) := by
  rw [State.stagingStart, EngineRec.staging, Bool.and_assoc]

theorem State.stagingCount_eq (s : State) : s.stagingCount = (Engine.all.filter s.stagingStart).length := by
  rw [State.stagingCount, State.fittedEngines, List.filter_filter]
  congr 2
  funext k
  rw [State.stagingStart_eq, Bool.and_comm]

theorem State.stagingEngine_none (s : State) : s.stagingEngine = none ↔ ∀ k, s.stagingStart k = false := by
  rw [State.stagingEngine, List.find?_eq_none]
  refine forall_congr' fun k => ?_
  rw [State.mem_fittedEngines, State.stagingStart_eq]
  cases s.fitted k <;> simp

theorem State.clauses_iff (s : State) :
    (s.capacityClause = true ↔ s.cfg.staging.startPct * s.plan.co < 100 * s.plan.p ∧
       s.onlineCount + (Engine.all.filter s.stagingStart).length < s.cfg.roster.fitted) ∧
     (s.minimumClause = true ↔ s.runLine = true ∧
       s.onlineCount + (Engine.all.filter s.stagingStart).length < s.cfg.staging.minOnline) ∧
     (s.startCondition = true ↔ s.capacityClause = true ∨ s.minimumClause = true) := by
  rw [← State.stagingCount_eq]
  refine ⟨?_, ?_, by simp [State.startCondition]⟩
  · rw [State.capacityClause, Bool.and_eq_true, decide_eq_true_iff, decide_eq_true_iff]
    rfl
  · rw [State.minimumClause, Bool.and_eq_true, decide_eq_true_iff]
    rfl

theorem State.mem_recallCandidates (s : State) (k : Engine) : k ∈ s.recallCandidates ↔
    s.fitted k = true ∧ (s.eng k).stopReason = some .shed ∧
      (((s.eng k).state = .online ∧ (s.eng k).stopPending = true) ∨ (s.eng k).state = .cooldown) := by
  rw [State.recallCandidates, List.mem_filter, State.mem_fittedEngines, EngineRec.recallable]
  simp only [Bool.and_eq_true, Bool.or_eq_true, decide_eq_true_eq]

theorem State.mem_newStartCandidates (s : State) (k : Engine) : k ∈ s.newStartCandidates ↔
    s.fitted k = true ∧ (s.eng k).state = .stopped ∧ s.limits.inhibit.get k = false ∧ s.limits.stop.get k = false ∧
      s.level (.iso k) = false ∧ (s.eng k).isoRequest = false ∧ s.atRest k = true ∧
      1 ≤ s.enKw (s.limits.ceiling.get k) := by
  have iso : s.isoCond k = false ↔ s.level (.iso k) = false ∧ (s.eng k).isoRequest = false := by
    rw [State.isoCond, Bool.or_eq_false_iff]
    rfl
  rw [State.newStartCandidates, List.mem_filter, State.mem_fittedEngines]
  have cap : decide (1 ≤ s.capOf k) = true ↔ 1 ≤ s.enKw (s.limits.ceiling.get k) := decide_eq_true_iff
  simp only [Bool.and_eq_true, Bool.not_eq_true', cap, decide_eq_true_eq, iso, and_assoc]

end

/-! ## The orders of a re-plan, read off the plan it leaves -/

section

variable (s : State) (cause : ReplanCause)

theorem State.replanChoice_replan_onlyChanges : (s.replanChoice cause).onlyChanges (s.replan cause) planParts :=
  ((((s.replanChoice cause).decideShed_does true).2.2.mono (by simp [planParts])).trans
    ((State.formShort_onlyChanges _).mono (by simp [planParts]))).trans
      ((State.handPairs_onlyChanges _).mono (by simp [planParts]))

theorem State.formDemand_replan_onlyChanges : s.formDemand.onlyChanges (s.replan cause) planParts :=
  (((s.formDemand.decideStart_does true).2.2.mono (by simp [planParts])).trans
    ((State.chooseCandidate_onlyChanges _ cause).mono (by simp [planParts]))).trans
      (s.replanChoice_replan_onlyChanges cause)

/-- The start decision of a re-plan calls for an order. -/
theorem State.replan_calls : s.formDemand.calls true = true ↔ ((s.replan cause).minimumClause = true ∨
      ((s.replan cause).capacityClause = true ∧ s.cfg.staging.startDwell ≤ s.plan.startTimer.getD 0)) ∧
    s.stagingEngine = none ∧ s.valid = true ∧ s.writing = false ∧ s.emergency = false := by
  obtain ⟨capacity, minimum, -⟩ := State.clauses_of_frame (s.formDemand_replan_onlyChanges cause)
    (s.replan_sameFigures cause).1
  rw [capacity, minimum, State.calls_iff, State.startBlocked_iff, complete_startedAt0, decide_eq_true_iff]
  simp only [true_and]
  rfl

theorem ReplanCause.chooses_iff (cause : ReplanCause) : cause.chooses = true ↔
    cause = .limits ∨ cause = .apply ∨ cause = .engine true := by
  cases cause with
  | engine b => simp [ReplanCause.chooses]
  | limits | apply | demand | line | write => simp [ReplanCause.chooses]

/-- When the shed candidate is chosen afresh (R56). -/
theorem State.replan_chooses : (cause.chooses || s.replanStart.candidateGone) = true ↔ cause = .limits ∨ cause = .apply ∨
    cause = .engine true ∨ s.plan.candidate = none ∨ ∃ x, s.plan.candidate = some x ∧
      ((s.replan cause).plan.online.get x = false ∨ s.limits.run.get x = true) := by
  have figures := (s.replan_sameFigures cause).1
  simp only [Plan.figures, Prod.mk.injEq] at figures
  obtain ⟨-, plan⟩ := s.replanStart_does
  obtain ⟨-, -, -, limits, -⟩ := State.valid_of_frame s.replanStart_onlyChanges
  have candidate : s.replanStart.plan.candidate = s.plan.candidate := by rw [plan]; rfl
  have online : s.replanStart.plan.online = s.formDemand.plan.online := by rw [plan]
  rw [Bool.or_eq_true, ReplanCause.chooses_iff, State.candidateGone, candidate, online, limits, figures.2.1]
  cases s.plan.candidate <;> simp [or_assoc]

theorem State.freshCandidate_iff (s : State) (k : Engine) : s.freshCandidate = some k ↔ s.shedsFirst k := by
  rw [State.freshCandidate, highestRun_spec _ _ ((members_ascending _).filter _), State.shedsFirst]
  simp only [List.mem_filter, State.mem_members, Bool.not_eq_true', and_imp]

/-- The candidate a re-plan chooses afresh. -/
theorem State.replan_fresh (chosen : (cause.chooses || s.replanStart.candidateGone) = true) (k : Engine) :
    (s.replan cause).plan.candidate = some k ↔ (s.replan cause).shedsFirst k := by
  have figures := (s.replan_sameFigures cause).1
  simp only [Plan.figures, Prod.mk.injEq] at figures
  obtain ⟨-, plan⟩ := s.replanStart_does
  obtain ⟨-, -, run, -, -⟩ := State.candidates_of_frame s.replanStart_onlyChanges
  obtain ⟨-, -, run', -, -⟩ := State.candidates_of_frame (s.replan_onlyChanges cause)
  obtain ⟨-, -, -, limits, -⟩ := State.valid_of_frame s.replanStart_onlyChanges
  obtain ⟨-, -, -, limits', -⟩ := State.valid_of_frame (s.replan_onlyChanges cause)
  have online : s.replanStart.plan.online = s.formDemand.plan.online := by rw [plan]
  rw [(s.replan_does cause).2.2.1, (s.replanChoice_does cause).2.2.1, if_pos chosen, State.freshCandidate_iff,
    State.shedsFirst, State.shedsFirst, online, figures.2.1, limits, limits', run, run']

/-- The shed condition of the plan that a re-plan leaves is the one its shed decision read. -/
theorem State.replan_shedCondition : (s.replan cause).shedCondition = (s.replanChoice cause).shedCondition := by
  obtain ⟨all, some, -⟩ := s.replan_sameFigures cause
  exact State.shedCondition_of_frame (s.replanChoice_replan_onlyChanges cause) (all.trans some.symm)
    (s.replan_does cause).2.2.1

/-- The shed order of a re-plan (R58). -/
theorem State.replan_sheds {dwell : Nat} (counted : dwell = if (s.replan cause).plan.candidate = s.plan.candidate then
      s.plan.shedTimer.getD 0 else 0) : (s.replanChoice cause).sheds true = true ↔
    (s.replan cause).shedCondition = true ∧ s.valid = true ∧ s.cfg.staging.shedDwell ≤ dwell := by
  obtain ⟨cfs, -⟩ := State.valid_of_frame (s.replanChoice_onlyChanges cause)
  rw [State.sheds_iff, State.replan_shedCondition, complete_startedAt0, decide_eq_true_iff,
    (s.replanChoice_does cause).2.2.2.1, ← (s.replan_does cause).2.2.1, ← counted, State.cfg_congr cfs,
    State.valid_congr cfs]
  tauto

/-- The events that a re-plan hands. -/
def State.replanEvents : List Event :=
  s.formDemand.startOrders true ++ ((s.replanChoice cause).shedOrders true ++
    (if s.pairsHanded cause = .same none then [] else [.pairs (s.pairsHanded cause)]))

theorem State.replan_handed : (s.replan cause).handed = s.handed ++ s.replanEvents cause := by
  rw [(s.replan_does cause).1, State.replanEvents, List.append_assoc, List.append_assoc]

theorem State.mem_replanEvents (e : Event) : e ∈ s.replanEvents cause ↔
    (s.formDemand.calls true = true ∧ s.startOrder = some e) ∨
      ((s.replanChoice cause).sheds true = true ∧
        ∃ x, (s.replanChoice cause).plan.candidate = some x ∧ e = .stopOrder x .shed) ∨
      (s.pairsHanded cause ≠ .same none ∧ e = .pairs (s.pairsHanded cause)) := by
  rw [State.replanEvents, List.mem_append, List.mem_append, State.mem_startOrders, State.mem_shedOrders,
    State.startOrder_of_frame s.formDemand_onlyChanges]
  split <;> simp [*]

/-- The start orders of a re-plan, and the start timer it leaves (R50 to R53). -/
theorem State.replan_startDecision (called : Bool) (hcalled : called = true ↔ ((s.replan cause).minimumClause = true ∨
      ((s.replan cause).capacityClause = true ∧ s.cfg.staging.startDwell ≤ s.plan.startTimer.getD 0)) ∧
      s.stagingEngine = none ∧ s.valid = true ∧ s.writing = false ∧ s.emergency = false) :
    (∀ k, .recall k ∈ s.replanEvents cause ↔ called = true ∧ s.lowestRunOf s.recallCandidates k) ∧
    (∀ k, .startOrder k .staging ∈ s.replanEvents cause ↔
      called = true ∧ s.recallCandidates = [] ∧ s.lowestRunOf s.newStartCandidates k) ∧
    ((s.replan cause).startCondition = false → (s.replan cause).plan.startTimer = none) ∧
    ((s.replan cause).startCondition = true → called = true → s.recallCandidates ≠ [] ∨ s.newStartCandidates ≠ [] →
      (s.replan cause).plan.startTimer = some 0) ∧
    ((s.replan cause).startCondition = true → called = false ∨ (s.recallCandidates = [] ∧ s.newStartCandidates = []) →
      (s.replan cause).plan.startTimer = some (s.plan.startTimer.getD 0)) := by
  have same : s.formDemand.calls true = called := by
    rw [Bool.eq_iff_iff, s.replan_calls cause]
    exact hcalled.symm
  have condition := (State.clauses_of_frame (s.formDemand_replan_onlyChanges cause) (s.replan_sameFigures cause).1).2.2
  obtain ⟨-, timer, -⟩ := s.replan_does cause
  rw [same, ← condition] at timer
  rw [timer]
  refine ⟨fun k => ?_, fun k => ?_, fun no => by simp [no], fun holds yes some => ?_, fun holds idle => ?_⟩
  · rw [State.mem_replanEvents, same, State.startOrder_recall]
    simp
  · rw [State.mem_replanEvents, same, State.startOrder_start]
    simp
  · have order : s.startOrder ≠ none := by
      rw [ne_eq, State.startOrder_none, not_and_or]
      exact some
    simp [holds, yes, Option.isSome_iff_ne_none.mpr order]
  · rw [← State.startOrder_none] at idle
    obtain no | no := idle <;> simp [holds, no, startedAt0]

/-- The shed candidate that a re-plan leaves (R56). -/
theorem State.replan_candidate (chosen : Bool) (hchosen : chosen = true ↔ cause = .limits ∨ cause = .apply ∨
      cause = .engine true ∨ s.plan.candidate = none ∨ ∃ x, s.plan.candidate = some x ∧
        ((s.replan cause).plan.online.get x = false ∨ s.limits.run.get x = true)) :
    (chosen = true → ∀ k, (s.replan cause).plan.candidate = some k ↔ (s.replan cause).shedsFirst k) ∧
      (chosen = false → (s.replan cause).plan.candidate = s.plan.candidate) := by
  have same : (cause.chooses || s.replanStart.candidateGone) = chosen := by
    rw [Bool.eq_iff_iff, State.replan_chooses]
    exact hchosen.symm
  refine ⟨fun yes => s.replan_fresh cause (same.trans yes), fun no => ?_⟩
  rw [(s.replan_does cause).2.2.1, (s.replanChoice_does cause).2.2.1, same, no]
  rfl

/-- The shed order of a re-plan, and the shed timer it leaves (R57, R58). -/
theorem State.replan_shedDecision (dwell : Nat) (counted : dwell = if (s.replan cause).plan.candidate =
      s.plan.candidate then s.plan.shedTimer.getD 0 else 0) :
    (∀ k, .stopOrder k .shed ∈ s.replanEvents cause ↔ (s.replan cause).plan.candidate = some k ∧
      (s.replan cause).shedCondition = true ∧ s.valid = true ∧ s.cfg.staging.shedDwell ≤ dwell) ∧
    ((s.replan cause).shedCondition = false → (s.replan cause).plan.shedTimer = none) ∧
    ((s.replan cause).shedCondition = true → (s.replan cause).plan.shedTimer =
      if s.valid = true ∧ s.cfg.staging.shedDwell ≤ dwell then none else some dwell) := by
  obtain ⟨-, -, candidate, timer, -⟩ := s.replan_does cause
  have sheds := State.replan_sheds s cause counted
  have choice := (s.replanChoice_does cause).2.2.2.1
  rw [← candidate, ← counted] at choice
  rw [← State.replan_shedCondition] at timer
  refine ⟨fun k => ?_, fun no => by rw [timer, no]; rfl, fun holds => ?_⟩
  · rw [State.mem_replanEvents, sheds, ← candidate]
    have other : s.startOrder ≠ some (.stopOrder k .shed) := by
      unfold State.startOrder
      split <;> simp
    simp [other, and_comm]
  · rw [holds, eq_self, true_and] at sheds
    rw [timer, holds, startedAt0, choice]
    by_cases due : s.valid = true ∧ s.cfg.staging.shedDwell ≤ dwell
    · rw [if_pos due, sheds.mpr due]
      rfl
    · rw [if_neg due, Bool.eq_false_iff.mpr fun h => due (sheds.mp h)]
      rfl

end

/-- Settles O25: the two dwell rows, and the orders of a re-plan read off the plan it leaves. -/
theorem dwellsCompleteIntoOrders : Obligations.DwellsCompleteIntoOrders := by
  unfold Obligations.DwellsCompleteIntoOrders
  refine ⟨fun s n awake timer full capacity staging valid writing emergency k => ⟨fun lowest => ?_, fun none lowest => ?_⟩,
    fun s n x awake timer full candidate valid staging above low => ?_,
    fun s pre post cause awake handed oldest => ?_, fun s => ?_⟩
  · obtain ⟨handed, plan, frame⟩ := State.startDwellComplete_orders timer full capacity staging valid writing emergency
      ((s.startOrder_recall k).mpr lowest)
    exact ⟨_, State.running_next _ awake, handed, plan, frame⟩
  · obtain ⟨handed, plan, frame⟩ := State.startDwellComplete_orders timer full capacity staging valid writing emergency
      ((s.startOrder_start k).mpr ⟨none, lowest⟩)
    exact ⟨_, State.running_next _ awake, handed, plan, frame⟩
  · obtain ⟨handed, plan, frame⟩ := State.shedDwellComplete_orders timer full candidate valid
      (s.shedCondition_iff.mpr ⟨above, staging, x, candidate, low⟩)
    exact ⟨_, State.running_next _ awake, handed, plan, frame⟩
  · exact ⟨_, _, exec_replan s awake handed oldest, State.replan_handed _ cause,
      (s.setHanded (pre ++ post)).replan_startDecision cause, (s.setHanded (pre ++ post)).replan_candidate cause,
      (s.setHanded (pre ++ post)).replan_shedDecision cause⟩
  · obtain ⟨capacity, minimum, start⟩ := s.clauses_iff
    exact ⟨capacity, minimum, start, s.shedCondition_iff, s.stagingEngine_none, s.mem_recallCandidates,
      s.mem_newStartCandidates⟩

end Sys2Proof.Machine

namespace Sys2Proof.Machine

/-! ## Codes of the reports (R183 to R185) -/

theorem EState.code_eq (x : EState) : x.code = codeIn 1 [.isolated, .stopped, .prelube, .crankWait, .cranking, .crankRest,
    .runup, .online, .cooldown, .stopping, .tripped] x := by cases x <;> rfl

theorem startReasonCode_eq (x : Option StartReason) :
    startReasonCode x = codeIn 0 [none, some .staging, some .request, some .runDemand] x := by
  obtain _ | x := x
  · rfl
  · cases x <;> rfl

theorem stopReasonCode_eq (x : Option StopReason) : stopReasonCode x =
    codeIn 0 [none, some .shed, some .request, some .stopDemand, some .runOff, some .isolation] x := by
  obtain _ | x := x
  · rfl
  · cases x <;> rfl

theorem tripCauseCode_eq (x : Option TripCause) : tripCauseCode x = codeIn 0 [none, some .noPrelube, some .noStart,
    some .runupFail, some .overspeed, some .lowLube, some .overheat, some .noSpeedSignal, some .stopFail,
    some .emergency] x := by
  obtain _ | x := x
  · rfl
  · cases x <;> rfl

theorem attemptCode_eq (x : Option AttemptCause) : attemptCode x =
    codeIn 0 [none, some .fired, some .crankTimeout, some .batterySag, some .falseStart] x := by
  obtain _ | x := x
  · rfl
  · cases x <;> rfl

theorem HoldPoint.code_eq (x : HoldPoint) : x.code = codeIn 1 [.none, .beforeCrank, .beforeOnline] x := by
  cases x <;> rfl

theorem resetCauseCode_eq (x : Option ResetKind) :
    resetCauseCode x = codeIn 0 [none, some .powerOn, some .supplyDip, some .restart] x := by
  obtain _ | x := x
  · rfl
  · cases x <;> rfl

theorem Phase.code_eq (x : Phase) : x.code = codeIn 1 [.idle, .granted, .recovery] x := by cases x <;> rfl

theorem LineState.code_eq (x : LineState) :
    x.code = codeIn 1 [.quiet, .asking, .held, .withdrawn, .backoff] x := by cases x <;> rfl

/-- The place of an engine in the crank queue, 1 at the head. -/
theorem byte_placeIn (queue : List Engine) (k : Engine) :
    byte (placeIn queue k) = if k ∈ queue then byte (queue.idxOf k + 1) else 0 := by
  have place : placeIn queue k = if k ∈ queue then queue.idxOf k + 1 else 0 := by
    induction queue with
    | nil => rfl
    | cons j rest ih =>
      rw [placeIn, List.idxOf_cons]
      by_cases same : j = k
      · simp [same]
      · rw [if_neg same, ih]
        by_cases there : k ∈ rest
        · rw [beq_false_of_ne same]
          simp [there]
        · simp [there, Ne.symm same]
  rw [place]
  split
  · rfl
  · rfl

/-- Flags packed into one byte, the first in bit 0. -/
theorem noticeByte_bits (x : Notices) (n : Nat) : (noticeByte x).getLsbD n =
    [x.expired, x.resetSeen, x.trainlineFault, x.demandLapsed, x.powerShort].getD n false := by
  have all : ∀ a b c d e : Bool, ∀ n : Fin 8, (byte ((if a then 1 else 0) + (if b then 2 else 0) +
      (if c then 4 else 0) + (if d then 8 else 0) + (if e then 16 else 0))).getLsbD n.val =
        [a, b, c, d, e].getD n.val false := by decide
  by_cases low : n < 8
  · exact all x.expired x.resetSeen x.trainlineFault x.demandLapsed x.powerShort ⟨n, low⟩
  · rw [BitVec.getLsbD_of_ge _ _ (by omega), List.getD_eq_default _ _ (by simp; omega)]

theorem engineBits_getLsbD (set : PerEngine Bool) (n : Nat) :
    (engineBits set).getLsbD n = (Engine.all.map set.get).getD n false := by
  have all : ∀ a b c d : Bool, ∀ n : Fin 8, (engineBits ⟨a, b, c, d⟩).getLsbD n.val = [a, b, c, d].getD n.val false := by
    decide
  obtain ⟨a, b, c, d⟩ := set
  by_cases low : n < 8
  · exact all a b c d ⟨n, low⟩
  · rw [BitVec.getLsbD_of_ge _ _ (by omega), List.getD_eq_default _ _ (by simp [Engine.all]; omega)]

theorem engineCode_eq {engineAt : Option Engine → Byte} (atNone : engineAt none = 0)
    (atSome : ∀ k, engineAt (some k) = byte k.number) (x : Option Engine) : engineCode x = engineAt x := by
  cases x with
  | none => exact atNone.symm
  | some k => exact (atSome k).symm

/-! ## READ_ENGINE -/

theorem speedBytes_eq {speed : Reading → List Byte} (unmeasured : speed .notMeasured = [0xFF, 0xFF])
    (silent : speed .silent = [0, 0]) (good : ∀ v sat, speed (.good v sat) = be16 v) (x : Reading) :
    speedBytes x.speed = speed x := by
  cases x with
  | notMeasured => exact unmeasured.symm
  | silent => exact silent.symm
  | good v sat => exact (good v sat).symm

theorem Reading.bytes_eq (x : Reading) : ∃ health mark, x.bytes = speedBytes x.speed ++ [health, mark] ∧
    (x = .notMeasured → health = 0 ∧ mark = 0) ∧ (∀ v sat, x = .good v sat → health = 1 ∧ mark = bit sat) ∧
    (x = .silent → health = 2 ∧ mark = 0) := by
  cases x with
  | notMeasured => exact ⟨_, _, rfl, fun _ => ⟨rfl, rfl⟩, nofun, nofun⟩
  | silent => exact ⟨_, _, rfl, nofun, nofun, fun _ => ⟨rfl, rfl⟩⟩
  | good v sat =>
    refine ⟨_, _, rfl, nofun, fun w sat' same => ?_, nofun⟩
    cases same
    exact ⟨rfl, rfl⟩

theorem coolantBytes_eq (x : Option Int) : ∃ hi lo, coolantBytes x = [hi, lo] ∧ (x = none → [hi, lo] = [0x7F, 0xFF]) ∧
    ∀ y : Int, x = some y → [hi, lo] = be16 (y % 65536).toNat := by
  cases x with
  | none => exact ⟨_, _, rfl, fun _ => rfl, nofun⟩
  | some t =>
    refine ⟨_, _, rfl, nofun, fun y same => ?_⟩
    cases same
    change be16 (BitVec.ofInt 16 t).toNat = _
    rw [BitVec.toNat_ofInt]
    rfl

theorem State.clearChanged_onlyChanges (s : State) (k : Engine) : s.onlyChanges (s.clearChanged k) [.notices] := by
  simp [State.onlyChanges_iff, Part.same, State.eng, State.sense, State.dutyOf, State.clearChanged, State.setNotices]

theorem State.clearStatusNotices_onlyChanges (s : State) : s.onlyChanges s.clearStatusNotices [.notices] := by
  simp [State.onlyChanges_iff, Part.same, State.eng, State.sense, State.dutyOf, State.clearStatusNotices,
    State.setNotices]

/-- The record group of the engine report. -/
theorem State.recordBytes_eq {s : State} {k : Engine} (awake : s.awake = true) (fitted : s.fitted k = true) :
    s.recordBytes (s.eng k) =
    [codeIn 1 [.isolated, .stopped, .prelube, .crankWait, .cranking, .crankRest, .runup, .online, .cooldown, .stopping,
        .tripped] (s.eng k).state,
      codeIn 0 [none, some .staging, some .request, some .runDemand] (s.eng k).startReason, bit (s.eng k).stopPending,
      codeIn 0 [none, some .shed, some .request, some .stopDemand, some .runOff, some .isolation] (s.eng k).stopReason,
      codeIn 0 [none, some .noPrelube, some .noStart, some .runupFail, some .overspeed, some .lowLube, some .overheat,
        some .noSpeedSignal, some .stopFail, some .emergency] (s.eng k).tripCause,
      codeIn 0 [none, some .fired, some .crankTimeout, some .batterySag, some .falseStart] (s.eng k).lastAttempt,
      byte (s.eng k).notch, byte (s.eng k).pairInUse.target] ++ be16 (s.eng k).pairInUse.alloc ++ be16 (s.loadLimit k) ++
    be16 (s.setpointOut k) ++ [byte (s.eng k).attempts, codeIn 1 [.none, .beforeCrank, .beforeOnline] (s.eng k).holdPoint] ++
    [bit (s.eng k).held, bit (s.eng k).highLoad, bit (s.eng k).settled] ++ be16 ((s.eng k).settledTime.getD 0) := by
  rw [← EState.code_eq, ← startReasonCode_eq, ← stopReasonCode_eq, ← tripCauseCode_eq, ← attemptCode_eq,
    ← HoldPoint.code_eq]
  have load : s.loadLimit k = s.loadLimitOf (s.eng k) := if_pos (Bool.and_eq_true_iff.mpr ⟨awake, fitted⟩)
  have setpoint : s.setpointOut k = s.setpointOf (s.eng k) := if_pos (Bool.and_eq_true_iff.mpr ⟨awake, fitted⟩)
  rw [load, setpoint]
  rfl

/-- The isolation and crank supply group of the engine report. -/
def State.supplyBytes (s : State) (k : Engine) : List Byte :=
  [bit (s.eng k).isoRequest, bit (s.level (.iso k)), byte (s.limits.ceiling.get k), bit (s.limits.inhibit.get k),
    bit (s.limits.run.get k), bit (s.limits.stop.get k),
    if k ∈ s.car.queue then byte (s.car.queue.idxOf k + 1) else 0, bit (decide (s.car.holder = some k))]

theorem State.engineReport_eq (s : State) (k : Engine) :
    s.engineReport k = s.recordBytes (s.eng k) ++ s.supplyBytes k ++ (s.sense k).bytes := by
  rw [State.engineReport, State.supplyBytes, byte_placeIn]

theorem Sensing.bytes_shape (x : Sensing) : x.bytes =
    x.a.reading.bytes ++ x.b.reading.bytes ++ [pickupCode x.selection] ++ speedBytes x.selected ++
      [bit x.degraded, bit x.restored, codeIn 0 [none, some .a, some .b] x.failed] ++ coolantBytes x.coolant ++
      [if x.sensorGood then 1 else 2, bit (decide (x.overCount = 3)), bit x.warmed] := by
  unfold Sensing.bytes
  cases x.failed with
  | none => rfl
  | some p => cases p <;> rfl

/-- The sensing group of the engine report: 19 bytes. -/
theorem Sensing.bytes_eq {x : Sensing} {speed : Reading → List Byte} (unmeasured : speed .notMeasured = [0xFF, 0xFF])
    (silent : speed .silent = [0, 0]) (good : ∀ v sat, speed (.good v sat) = be16 v) {q : List Byte}
    (report : q = x.bytes) : q.length = 19 ∧
      (∀ n y, (n = 0 ∧ y = x.a.reading) ∨ (n = 4 ∧ y = x.b.reading) → (q.drop n).take 2 = speed y ∧
        (y = .notMeasured → q.getD (n + 2) 0 = 0 ∧ q.getD (n + 3) 0 = 0) ∧
        (∀ v sat, y = .good v sat → q.getD (n + 2) 0 = 1 ∧ q.getD (n + 3) 0 = bit sat) ∧
        (y = .silent → q.getD (n + 2) 0 = 2 ∧ q.getD (n + 3) 0 = 0)) ∧
      (x.selection = .a → q.getD 8 0 = 1 ∧ (q.drop 9).take 2 = speed x.a.reading) ∧
      (x.selection = .b → q.getD 8 0 = 2 ∧ (q.drop 9).take 2 = speed x.b.reading) ∧
      q.getD 11 0 = bit x.degraded ∧ q.getD 12 0 = bit x.restored ∧ q.getD 13 0 = codeIn 0 [none, some .a, some .b] x.failed ∧
      (x.coolant = none → (q.drop 14).take 2 = [0x7F, 0xFF]) ∧
      (∀ y : Int, x.coolant = some y → (q.drop 14).take 2 = be16 (y % 65536).toNat) ∧
      q.getD 16 0 = (if x.sensorGood then 1 else 2) ∧ q.getD 17 0 = bit (decide (x.overCount = 3)) ∧
      q.getD 18 0 = bit x.warmed := by
  obtain ⟨healthA, markA, bytesA, a1, a2, a3⟩ := x.a.reading.bytes_eq
  obtain ⟨healthB, markB, bytesB, b1, b2, b3⟩ := x.b.reading.bytes_eq
  obtain ⟨hi, lo, coolant, absent, present⟩ := coolantBytes_eq x.coolant
  have speedOf := speedBytes_eq unmeasured silent good
  rw [x.bytes_shape, bytesA, bytesB, coolant] at report
  subst report
  refine ⟨rfl, fun n y h => ?_, fun selection => ?_, fun selection => ?_, rfl, rfl, rfl, absent, present, rfl, rfl, rfl⟩
  · obtain ⟨rfl, rfl⟩ | ⟨rfl, rfl⟩ := h
    · exact ⟨speedOf _, a1, a2, a3⟩
    · exact ⟨speedOf _, b1, b2, b3⟩
  · have selected : x.selected = x.a.reading.speed := by rw [Sensing.selected, selection]; rfl
    rw [selection, selected]
    exact ⟨rfl, speedOf _⟩
  · have selected : x.selected = x.b.reading.speed := by rw [Sensing.selected, selection]; rfl
    rw [selection, selected]
    exact ⟨rfl, speedOf _⟩

theorem State.awake_of_takes {s : State} {c : Instr} (taken : s.takes c = true) : s.awake = true := by
  rw [State.takes, Bool.and_eq_true, Bool.and_eq_true] at taken
  exact taken.1.1

/-! ## READ_STATUS and READ_PLAN -/

theorem dwellBytes_eq (timer : Option Nat) (dwell : Nat) : ∃ hi lo, dwellBytes timer dwell = [hi, lo] ∧
    (timer = none → [hi, lo] = [0xFF, 0xFF]) ∧ ∀ m, timer = some m → [hi, lo] = be16 (dwell - m) := by
  cases timer with
  | none => exact ⟨_, _, rfl, fun _ => rfl, nofun⟩
  | some n =>
    refine ⟨_, _, rfl, nofun, fun m same => ?_⟩
    cases same
    rfl

theorem voltageBytes_eq (v : Option Nat) : (v = none → voltageBytes v = [0xFF, 0xFF]) ∧
    ∀ n, v = some n → voltageBytes v = be16 n :=
  ⟨fun h => by rw [h]; rfl, fun n h => by rw [h]; rfl⟩

theorem State.gapRemaining_eq (s : State) : (s.car.phase ≠ .recovery → s.gapRemaining = 0) ∧
    ∀ n, s.car.phase = .recovery → s.car.gapTimer = some n → s.gapRemaining = s.cfg.arbiter.crankGap - n := by
  refine ⟨fun other => ?_, fun n phase timer => by rw [State.gapRemaining, phase, timer]⟩
  unfold State.gapRemaining
  split
  next phase _ => exact absurd phase other
  next => rfl

theorem State.planOf_eq (s : State) (k : Engine) : ∃ a b c d e, s.planOf k = [a, b, c, d, e] := by
  unfold State.planOf
  split
  · exact ⟨_, _, _, _, _, rfl⟩
  · exact ⟨_, _, _, _, _, rfl⟩

/-- The pairs at the end of the plan report stand five bytes for each engine. -/
theorem State.planPairs_eq (s : State) (k : Engine) :
    ((Engine.all.flatMap s.planOf).drop (5 * (k.number - 1))).take 5 = s.planOf k ∧
      (Engine.all.flatMap s.planOf).length = 20 := by
  obtain ⟨a1, b1, c1, d1, f1, e1⟩ := s.planOf_eq .e1
  obtain ⟨a2, b2, c2, d2, f2, e2⟩ := s.planOf_eq .e2
  obtain ⟨a3, b3, c3, d3, f3, e3⟩ := s.planOf_eq .e3
  obtain ⟨a4, b4, c4, d4, f4, e4⟩ := s.planOf_eq .e4
  simp only [Engine.all, List.flatMap_cons, List.flatMap_nil, e1, e2, e3, e4]
  refine ⟨?_, rfl⟩
  cases k
  · exact e1.symm
  · exact e2.symm
  · exact e3.symm
  · exact e4.symm

/-! ## The three reports -/

/-- READ_ENGINE: the 48-byte report, and the engine's changed flag cleared (R70, R155, R183). -/
theorem readEngine_reports {s : State} {c : Caller} {e : Byte} {k : Engine}
    (takes : s.takesFor (.readEngine c e) e k = true) :
    ∃ t p, exec (.readEngine c e) s = .next t ∧ s.answers t (.readEngine c e) .ok p ∧
      p = s.recordBytes (s.eng k) ++ s.supplyBytes k ++ (s.sense k).bytes ∧
      t.cli.notices = { s.cli.notices with changed := s.cli.notices.changed.set k false } ∧
      s.onlyChanges t (.notices :: answerParts) := by
  obtain ⟨answers, frame, answered⟩ := State.servedFor (fun k u => u.readEngine k) takes rfl
    (s.clearChanged_onlyChanges k) (by decide)
  exact ⟨_, _, rfl, answers, s.engineReport_eq k, answered .notices (by decide), frame⟩

/-- READ_STATUS: the 36-byte report, and the five locomotive flags cleared (R184). -/
theorem readStatus_reports {s : State} {c : Caller} {engineAt : Option Engine → Byte} (atNone : engineAt none = 0)
    (atSome : ∀ k, engineAt (some k) = byte k.number) (taken : s.takes (.readStatus c) = true) :
    ∃ t p, exec (.readStatus c) s = .next t ∧ s.answers t (.readStatus c) .ok p ∧
      p = [codeIn 0 [none, some .powerOn, some .supplyDip, some .restart] s.cfs.cause, bit s.valid,
         bit s.writing, bit s.runLine, bit s.emergency, bit (decide (s.dsl.source = .link)), byte s.dsl.demand,
         byte s.dsl.decoded, byte s.dsl.linkDemand, bit s.dsl.lapsed, bit s.dsl.fault,
         byte ((List.range' 17 32).filter fun n => (slotAt s.table n).live).length] ++
        [codeIn 1 [.idle, .granted, .recovery] s.car.phase, engineAt s.car.holder,
         byte s.car.queue.length, engineAt s.car.queue[0]?, engineAt s.car.queue[1]?, engineAt s.car.queue[2]?,
         engineAt s.car.queue[3]?] ++ be16 s.gapRemaining ++
        [bit (decide (s.cfg.arbiter.sharing = .shared)),
         codeIn 1 [.quiet, .asking, .held, .withdrawn, .backoff] s.car.line, bit s.apuReq, bit (s.level .gnt)] ++
        voltageBytes s.bsm.sample ++ [byte s.bsm.low, byte s.bsm.high, byte s.bsm.sag,
         codeIn 1 [.idle, .granted, .recovery] s.bsm.phase] ++ voltageBytes s.bsm.crankMin ++
        [bit s.batteryLow, noticeByte s.cli.notices, engineBits s.cli.notices.changed] ∧
      t.cli.notices = ⟨s.cli.notices.changed, false, false, false, false, false⟩ ∧
      s.onlyChanges t (.notices :: answerParts) := by
  obtain ⟨answers, frame, answered⟩ := State.served (owner := State.readStatus) taken rfl s.clearStatusNotices_onlyChanges
    (by decide)
  refine ⟨_, _, rfl, answers, ?_, answered .notices (by decide), frame⟩
  rw [← resetCauseCode_eq, ← Phase.code_eq, ← Phase.code_eq, ← LineState.code_eq]
  simp only [← engineCode_eq atNone atSome]
  rfl

/-- READ_PLAN: the 35-byte report (R63, R185). -/
theorem readPlan_reports {s : State} {c : Caller} {engineAt : Option Engine → Byte} (atNone : engineAt none = 0)
    (atSome : ∀ k, engineAt (some k) = byte k.number) (taken : s.takes (.readPlan c) = true) :
    ∃ t p, exec (.readPlan c) s = .next t ∧ s.answers t (.readPlan c) .ok p ∧
      p = [byte s.dsl.demand] ++ be16 s.plan.p ++ capBytes s.limits.cap ++ be16 s.plan.co ++ [byte s.onlineCount] ++
        dwellBytes s.plan.startTimer s.cfg.staging.startDwell ++ dwellBytes s.plan.shedTimer s.cfg.staging.shedDwell ++
        [engineAt s.stagingEngine, bit s.plan.short] ++ Engine.all.flatMap s.planOf ∧
      s.onlyChanges t answerParts := by
  obtain ⟨answers, frame⟩ := State.served_idle (owner := State.readPlan) taken rfl
  refine ⟨_, _, rfl, answers, ?_, frame⟩
  rw [← engineCode_eq atNone atSome]
  rfl

theorem capBytes_eq (cap : Option Nat) : ∃ a b c, capBytes cap = [a, b, c] ∧ [a, b, c] = (match cap with
    | none => [0, 0, 0]
    | some v => 1 :: be16 v) := by
  cases cap with
  | none => exact ⟨_, _, _, rfl, rfl⟩
  | some v => exact ⟨_, _, _, rfl, rfl⟩

/-- Settles O40: each report is a list of the fields in their order; the groups of variable form (readings, coolant, dwells,
voltages) have a lemma each that gives their bytes. -/
theorem reportsAnswered : Obligations.ReportsAnswered := by
  unfold Obligations.ReportsAnswered
  refine ⟨?engine, fun s c engineAt atNone atSome => ⟨?status, ?plan⟩⟩
  case engine =>
    rintro s c e k r x speed takes rfl rfl unmeasured silent good
    obtain ⟨t, p, next, answers, report, notices, frame⟩ := readEngine_reports takes
    have awake := State.awake_of_takes ((s.takesFor_iff _ _ _).mp takes).1
    have fitted := ((s.takesFor_iff _ _ _).mp takes).2.2
    obtain ⟨length, readings, selectedA, selectedB, degraded, restored, failed, absent, present, sensor, hot, warmed⟩ :=
      Sensing.bytes_eq (x := s.sense k) unmeasured silent good rfl
    generalize (s.sense k).bytes = q at *
    rw [State.recordBytes_eq awake fitted] at report
    subst report
    refine ⟨t, _, next, answers, ?_, rfl, rfl, rfl, ?_, selectedA, selectedB, degraded, restored, failed, absent,
      fun y value _ _ => present y value, sensor, hot, warmed, notices, frame⟩
    · rw [List.length_append, length]
      rfl
    · rintro n y (⟨rfl, same⟩ | ⟨rfl, same⟩)
      · exact readings 0 y (.inl ⟨rfl, same⟩)
      · exact readings 4 y (.inr ⟨rfl, same⟩)
  case status =>
    intro taken
    obtain ⟨t, p, next, answers, report, notices, frame⟩ := readStatus_reports atNone atSome taken
    obtain ⟨noGap, gap⟩ := s.gapRemaining_eq
    have sample := voltageBytes_eq s.bsm.sample
    have crankMin := voltageBytes_eq s.bsm.crankMin
    subst report
    refine ⟨t, _, next, answers, rfl, rfl, rfl, ?_, ?_, rfl, ?_, rfl, rfl, noticeByte_bits _, engineBits_getLsbD _,
      notices, frame⟩
    · intro phase
      exact congrArg be16 (noGap phase)
    · intro n phase timer
      exact congrArg be16 (gap n phase timer)
    · rintro n y (⟨rfl, rfl⟩ | ⟨rfl, rfl⟩)
      · exact sample
      · exact crankMin
  case plan =>
    intro taken
    obtain ⟨t, p, next, answers, report, frame⟩ := readPlan_reports atNone atSome taken
    obtain ⟨cap0, cap1, cap2, cap, capIs⟩ := capBytes_eq s.limits.cap
    obtain ⟨start0, start1, start, startNone, startSome⟩ := dwellBytes_eq s.plan.startTimer s.cfg.staging.startDwell
    obtain ⟨shed0, shed1, shed, shedNone, shedSome⟩ := dwellBytes_eq s.plan.shedTimer s.cfg.staging.shedDwell
    have pairs := s.planPairs_eq
    rw [cap, start, shed] at report
    generalize Engine.all.flatMap s.planOf = q at *
    subst report
    refine ⟨t, _, next, answers, ?_, rfl, capIs, rfl, ?_, rfl, rfl, fun k => ?_, frame⟩
    · rw [List.length_append, (pairs .e1).2]
      rfl
    · rintro n y d (⟨rfl, rfl, rfl⟩ | ⟨rfl, rfl, rfl⟩)
      · exact ⟨startNone, startSome⟩
      · exact ⟨shedNone, shedSome⟩
    · rw [← List.drop_drop]
      exact (pairs k).1

end Sys2Proof.Machine

namespace Sys2Proof.Machine

/-! ## Fields that name no value (R180) -/

theorem State.forEngine_refused {s : State} {e : Byte}
    (bad : e = 0 ∨ 5 ≤ e.toNat ∨ ∃ k, engineField e = some k ∧ s.fitted k = false) (act : Engine → State → State × Reply) :
    s.forEngine e act = (s, .bare .badValue) := by
  unfold State.forEngine
  obtain rfl | high | ⟨k, field, absent⟩ := bad
  · rfl
  · rw [engineField_none high]
  · simp [field, absent]

/-- A request whose owner refuses it with no effect. -/
theorem State.served_refused {s : State} {c : Instr} {owner : State → State × Reply} {status : Status}
    (does : exec c s = .next (s.serveCommand c owner)) (taken : s.takes c = true) (own : owner s = (s, .bare status)) :
    ∃ t, exec c s = .next t ∧ s.answers t c status [] ∧ s.onlyChanges t answerParts :=
  ⟨_, does, State.served_idle taken own⟩

theorem holdField_none {b : Byte} (high : 3 ≤ b.toNat) : holdField b = none := by
  unfold holdField
  split
  case h_4 => rfl
  all_goals omega

theorem sectionOf_none {b : Byte} (bad : b = 0 ∨ 10 ≤ b.toNat) : sectionOf b = none := by
  obtain rfl | high := bad
  · rfl
  · unfold sectionOf
    split
    case h_10 => rfl
    all_goals omega

theorem State.listEntries_refused {s : State} {kind engine origin : Byte} (start : Byte)
    (bad : 6 ≤ kind.toNat ∨ 5 ≤ engine.toNat ∨ (17 ≤ origin.toNat ∧ origin.toNat ≤ 254)) :
    s.listEntries kind engine origin start = (s, .bare .badValue) := by
  unfold State.listEntries
  obtain high | high | ⟨low, high⟩ := bad
  · rw [kindFilter_codes.2.2 _ high]
  · rw [engineFilter_codes.2.2 _ high]
    cases kindFilter kind <;> rfl
  · rw [originFilter_codes.2.2.2 _ low (by rintro rfl; simp at high)]
    cases kindFilter kind
    · rfl
    · cases engineFilter engine <;> rfl

/-- Settles O56: the owner of each request answers BAD_VALUE and leaves the state as it is. -/
theorem fieldsNamingNoValueRefused : Obligations.FieldsNamingNoValueRefused := by
  intro s c
  refine ⟨fun e x cmd request taken bad => ?_, fun e h k takes high => ?_, fun kind engine origin start taken bad => ?_,
    fun sec taken bad => ?_⟩
  · obtain rfl | rfl | rfl | rfl | rfl | rfl | rfl | rfl | rfl | rfl | rfl := request
    all_goals exact State.served_refused rfl taken (State.forEngine_refused bad _)
  · exact ⟨_, rfl, State.servedFor_idle (fun k u => u.setHold h k) takes (by rw [State.setHold, holdField_none high]; rfl)⟩
  · exact State.served_refused rfl taken (State.listEntries_refused start bad)
  · exact State.served_refused rfl taken (by rw [State.readConfig, sectionOf_none bad])

end Sys2Proof.Machine

namespace Sys2Proof.Machine

/-! ## The catalogue (10.6) -/

theorem catalogueRow_mem {code : Byte} {w : CatalogueRow} (row : catalogueRow code = some w) :
    w ∈ catalogue ∧ code = byte w.code := by
  have same : w.code = code.toNat := by simpa using List.find?_some row
  refine ⟨List.mem_of_find?_eq_some row, ?_⟩
  rw [byte, same, BitVec.ofNat_toNat, BitVec.setWidth_eq]

/-- What holds of every row of the catalogue under its own code holds of every code that has a row. -/
theorem catalogueRow_all {p : Byte → CatalogueRow → Prop} (all : ∀ w ∈ catalogue, p (byte w.code) w) {code : Byte}
    {w : CatalogueRow} (row : catalogueRow code = some w) : p code w := by
  obtain ⟨mem, rfl⟩ := catalogueRow_mem row
  exact all w mem

theorem requestWellFormed_iff (r : Request) : requestWellFormed r = true ↔
    ∃ w, catalogueRow r.code = some w ∧ lengthFits w r.payload = true ∧ r.origin.toNat ≤ 15 := by
  unfold requestWellFormed
  cases catalogueRow r.code <;> simp

theorem sectionOf_length {sec : Byte} {id : SectionId} (names : sectionOf sec = some id) :
    (sec.toNat, sectionLength id) ∈
      [(1, 2), (2, 36), (3, 18), (4, 21), (5, 20), (6, 7), (7, 6), (8, 8), (9, 16)] := by
  unfold sectionOf at names
  split at names
  case h_10 => cases names
  all_goals
    next code =>
      cases names
      rw [code]
      decide

theorem sectionOf_of_length {sec : Byte} {n : Nat} (mem : (sec.toNat, n) ∈
      [(1, 2), (2, 36), (3, 18), (4, 21), (5, 20), (6, 7), (7, 6), (8, 8), (9, 16)]) :
    ∃ id, sectionOf sec = some id ∧ n = sectionLength id := by
  simp only [List.mem_cons, Prod.mk.injEq, List.not_mem_nil, or_false] at mem
  unfold sectionOf
  obtain ⟨code, rfl⟩ | ⟨code, rfl⟩ | ⟨code, rfl⟩ | ⟨code, rfl⟩ | ⟨code, rfl⟩ | ⟨code, rfl⟩ | ⟨code, rfl⟩ | ⟨code, rfl⟩ |
    ⟨code, rfl⟩ := mem
  all_goals
    rw [code]
    exact ⟨_, rfl, rfl⟩

theorem lengthFits_writeConfig_iff {w : CatalogueRow} (code : w.code = writeConfigCode) (payload : List Byte) :
    lengthFits w payload = true ↔ ∃ sec contents, payload = sec :: contents ∧ (sec.toNat, contents.length) ∈
        [(1, 2), (2, 36), (3, 18), (4, 21), (5, 20), (6, 7), (7, 6), (8, 8), (9, 16)] := by
  unfold lengthFits
  rw [if_pos code]
  cases payload with
  | nil => simp
  | cons sec contents =>
    constructor
    · intro fits
      refine ⟨sec, contents, rfl, ?_⟩
      cases names : sectionOf sec with
      | none => simp [names] at fits
      | some id =>
        have length : contents.length = sectionLength id := by simpa [names] using fits
        exact length ▸ sectionOf_length names
    · rintro ⟨_, _, same, mem⟩
      cases same
      obtain ⟨id, names, length⟩ := sectionOf_of_length mem
      simp [names, length]

theorem lengthFits_iff {w : CatalogueRow} (code : w.code ≠ writeConfigCode) (payload : List Byte) :
    lengthFits w payload = true ↔ payload.length = w.length := by
  unfold lengthFits
  rw [if_neg code, decide_eq_true_iff]

/-- The codes of the requests with a payload of one fixed length. -/
def codesOfLength : Nat → List Byte
  | 0 => [0x22, 0x23, 0x32]
  | 1 => [0x10, 0x11, 0x12, 0x13, 0x14, 0x16, 0x17, 0x18, 0x19, 0x20, 0x21, 0x30]
  | 2 => [0x03, 0x04, 0x15, 0x1A]
  | 4 => [0x05]
  | 7 => [0x01, 0x02]
  | _ => []

theorem catalogueRow_codesOfLength {code : Byte} {w : CatalogueRow} (row : catalogueRow code = some w)
    (fixed : w.code ≠ writeConfigCode) : code ∈ codesOfLength w.length :=
  catalogueRow_all (p := fun code w => w.code ≠ writeConfigCode → code ∈ codesOfLength w.length) (by decide) row fixed

theorem codesOfLength_catalogueRow {code : Byte} {n : Nat} (mem : code ∈ codesOfLength n) :
    ∃ w, catalogueRow code = some w ∧ w.code ≠ writeConfigCode ∧ w.length = n := by
  have rows : ∀ n < 8, ∀ code ∈ codesOfLength n,
      ((catalogueRow code).any fun w => decide (w.code ≠ writeConfigCode ∧ w.length = n)) = true := by decide
  have small : n < 8 := by
    unfold codesOfLength at mem
    split at mem
    case h_6 => cases mem
    all_goals omega
  simpa [Option.any_eq_true] using rows n small code mem

theorem mem_codesOfLength_iff (code : Byte) (n : Nat) : code ∈ codesOfLength n ↔
    (n = 0 ∧ code ∈ [0x22, 0x23, 0x32]) ∨
      (n = 1 ∧ code ∈ [0x10, 0x11, 0x12, 0x13, 0x14, 0x16, 0x17, 0x18, 0x19, 0x20, 0x21, 0x30]) ∨
      (n = 2 ∧ code ∈ [0x03, 0x04, 0x15, 0x1A]) ∨ (n = 4 ∧ code = 0x05) ∨ (n = 7 ∧ code ∈ [0x01, 0x02]) := by
  unfold codesOfLength
  split <;> simp_all

/-- Check 1: the origin, and the length the code requires. -/
theorem requestWellFormed_iff_catalogue (r : Request) : requestWellFormed r = true ↔ r.origin.toNat ≤ 15 ∧
    (r.code ∈ codesOfLength r.payload.length ∨
      (r.code = 0x31 ∧ ∃ sec contents, r.payload = sec :: contents ∧ (sec.toNat, contents.length) ∈
        [(1, 2), (2, 36), (3, 18), (4, 21), (5, 20), (6, 7), (7, 6), (8, 8), (9, 16)])) := by
  rw [requestWellFormed_iff]
  constructor
  · rintro ⟨w, row, fits, origin⟩
    refine ⟨origin, ?_⟩
    by_cases code : w.code = writeConfigCode
    · exact .inr ⟨(catalogueRow_mem row).2.trans (by rw [code]; rfl), (lengthFits_writeConfig_iff code _).mp fits⟩
    · exact .inl ((lengthFits_iff code _).mp fits ▸ catalogueRow_codesOfLength row code)
  · rintro ⟨origin, mem | ⟨code, contents⟩⟩
    · obtain ⟨w, row, fixed, length⟩ := codesOfLength_catalogueRow mem
      exact ⟨w, row, (lengthFits_iff fixed _).mpr length.symm, origin⟩
    · exact ⟨⟨0x31, .supervisor, false, 0⟩, by rw [code]; rfl, (lengthFits_writeConfig_iff rfl _).mpr contents, origin⟩

/-! ## The common checks (R179) -/

section

variable (s : State) (r : Request)

theorem State.commonCheck_malformed (malformed : requestWellFormed r = false) :
    s.commonCheck r = some .badRequest := by
  unfold requestWellFormed at malformed
  unfold State.commonCheck
  cases row : catalogueRow r.code with
  | none => rfl
  | some w =>
    simp only [row, Bool.and_eq_false_iff, decide_eq_false_iff_not, Nat.not_le] at malformed
    exact if_pos (by simpa using malformed)

variable {w : CatalogueRow} (formed : requestWellFormed r = true) (row : catalogueRow r.code = some w)

include formed row

theorem State.commonCheck_formed : s.commonCheck r =
    if (s.role r.origin).rank < w.minRole.rank then some .notPermitted
    else if w.needsValid && !s.valid then some .configInvalid
    else none := by
  unfold requestWellFormed at formed
  simp only [row, Bool.and_eq_true, decide_eq_true_iff] at formed
  obtain ⟨fits, origin⟩ := formed
  unfold State.commonCheck
  simp only [row]
  exact if_neg (by simp [fits, origin])

theorem State.commonCheck_cases :
    ((s.role r.origin).rank < w.minRole.rank → s.commonCheck r = some .notPermitted) ∧
    (w.minRole.rank ≤ (s.role r.origin).rank → w.needsValid = true → s.valid = false →
      s.commonCheck r = some .configInvalid) ∧
    (w.minRole.rank ≤ (s.role r.origin).rank → w.needsValid = false ∨ s.valid = true → s.commonCheck r = none) := by
  rw [s.commonCheck_formed r formed row]
  refine ⟨fun low => if_pos low, fun high needs invalid => ?_, fun high valid => ?_⟩
  · rw [if_neg (by omega), if_pos (by simp [needs, invalid])]
  · rw [if_neg (by omega), if_neg (by obtain h | h := valid <;> simp [h])]

end

/-- A request refused by a common check, taken directly: the answer, and nothing else. -/
theorem exec_refused {s : State} {c : Instr} {r : Request} {st : Status} (carries : requestOf c = some r)
    (awake : s.awake = true) (receiving : s.cli.restarting = false) (idle : s.cli.serving = none)
    (check : s.commonCheck r = some st) :
    ∃ t, exec c s = .next t ∧ s.answers t c st [] ∧ s.onlyChanges t [.answer] := by
  refine ⟨s.setAnswer r (.bare st) false, ?_, ?_, ?_⟩
  · have refused (owner) : s.serveCommand c owner = s.setAnswer r (.bare st) false := by
      have on : s.resetting.isSome = false := by simpa [State.awake] using awake
      simp [State.serveCommand, State.serve, carries, on, receiving, idle, check]
    cases c
    case restart c =>
      change Host.Outcome.next (s.serveCommand _ _).restartWhenSent = _
      rw [refused, State.restartWhenSent, if_neg]
      simp [State.setAnswer, receiving]
    all_goals simp only [requestOf, reduceCtorEq] at carries
    all_goals exact congrArg Host.Outcome.next (refused _)
  · exact ⟨r, _, carries, rfl, rfl, rfl, rfl, rfl, fun serving => by rw [idle] at serving; cases serving⟩
  · simp [State.onlyChanges_iff, Part.same, State.eng, State.sense, State.dutyOf, State.setAnswer, State.setCli]

theorem State.takes_of_check {s : State} {c : Instr} {r : Request} (carries : requestOf c = some r)
    (awake : s.awake = true) (receiving : s.cli.restarting = false) (idle : s.cli.serving = none)
    (check : s.commonCheck r = none) : s.takes c = true := by
  simp [State.takes, awake, receiving, carries, idle, check]

/-! ## Roles and the marks of the sections -/

theorem State.valid_iff (s : State) : s.valid = true ↔ s.cfs.marks.roster = true ∧ s.cfs.marks.engineTable = true ∧
    s.cfs.marks.locoTable = true ∧ s.cfs.marks.timing = true ∧ s.cfs.marks.thresholds = true ∧
    s.cfs.marks.staging = true ∧ s.cfs.marks.arbiter = true ∧ s.cfs.marks.inputs = true ∧
    s.cfs.marks.origins = true := by
  rw [State.valid, decide_eq_true_iff, Marks.same]
  obtain ⟨a, b, c, d, e, f, g, h, i⟩ := s.cfs.marks
  simp

theorem State.role_eq (s : State) (o : Byte) (small : o.toNat ≤ 15) :
    (s.valid = true → s.role o = s.cfs.working.origins.roles.getD o.toNat .none) ∧
    (s.valid = false → s.role o = if o = 0 then .supervisor else .none) := by
  refine ⟨fun valid => by rw [State.role, State.cfg, if_pos valid], fun invalid => ?_⟩
  rw [State.role, State.cfg, if_neg (by simp [invalid])]
  have defaults : ∀ n : Fin 16, Image.defaults.origins.roles.getD n.val .none =
      if n.val = 0 then .supervisor else .none := by decide
  have zero : o = 0 ↔ o.toNat = 0 := by rw [← BitVec.toNat_inj]; rfl
  rw [defaults ⟨o.toNat, by omega⟩]
  simp only [zero]

/-- Settles O55: `State.commonCheck` case by case, the catalogue read row by row, and the refusal of a request taken
directly. -/
theorem commonChecksRefuseInOrder : Obligations.CommonChecksRefuseInOrder := by
  refine ⟨fun s c r carries awake receiving idle => ⟨fun malformed => ?_, fun w formed row => ?_⟩,
    fun s r => ⟨s.commonCheck_malformed r, fun w formed row => s.commonCheck_cases r formed row⟩, fun r => ?_,
    fun code w row => ?_, by decide, fun s o small => s.role_eq o small, State.valid_iff⟩
  · exact exec_refused carries awake receiving idle (s.commonCheck_malformed r malformed)
  · obtain ⟨low, invalid, passes⟩ := s.commonCheck_cases r formed row
    exact ⟨fun h => exec_refused carries awake receiving idle (low h),
      fun h needs off => exec_refused carries awake receiving idle (invalid h needs off),
      fun h valid => State.takes_of_check carries awake receiving idle (passes h valid)⟩
  · rw [requestWellFormed_iff_catalogue, mem_codesOfLength_iff]
    simp only [or_assoc]
  · exact catalogueRow_all (p := fun code w =>
      (w.minRole = .observer ↔ code ∈ [0x04, 0x05, 0x10, 0x1A, 0x22, 0x23, 0x30]) ∧
      (w.minRole = .operator ↔ code ∈ [0x01, 0x02, 0x03, 0x11, 0x12, 0x20]) ∧
      (w.minRole = .supervisor ↔ code ∈ [0x13, 0x14, 0x15, 0x16, 0x17, 0x18, 0x19, 0x21, 0x31, 0x32]) ∧
      (w.needsValid = false ↔ code ∈ [0x22, 0x30, 0x31, 0x32])) (by decide) row

end Sys2Proof.Machine

namespace Sys2Proof.Machine

/-! ## Places of the intake (R174, R176) -/

section

variable {pre post : List Intake}

theorem unserved_oldest (r : Request) (served : ∀ x ∈ pre, x.served = true) :
    unserved (pre ++ ⟨r, false⟩ :: post) = some r := by
  have skipped : pre.find? (fun x => !x.served) = none := by simpa using served
  simp [unserved, List.find?_append, skipped]

theorem markServed_oldest (r : Request) (served : ∀ x ∈ pre, x.served = true) :
    markServed (pre ++ ⟨r, false⟩ :: post) = pre ++ ⟨r, true⟩ :: post := by
  induction pre with
  | nil => rfl
  | cons x xs ih =>
    rw [List.cons_append, markServed, if_pos (served x (by simp)), ih fun y mem => served y (by simp [mem])]
    rfl

theorem freePlace_oldest {x : Intake} (taken : x.served = true) (waiting : ∀ y ∈ pre, y.served = false) :
    freePlace (pre ++ x :: post) = pre ++ post := by
  induction pre with
  | nil => exact if_pos taken
  | cons y ys ih =>
    rw [List.cons_append, freePlace, if_neg (by simp [waiting y]), ih fun z mem => waiting z (by simp [mem])]
    rfl

end

theorem State.setCli_link {s : State} {x : Cli} (answer : x.answer = s.cli.answer)
    (notices : x.notices = s.cli.notices) : s.onlyChanges (s.setCli x) [.link] := by
  simp [State.onlyChanges_iff, Part.same, State.eng, State.sense, State.dutyOf, answer, notices]

theorem State.running_does {s t : State} (act : State → State) (awake : s.awake = true) (does : act s = t) :
    (Host.Outcome.next (s.running act) : Host.Outcome State Fault Refusal) = .next t := by
  rw [State.running_next act awake, does]

/-! ## Sending a response, and the reset of a RESTART (R176, R186) -/

/-- The link after the head of the response queue has gone out. -/
def Cli.sentHead (x : Cli) (a : Response) (rest : List Response) : Cli :=
  { x with
    responses := rest
    sent := responseFrame a
    intake := if a.placed then freePlace x.intake else x.intake }

section

variable {s : State} {a : Response} {rest : List Response}

theorem State.restartWhenSent_none (waits : s.cli.restarting = false ∨ s.cli.responses ≠ []) :
    s.restartWhenSent = s := by
  refine if_neg ?_
  obtain h | h := waits <;> simp [h]

theorem State.responseSent_eq (queue : s.cli.responses = a :: rest) :
    s.responseSent = (s.setCli (s.cli.sentHead a rest)).restartWhenSent := by
  unfold State.responseSent
  rw [queue]
  rfl

/-- The head goes out, with no reset to raise yet. -/
theorem responseSent_sends (awake : s.awake = true) (queue : s.cli.responses = a :: rest)
    (waits : s.cli.restarting = false ∨ rest ≠ []) :
    exec .responseSent s = .next (s.setCli (s.cli.sentHead a rest)) ∧
      s.onlyChanges (s.setCli (s.cli.sentHead a rest)) [.link] := by
  refine ⟨State.running_does State.responseSent awake ?_, State.setCli_link rfl rfl⟩
  rw [State.responseSent_eq queue]
  exact State.restartWhenSent_none waits

theorem Cli.sentHead_unplaced (x : Cli) (placed : a.placed = false) :
    x.sentHead a rest = { x with responses := rest, sent := responseFrame a } := by
  simp [Cli.sentHead, placed]

theorem Cli.sentHead_placed {x : Cli} {pre post : List Intake} {y : Intake} (placed : a.placed = true)
    (intake : x.intake = pre ++ y :: post) (taken : y.served = true) (waiting : ∀ z ∈ pre, z.served = false) :
    x.sentHead a rest = { x with responses := rest, sent := responseFrame a, intake := pre ++ post } := by
  simp [Cli.sentHead, placed, intake, freePlace_oldest taken waiting]

theorem State.raiseReset_onlyChanges (s : State) (kind : ResetKind) :
    s.onlyChanges (s.raiseReset kind) [.resetting, .handed, .cfs] := by
  simp [State.onlyChanges_iff, Part.same, State.eng, State.sense, State.dutyOf]

/-- The last response after a RESTART raises its reset. -/
theorem responseSent_resets (awake : s.awake = true) (restarting : s.cli.restarting = true)
    (queue : s.cli.responses = [a]) : ∃ t, exec .responseSent s = .next t ∧ t.cli.sent = responseFrame a ∧
      t.resetting = some .restart ∧ t.handed = [] ∧ s.onlyChanges t [.link, .resetting, .handed, .cfs] := by
  refine ⟨(s.setCli (s.cli.sentHead a [])).raiseReset .restart, State.running_does State.responseSent awake ?_, rfl, rfl,
    rfl, ?_⟩
  · rw [State.responseSent_eq queue]
    have off : s.resetting.isNone = true := awake
    exact if_pos (by simp [Cli.sentHead, restarting, off])
  · have sent : s.onlyChanges (s.setCli (s.cli.sentHead a [])) [.link] := State.setCli_link rfl rfl
    exact (sent.mono (by simp)).trans ((State.raiseReset_onlyChanges _ _).mono (by simp))

/-! ## RESTART -/

theorem State.allResting_iff (s : State) :
    s.allResting = true ↔ ∀ k, s.fitted k = true → (s.eng k).state.resting = true := by
  simp [State.allResting, State.mem_fittedEngines]

theorem State.restart_eq (s : State) :
    (s.writing = true → s.restart = (s, .bare .busy)) ∧
    (s.writing = false → (∃ k, s.fitted k = true ∧ (s.eng k).state.resting = false) →
      s.restart = (s, .bare .wrongState)) ∧
    (s.writing = false → (∀ k, s.fitted k = true → (s.eng k).state.resting = true) →
      s.restart = (s.setCli { s.cli with restarting := true }, .bare .ok)) := by
  unfold State.restart
  refine ⟨fun writing => if_pos writing, fun quiet ⟨k, fitted, moving⟩ => ?_, fun quiet rests => ?_⟩
  · have notAll : s.allResting = false :=
      Bool.eq_false_iff.mpr fun all => by simp [s.allResting_iff.mp all k fitted] at moving
    rw [if_neg (by simp [quiet]), if_pos (by simp [notAll])]
  · rw [if_neg (by simp [quiet]), if_neg (by simp [s.allResting_iff.mpr rests])]

theorem State.restarting_of_takes {c : Instr} (taken : s.takes c = true) : s.cli.restarting = false := by
  rw [State.takes, Bool.and_eq_true, Bool.and_eq_true] at taken
  simpa using taken.1.2

theorem State.restart_refused {c : Caller} {status : Status} (taken : s.takes (.restart c) = true)
    (own : s.restart = (s, .bare status)) :
    ∃ t, exec (.restart c) s = .next t ∧ s.answers t (.restart c) status [] ∧ s.onlyChanges t answerParts := by
  have receiving := State.restarting_of_takes taken
  refine ⟨s.serveCommand (.restart c) State.restart, ?_, State.served_idle taken own⟩
  refine congrArg Host.Outcome.next (State.restartWhenSent_none (.inl ?_))
  obtain ⟨r, -, ⟨-, served⟩ | ⟨-, served⟩⟩ := s.serveCommand_of_takes _ State.restart taken
  · rw [served, own]
    exact receiving
  · rw [served, own]
    exact receiving

/-- A RESTART taken: reception stops, and the answer is given. -/
theorem State.restart_taken {c : Caller} (taken : s.takes (.restart c) = true)
    (own : s.restart = (s.setCli { s.cli with restarting := true }, .bare .ok)) :
    ∃ u, exec (.restart c) s = .next u.restartWhenSent ∧ s.answers u (.restart c) .ok [] ∧ u.cli.restarting = true ∧
      s.onlyChanges u answerParts ∧ (s.cli.serving.isSome → u.cli.responses ≠ []) ∧
      (s.cli.serving = none → u.cli.responses = s.cli.responses) := by
  have answers := s.serveCommand_answers _ State.restart taken (by rw [own]; rfl)
  have changes := s.serveCommand_changes _ State.restart taken
  rw [own] at answers changes
  have total : s.onlyChanges (s.serveCommand (.restart c) State.restart) answerParts :=
    ((State.setCli_link (s := s) (x := { s.cli with restarting := true }) rfl rfl).mono (by decide)).trans changes
  refine ⟨s.serveCommand (.restart c) State.restart, rfl, answers, ?_⟩
  obtain ⟨r, -, ⟨serving, served⟩ | ⟨serving, served⟩⟩ := s.serveCommand_of_takes _ State.restart taken
  · rw [served, own] at total ⊢
    exact ⟨rfl, total, fun _ => by simp [State.respond], fun idle => by simp [serving] at idle⟩
  · rw [served, own] at total ⊢
    exact ⟨rfl, total, fun busy => by simp [serving] at busy, fun _ => rfl⟩

theorem State.raiseReset_answered {u : State} {kind : ResetKind} (frame : s.onlyChanges u answerParts)
    (quiet : s.writing = false) : s.onlyChanges (u.raiseReset kind) (.resetting :: .handed :: answerParts) := by
  have cfs : u.cfs = s.cfs := frame .cfs (by decide)
  have kept : (u.raiseReset kind).cfs = s.cfs := by
    have noWrite : s.cfs.write.isSome = false := quiet
    simp [State.raiseReset, Cfs.abandon, cfs, noWrite]
  intro p out
  by_cases store : p = .cfs
  · subst store
    exact kept
  · have total : s.onlyChanges (u.raiseReset kind) (.cfs :: .resetting :: .handed :: answerParts) :=
      (frame.mono (by decide)).trans ((u.raiseReset_onlyChanges kind).mono (by decide))
    exact total p (by simpa [store] using out)

theorem restarting_ignores (awake : s.awake = true) (restarting : s.cli.restarting = true) :
    (∀ ch bad, exec (.characterReceived ch bad) s = .next s) ∧ exec .requestFrameComplete s = .next s ∧
      exec .serveRequest s = .next s :=
  ⟨fun ch bad => State.running_does (fun t => t.characterReceived ch bad) awake (if_pos restarting),
    State.running_does State.frameComplete awake (if_pos restarting),
    State.running_does State.serveRequest awake (if_pos (by simp [restarting]))⟩

end

/-- Settles O60: RESTART by what `State.restart` makes of the state, its reset by `restartWhenSent`, at the request itself
or at the last RESPONSE_SENT. -/
theorem restartRaisesResetOnceAnswered : Obligations.RestartRaisesResetOnceAnswered := by
  intro s c
  obtain ⟨writing, moving, rests⟩ := s.restart_eq
  refine ⟨fun taken => ⟨fun write => State.restart_refused taken (writing write),
      fun quiet turns => State.restart_refused taken (moving quiet turns), fun quiet still serving => ?_,
      fun quiet still idle => ?_⟩,
    fun a awake restarting queue => responseSent_resets awake restarting queue,
    fun a b rest awake _ queue => ⟨fun placed => ?_, fun pre post x placed intake taken waiting => ?_⟩, restarting_ignores⟩
  · obtain ⟨u, does, answers, restarting, frame, queued, -⟩ := State.restart_taken taken (rests quiet still)
    rw [State.restartWhenSent_none (.inr (queued serving))] at does
    exact ⟨u, does, answers, restarting, frame⟩
  · obtain ⟨u, does, answers, restarting, frame, -, unqueued⟩ := State.restart_taken taken (rests quiet still)
    by_cases empty : s.cli.responses = []
    · have on : u.resetting = none :=
        (frame .resetting (by decide)).trans (Option.isNone_iff_eq_none.mp (State.awake_of_takes taken))
      have raised : u.restartWhenSent = u.raiseReset .restart :=
        if_pos (by simp [on, restarting, (unqueued idle).trans empty])
      exact ⟨u.raiseReset .restart, raised ▸ does, answers, restarting,
        fun _ => ⟨rfl, rfl, State.raiseReset_answered frame quiet⟩, fun waits => absurd empty waits⟩
    · rw [State.restartWhenSent_none (.inr (by rw [unqueued idle]; exact empty))] at does
      exact ⟨u, does, answers, restarting, fun none => absurd none empty, fun _ => frame⟩
  · obtain ⟨does, frame⟩ := responseSent_sends awake queue (.inr (by simp))
    exact ⟨_, does, Cli.sentHead_unplaced _ placed, Option.isNone_iff_eq_none.mp awake, frame⟩
  · obtain ⟨does, frame⟩ := responseSent_sends awake queue (.inr (by simp))
    exact ⟨_, does, Cli.sentHead_placed placed intake taken waiting, Option.isNone_iff_eq_none.mp awake, frame⟩

end Sys2Proof.Machine

namespace Sys2Proof.Machine

/-! ## The receiver (R171 to R173) -/

theorem Receiver.take_framingError (x : Receiver) (ch : Byte) : x.take ch true = (.hunt, none) := by
  cases x <;> rfl

section

variable {s : State} (awake : s.awake = true) (receiving : s.cli.restarting = false)

include awake receiving

/-- A character that completes no frame moves the receiver alone. -/
theorem characterReceived_moves {ch : Byte} {bad : Bool} {x : Receiver}
    (take : s.cli.receiver.take ch bad = (x, none)) :
    exec (.characterReceived ch bad) s = .next (s.setCli { s.cli with receiver := x }) := by
  refine State.running_does (fun t => t.characterReceived ch bad) awake ?_
  simp [State.characterReceived, receiving, take]

/-- A character that completes a frame: the frame waits when its CRC agrees. -/
theorem characterReceived_completes {ch : Byte} {bad : Bool} {x : Receiver} {frame : List Byte}
    (take : s.cli.receiver.take ch bad = (x, some frame)) :
    exec (.characterReceived ch bad) s = .next (s.setCli { s.cli with
      receiver := x
      completed := if crcAgrees frame then s.cli.completed ++ [frame] else s.cli.completed }) := by
  refine State.running_does (fun t => t.characterReceived ch bad) awake ?_
  simp [State.characterReceived, receiving, take]

theorem characterReceived_rows (ch : Byte) :
     (∃ t, exec (.characterReceived ch true) s = .next t ∧ t.cli = { s.cli with receiver := .hunt } ∧
       s.onlyChanges t [.link]) ∧
     (s.cli.receiver = .hunt → ∃ t, exec (.characterReceived ch false) s = .next t ∧
       t.cli = { s.cli with receiver := if ch = 0xA5 then .length else .hunt } ∧ s.onlyChanges t [.link]) ∧
     (s.cli.receiver = .length → ∃ t, exec (.characterReceived ch false) s = .next t ∧
       t.cli = { s.cli with receiver := if ch.toNat ≤ 48 then .body ch.toNat [] else .hunt } ∧
       s.onlyChanges t [.link]) ∧
     (∀ len got, s.cli.receiver = .body len got → got.length + 1 ≠ len + 5 →
       ∃ t, exec (.characterReceived ch false) s = .next t ∧
         t.cli = { s.cli with receiver := .body len (got ++ [ch]) } ∧ s.onlyChanges t [.link]) ∧
     (∀ len got, s.cli.receiver = .body len got → got.length + 1 = len + 5 →
       ∃ t, exec (.characterReceived ch false) s = .next t ∧ t.cli = { s.cli with
         receiver := .hunt
         completed := if crcAgrees (byte len :: (got ++ [ch])) then s.cli.completed ++ [byte len :: (got ++ [ch])]
           else s.cli.completed } ∧ s.onlyChanges t [.link]) := by
  refine ⟨?_, fun hunts => ?_, fun length => ?_, fun len got body more => ?_, fun len got body last => ?_⟩
  · exact ⟨_, characterReceived_moves awake receiving (Receiver.take_framingError _ ch), rfl, State.setCli_link rfl rfl⟩
  · have take : s.cli.receiver.take ch false = (if ch = 0xA5 then .length else .hunt, none) := by
      rw [hunts]
      simp [Receiver.take]
    exact ⟨_, characterReceived_moves awake receiving take, rfl, State.setCli_link rfl rfl⟩
  · have take : s.cli.receiver.take ch false = (if ch.toNat ≤ 48 then .body ch.toNat [] else .hunt, none) := by
      rw [length]
      by_cases small : ch.toNat ≤ 48
      · simp [Receiver.take, small, Config.maxPayload]
      · simp [Receiver.take, small, Config.maxPayload, Nat.lt_of_not_le small]
    exact ⟨_, characterReceived_moves awake receiving take, rfl, State.setCli_link rfl rfl⟩
  · have take : s.cli.receiver.take ch false = (.body len (got ++ [ch]), none) := by
      rw [body]
      exact if_neg (by simpa using more)
    exact ⟨_, characterReceived_moves awake receiving take, rfl, State.setCli_link rfl rfl⟩
  · have take : s.cli.receiver.take ch false = (.hunt, some (byte len :: (got ++ [ch]))) := by
      rw [body]
      simp [Receiver.take, last]
    exact ⟨_, characterReceived_completes awake receiving take, rfl, State.setCli_link rfl rfl⟩

/-! ## Intake and serving (R174, R175, R179) -/

theorem requestFrameComplete_takes {f : List Byte} {rest : List (List Byte)} (waits : s.cli.completed = f :: rest) :
    ∃ t, exec .requestFrameComplete s = .next t ∧
       (s.cli.intake.length < 4 →
         t.cli = { s.cli with completed := rest, intake := s.cli.intake ++ [⟨frameRequest f, false⟩] }) ∧
       (4 ≤ s.cli.intake.length → busyWaiting s.cli.responses < 4 → t.cli = { s.cli with
         completed := rest
         responses := s.cli.responses ++ [⟨(frameRequest f).code, (frameRequest f).tag, .busy, [], false⟩] }) ∧
       (4 ≤ s.cli.intake.length → 4 ≤ busyWaiting s.cli.responses → t.cli = { s.cli with completed := rest }) ∧
       s.onlyChanges t [.link] := by
  have takes : s.frameComplete = (s.setCli { s.cli with completed := rest }).takeIn (frameRequest f) := by
    simp [State.frameComplete, receiving, waits]
  refine ⟨_, State.running_does State.frameComplete awake takes, ?_⟩
  unfold State.takeIn
  split
  next room =>
    exact ⟨fun _ => rfl, fun full => absurd room (Nat.not_lt.mpr full), fun full => absurd room (Nat.not_lt.mpr full),
      State.setCli_link rfl rfl⟩
  next full =>
    split
    next room =>
      exact ⟨fun places => absurd places full, fun _ _ => rfl, fun _ many => absurd room (Nat.not_lt.mpr many),
        State.setCli_link rfl rfl⟩
    next many =>
      exact ⟨fun places => absurd places full, fun _ few => absurd few many, fun _ _ => rfl, State.setCli_link rfl rfl⟩

theorem serveRequest_serves {r : Request} {pre post : List Intake} (idle : s.cli.serving = none)
    (intake : s.cli.intake = pre ++ ⟨r, false⟩ :: post) (served : ∀ x ∈ pre, x.served = true) :
    ∃ t, exec .serveRequest s = .next t ∧
       (s.commonCheck r = none → t.cli = { s.cli with serving := some r }) ∧
       (∀ st, s.commonCheck r = some st →
         t.cli.responses = s.cli.responses ++ [⟨r.code, r.tag, st, [], true⟩] ∧
         t.cli.intake = pre ++ ⟨r, true⟩ :: post ∧ t.cli.serving = none) ∧ s.onlyChanges t answerParts := by
  have oldest : unserved s.cli.intake = some r := intake ▸ unserved_oldest r served
  cases check : s.commonCheck r with
  | none =>
    refine ⟨s.setCli { s.cli with serving := some r }, State.running_does State.serveRequest awake ?_, fun _ => rfl, nofun,
      ?_⟩
    · simp [State.serveRequest, receiving, idle, oldest, check]
    · exact (State.setCli_link (x := { s.cli with serving := some r }) rfl rfl).mono (by decide)
  | some st =>
    refine ⟨s.respond r (.bare st), State.running_does State.serveRequest awake ?_, nofun, fun st' same => ?_, ?_⟩
    · simp [State.serveRequest, receiving, idle, oldest, check]
    · cases same
      exact ⟨rfl, (congrArg markServed intake).trans (markServed_oldest r served), rfl⟩
    · simp [State.onlyChanges_iff, Part.same, State.eng, State.sense, State.dutyOf, State.respond, State.setAnswer,
        answerParts]

end

/-- Settles O54: each row of the link by its own lemma, RESPONSE_SENT by `responseSent_sends`. -/
theorem linkReceivesServesAndAnswers : Obligations.LinkReceivesServesAndAnswers := by
  refine ⟨fun s ch awake receiving => ?_, fun s awake receiving => ⟨?_, ?_, ?_, ?_⟩⟩
  · obtain ⟨framing, hunts, length, more, last⟩ := characterReceived_rows awake receiving ch
    refine ⟨framing, hunts, length, more, fun len got body complete => ?_, ?_⟩
    · obtain ⟨t, does, link, frame⟩ := last len got body complete
      exact ⟨t, does, by rw [link], by rw [link], by rw [link], frame⟩
    · exact ⟨s.gapTimeout, State.running_next State.gapTimeout awake, rfl, State.setCli_link rfl rfl⟩
  · exact fun f rest waits => requestFrameComplete_takes awake receiving waits
  · exact fun r pre post idle intake served => serveRequest_serves awake receiving idle intake served
  · intro a rest pre post x queue intake taken waiting
    obtain ⟨does, frame⟩ := responseSent_sends awake queue (.inl receiving)
    refine ⟨_, does, rfl, rfl, ?_, frame⟩
    rw [← freePlace_oldest taken waiting, ← intake]
    rfl
  · intro a rest queue placed
    obtain ⟨does, frame⟩ := responseSent_sends awake queue (.inl receiving)
    exact ⟨_, does, Cli.sentHead_unplaced _ placed, frame⟩

end Sys2Proof.Machine

namespace Sys2Proof.Machine

/-! ## The CRC (R173) -/

theorem wordBytes_eq_be16 (w : Word16) : wordBytes w = be16 w.toNat := by
  have high : w.extractLsb' 8 8 = byte (w.toNat / 256) := by
    apply BitVec.eq_of_toNat_eq
    simp [byte, BitVec.extractLsb'_toNat, Nat.shiftRight_eq_div_pow]
  have low : w.extractLsb' 0 8 = byte w.toNat := by
    apply BitVec.eq_of_toNat_eq
    simp [byte, BitVec.extractLsb'_toNat]
  rw [wordBytes, be16, high, low]

/-- Bit n of a byte, most significant first, taken into the CRC register. -/
def crcTakeBit (b : Byte) (r : Word16) (n : Nat) : Word16 :=
  if r.msb != b.getLsbD (7 - n) then (r <<< 1) ^^^ 0x1021 else r <<< 1

theorem append_zero_shiftLeft (c : Byte) : (c ++ (0 : Byte) : Word16) <<< 1 = (c <<< 1) ++ (0 : Byte) := by
  apply BitVec.eq_of_toNat_eq
  have small := c.isLt
  have wide : ∀ n : Nat, n * 2 ^ 8 ||| 0 = n * 256 := fun n => Nat.or_zero _
  have zero : (0 : Byte).toNat = 0 := rfl
  simp only [BitVec.toNat_shiftLeft, BitVec.toNat_append, Nat.shiftLeft_eq, zero, wide]
  omega

/-- The register of the model holds the bits of the byte not yet taken in its top, over the register that takes them bit by
bit. -/
theorem crcShift_xor (r : Word16) (c : Byte) : crcShift (r ^^^ (c ++ (0 : Byte))) =
    (if r.msb != c.msb then (r <<< 1) ^^^ 0x1021 else r <<< 1) ^^^ ((c <<< 1) ++ (0 : Byte)) := by
  have top : (r ^^^ (c ++ (0 : Byte)) : Word16).msb = (r.msb != c.msb) := by
    rw [BitVec.msb_xor, BitVec.msb_append]
    rfl
  have shifted : (r ^^^ (c ++ (0 : Byte)) : Word16) <<< 1 = (r <<< 1) ^^^ ((c <<< 1) ++ (0 : Byte)) := by
    rw [BitVec.shiftLeft_xor_distrib, append_zero_shiftLeft]
  unfold crcShift
  rw [top, shifted]
  split
  · simp only [BitVec.xor_assoc, BitVec.xor_comm]
  · rfl

theorem repeat_crcShift (r : Word16) (b : Byte) {n : Nat} (small : n ≤ 8) :
    Nat.repeat crcShift n (r ^^^ (b ++ (0 : Byte))) =
      (List.range n).foldl (crcTakeBit b) r ^^^ ((b <<< n) ++ (0 : Byte)) := by
  induction n with
  | zero => simp [Nat.repeat]
  | succ n ih =>
    have next : (b <<< n).msb = b.getLsbD (7 - n) := by
      rw [BitVec.msb_eq_getLsbD_last, BitVec.getLsbD_shiftLeft]
      simp [Nat.not_lt.mpr (show n ≤ 7 by omega)]
    rw [Nat.repeat, ih (by omega), crcShift_xor, next, List.range_succ, List.foldl_append, BitVec.shiftLeft_add]
    rfl

theorem crcByte_eq (r : Word16) (b : Byte) : crcByte r b = (List.range 8).foldl (crcTakeBit b) r := by
  have gone : ((b <<< 8) ++ (0 : Byte) : Word16) = 0 := by
    rw [BitVec.shiftLeft_eq_zero (by simp)]
    rfl
  rw [crcByte, repeat_crcShift r b (Nat.le_refl 8), gone]
  exact BitVec.xor_zero

theorem crcAgrees_iff (body : List Byte) (hi lo : Byte) :
    crcAgrees (body ++ [hi, lo]) = true ↔ [hi, lo] = be16 (crc16 body).toNat := by
  rw [← wordBytes_eq_be16, crcAgrees, decide_eq_true_iff]
  simp [eq_comm]

/-! ## Frames (10.2) -/

theorem requestFrame_eq (r : Request) : requestFrame r = 0xA5 :: requestBody r ++ be16 (crc16 (requestBody r)).toNat := by
  rw [requestFrame, wordBytes_eq_be16]
  rfl

theorem responseFrame_eq (a : Response) :
    responseFrame a = 0x5A :: responseBody a ++ be16 (crc16 (responseBody a)).toNat := by
  rw [responseFrame, wordBytes_eq_be16]
  rfl

theorem Status.code_eq (x : Status) : x.code =
    codeIn 0 [.ok, .clamped, .busy, .badRequest, .badValue, .notPermitted, .unknownHandle, .tableFull, .wrongState,
      .configInvalid] x := by cases x <;> rfl

theorem crcAgrees_requestFrame (r : Request) : crcAgrees (requestFrame r).tail = true := by
  rw [requestFrame_eq]
  exact (crcAgrees_iff _ _ _).mpr rfl

theorem frameRequest_requestFrame (r : Request) : frameRequest (requestFrame r).tail = r := by
  have payload : ((requestFrame r).tail.drop 4).take ((requestFrame r).tail.length - 6) = r.payload := by
    simp [requestFrame, requestBody, wordBytes]
  rw [frameRequest, payload]
  rfl

theorem commandOf_requestOf {c : Instr} {r : Request} (carries : requestOf c = some r) : commandOf r = some c := by
  cases c
  all_goals simp only [requestOf, reduceCtorEq] at carries
  case post c kind scope vp v e =>
    cases carries
    calc _ = some (Instr.post c kind scope vp (wordOf (v.extractLsb' 8 8) (v.extractLsb' 0 8))
            (wordOf (e.extractLsb' 8 8) (e.extractLsb' 0 8))) := rfl
      _ = _ := by rw [Laws.wordOf_bytes, Laws.wordOf_bytes]
  case amend c slot gen vp v e =>
    cases carries
    calc _ = some (Instr.amend c slot gen vp (wordOf (v.extractLsb' 8 8) (v.extractLsb' 0 8))
            (wordOf (e.extractLsb' 8 8) (e.extractLsb' 0 8))) := rfl
      _ = _ := by rw [Laws.wordOf_bytes, Laws.wordOf_bytes]
  all_goals
    cases carries
    rfl

/-! ## The receiver over a frame -/

/-- The characters of some bytes, received without a framing error. -/
def characters (bs : List Byte) : List Instr := bs.map fun b => .characterReceived b false

theorem State.execAll_cons {s t : State} {c : Instr} {cs : List Instr} (does : exec c s = .next t) :
    s.execAll (c :: cs) = t.execAll cs := by
  rw [State.execAll, does]

/-- The bytes after the length byte complete the frame when they are as many as the length calls for. -/
theorem receives_body {len : Nat} {bs got : List Byte} {s : State} (awake : s.awake = true)
    (receiving : s.cli.restarting = false) (body : s.cli.receiver = .body len got) (more : bs ≠ [])
    (complete : got.length + bs.length = len + 5) :
    s.execAll (characters bs) = some (s.setCli { s.cli with
      receiver := .hunt
      completed := if crcAgrees (byte len :: (got ++ bs)) then s.cli.completed ++ [byte len :: (got ++ bs)]
        else s.cli.completed }) := by
  induction bs generalizing s got with
  | nil => exact absurd rfl more
  | cons b rest ih =>
    rw [List.length_cons] at complete
    cases rest with
    | nil =>
      have take : s.cli.receiver.take b false = (.hunt, some (byte len :: (got ++ [b]))) := by
        rw [body]
        exact if_pos (by simpa using complete)
      exact State.execAll_cons (characterReceived_completes awake receiving take)
    | cons b' rest =>
      have take : s.cli.receiver.take b false = (.body len (got ++ [b]), none) := by
        rw [body]
        exact if_neg (by simp at complete ⊢; omega)
      refine (State.execAll_cons (characterReceived_moves awake receiving take)).trans ?_
      have rest := ih (s := s.setCli { s.cli with receiver := .body len (got ++ [b]) }) awake receiving rfl (by simp)
        (by simp at complete ⊢; omega)
      rw [List.append_assoc] at rest
      exact rest

/-- The receiver completes the frame of a request. -/
theorem receives_requestFrame {s : State} {r : Request} (awake : s.awake = true) (receiving : s.cli.restarting = false)
    (hunts : s.cli.receiver = .hunt) (small : r.payload.length ≤ 48) :
    s.execAll (characters (requestFrame r)) = some (s.setCli { s.cli with
      receiver := .hunt
      completed := s.cli.completed ++ [(requestFrame r).tail] }) := by
  have length : (byte r.payload.length).toNat = r.payload.length := by
    rw [byte, BitVec.toNat_ofNat, Nat.mod_eq_of_lt (by omega)]
  have marker : s.cli.receiver.take 0xA5 false = (.length, none) := by
    rw [hunts]
    rfl
  have header : (Receiver.length).take (byte r.payload.length) false = (.body r.payload.length [], none) := by
    rw [Receiver.take, length]
    simp [Config.maxPayload, Nat.not_lt.mpr small]
  have rest := receives_body (len := r.payload.length) (got := []) (bs := (requestFrame r).tail.tail)
    (s := s.setCli { s.cli with receiver := .body r.payload.length [] }) awake receiving rfl (by simp [requestFrame, requestBody])
    (by simp [requestFrame, requestBody, wordBytes])
  have frame : byte r.payload.length :: (requestFrame r).tail.tail = (requestFrame r).tail := rfl
  rw [List.nil_append, frame, if_pos (crcAgrees_requestFrame r)] at rest
  calc s.execAll (characters (requestFrame r))
      = (s.setCli { s.cli with receiver := .length }).execAll (characters (requestFrame r).tail) :=
        State.execAll_cons (characterReceived_moves awake receiving marker)
    _ = (s.setCli { s.cli with receiver := .body r.payload.length [] }).execAll
          (characters (requestFrame r).tail.tail) :=
        State.execAll_cons (characterReceived_moves (s := s.setCli { s.cli with receiver := .length }) awake receiving header)
    _ = _ := rest

/-- Settles O53: the receiver over a frame by `receives_body`, the codec command by command, and the register of the CRC bit
by bit. -/
theorem receiverCompletesRequestFrames : Obligations.ReceiverCompletesRequestFrames := by
  refine ⟨fun s r awake receiving hunts small => ?_, fun c r carries => commandOf_requestOf carries, ?_, ?_, rfl,
    fun body b => ?_, crcAgrees_iff⟩
  · refine ⟨_, receives_requestFrame awake receiving hunts small, ?_, frameRequest_requestFrame r, State.setCli_link rfl rfl⟩
    rw [← hunts]
    rfl
  · rintro r body rfl
    exact requestFrame_eq r
  · rintro a body rfl
    rw [← Status.code_eq]
    exact responseFrame_eq a
  · rw [crc16_append, crcByte_eq]
    rfl

end Sys2Proof.Machine

namespace Sys2Proof.Machine

/-! ## Validation of a section (11.2, R189) -/

/-- The index that the first failing check of a list reports. -/
def firstFailing (checks : List (Bool × Nat)) : Option Nat := (checks.find? fun c => !c.1).map Prod.snd

theorem firstFailing_append (a b : List (Bool × Nat)) : firstFailing (a ++ b) = (firstFailing a).or (firstFailing b) := by
  rw [firstFailing, List.find?_append]
  cases h : a.find? fun c => !c.1 <;> simp [firstFailing, h]

theorem firstFailing_nil : firstFailing [] = none := rfl

theorem firstFailing_cons (ok : Bool) (n : Nat) (b : List (Bool × Nat)) :
    firstFailing ((ok, n) :: b) = (failsAt ok n).or (firstFailing b) := by
  cases ok <;> rfl

theorem firstFailing_rows (ok : Nat → Bool) (index : Nat → Nat) (ns : List Nat) :
    firstFailing (ns.map fun n => (ok n, index n)) = (ns.find? fun n => !ok n).map index := by
  rw [firstFailing, List.find?_map, Option.map_map]
  rfl

/-- The value of an item from its number: the warm threshold is signed. -/
def itemSigned (id : SectionId) (n v : Nat) : Int := if id = .thresholds ∧ n = 5 ∧ 128 ≤ v then (v : Int) - 256 else v

/-- The range check on one item. -/
def itemOk (id : SectionId) (n v : Nat) : Bool :=
  decide (((itemTable id).getD n (0, 0, 0)).2.1 ≤ itemSigned id n v) &&
    decide (itemSigned id n v ≤ ((itemTable id).getD n (0, 0, 0)).2.2) && decide (id = .inputs → n = 2 → v % 10 = 0)

theorem rangeTable_eq (id : SectionId) (items : List Nat) : rangeTable id items =
    (List.range (itemTable id).length).map fun n => (itemOk id n (items.getD n 0), n + 1) := rfl

/-- A range over the integers. -/
def withinInt (lo hi : Int) (v : Nat) : Bool := decide (lo ≤ v) && decide ((v : Int) ≤ hi)

theorem within_eq (lo hi : Nat) : within lo hi = withinInt lo hi := by
  funext v
  simp [within, withinInt]

theorem signedByte_eq {v : Nat} (small : v < 256) : signedByte v = if 128 ≤ v then (v : Int) - 256 else v := by
  have wide : (BitVec.ofNat 8 v).toNat = v := by rw [BitVec.toNat_ofNat, Nat.mod_eq_of_lt small]
  rw [signedByte, BitVec.toInt_eq_toNat_cond, wide]
  split <;> split <;> omega

theorem itemRanges_length (id : SectionId) : (itemRanges id).length = (itemTable id).length := by cases id <;> rfl

/-- The ranges of a section without a signed item and without a multiple. -/
theorem itemRanges_plain {id : SectionId} (unsigned : id ≠ .thresholds) (unrestricted : id ≠ .inputs) :
    itemRanges id = (itemTable id).map fun x => withinInt x.2.1 x.2.2 := by
  cases id
  case thresholds => exact absurd rfl unsigned
  case inputs => exact absurd rfl unrestricted
  all_goals
    simp only [itemRanges, within_eq]
    rfl

theorem itemRanges_ok (id : SectionId) {n : Nat} (item : n < (itemTable id).length) {v : Nat}
    (small : id = .thresholds → n = 5 → v < 256) : (itemRanges id).getD n (fun _ => false) v = itemOk id n v := by
  by_cases thresholds : id = .thresholds
  · subst thresholds
    change n < 16 at item
    by_cases warm : n = 5
    · subst warm
      have value := signedByte_eq (small rfl rfl)
      simp only [itemRanges, itemOk, itemSigned, itemTable]
      simp [value]
    · interval_cases n <;> simp [itemRanges, itemOk, itemSigned, itemTable, within] at warm ⊢
  · by_cases inputs : id = .inputs
    · subst inputs
      change n < 6 at item
      interval_cases n <;> simp [itemRanges, itemOk, itemSigned, itemTable, within]
    · rw [itemRanges_plain thresholds inputs, itemOk, itemSigned, if_neg (by simp [thresholds])]
      simp [List.getD_eq_getElem?_getD, item, withinInt, inputs]

theorem firstOutside_eq (start : Nat) {oks : List (Nat → Bool)} {vs : List Nat} (length : oks.length = vs.length) :
    firstOutside start oks vs = firstFailing
      ((List.range oks.length).map fun n => (oks.getD n (fun _ => false) (vs.getD n 0), n + start)) := by
  induction oks generalizing start vs with
  | nil => rfl
  | cons ok oks ih =>
    cases vs with
    | nil => cases length
    | cons v vs =>
      have shifted : (List.range oks.length).map (fun n => (oks.getD n (fun _ => false) (vs.getD n 0), n + (start + 1))) =
          ((List.range oks.length).map Nat.succ).map fun n =>
            ((ok :: oks).getD n (fun _ => false) ((v :: vs).getD n 0), n + start) := by
        rw [List.map_map]
        refine List.map_congr_left fun n _ => ?_
        rw [Function.comp, Nat.succ_add_eq_add_succ]
        rfl
      rw [firstOutside, ih (start + 1) (Nat.succ.inj length), shifted, List.length_cons, List.range_succ_eq_map,
        List.map_cons, firstFailing_cons, Nat.zero_add]
      cases h : ok v <;> simp [failsAt, h]

theorem readItems_length (ws : List Nat) (bs : List Byte) : (readItems ws bs).length = ws.length := by
  induction ws generalizing bs with
  | nil => rfl
  | cons w ws ih => rw [readItems, List.length_cons, ih, List.length_cons]

theorem ofBytes_one (bs : List Byte) : ofBytes (bs.take 1) < 256 := by
  cases bs with
  | nil => decide
  | cons b bs =>
    have small := b.isLt
    simpa [ofBytes] using small

/-- The range checks of the model are the range checks of the table. -/
theorem firstOutside_items (id : SectionId) (contents : List Byte) :
    firstOutside 1 (itemRanges id) (readItems (itemWidths id) contents) =
      firstFailing (rangeTable id (readItems (itemWidths id) contents)) := by
  have length : (itemRanges id).length = (readItems (itemWidths id) contents).length := by
    rw [readItems_length]
    cases id <;> rfl
  rw [firstOutside_eq 1 length, rangeTable_eq, itemRanges_length]
  refine congrArg firstFailing (List.map_congr_left fun n mem => ?_)
  rw [itemRanges_ok id (List.mem_range.mp mem)]
  rintro rfl rfl
  exact ofBytes_one _

/-! ## Cross-checks (R189) -/

theorem findSome_cons (x : Option Nat) (xs : List (Option Nat)) :
    (x :: xs).findSome? (fun x => x) = x.or (xs.findSome? fun x => x) := by
  cases x <;> rfl

/-- The cross-checks of the model are those of the table, in its order. -/
theorem crossChecks_eq (id : SectionId) (im : Image) :
    (crossChecks id im).findSome? (fun x => x) = firstFailing (crossTable id im) := by
  cases id
  case origins =>
    have named : (im.origins.roles.any fun r => decide (r = .supervisor)) = decide (.supervisor ∈ im.origins.roles) := by
      rw [Bool.eq_iff_iff]
      simp
    rw [crossChecks, crossTable, named, firstFailing_cons, findSome_cons]
    rfl
  case timing | arbiter | inputs => rfl
  all_goals
    simp only [crossChecks, crossTable, firstFailing_append, firstFailing_cons, firstFailing_rows, findSome_cons, firstRow,
      Option.or_assoc, List.findSome?_nil, firstFailing_nil, Option.or_none]
    rfl

theorem refusedIndex_eq (working : Image) (id : SectionId) (contents : List Byte) : refusedIndex working id contents =
    firstFailing (rangeTable id (readItems (itemWidths id) contents) ++
      crossTable id (working.put (decodeSection id contents))) := by
  rw [firstFailing_append, ← firstOutside_items, ← crossChecks_eq]
  unfold refusedIndex
  dsimp only
  cases firstOutside 1 (itemRanges id) (readItems (itemWidths id) contents) <;> rfl

/-! ## A section read back (11.2) -/

/-- Some items as they are sent. -/
def encodeItems : List Nat → List Nat → List Byte
  | w :: ws, v :: vs => (if w = 1 then [byte v] else be16 v) ++ encodeItems ws vs
  | _, _ => []

theorem byte_toNat (b : Byte) : byte b.toNat = b := by rw [byte, BitVec.ofNat_toNat, BitVec.setWidth_eq]

theorem be16_ofBytes (hi lo : Byte) : be16 (256 * hi.toNat + lo.toNat) = [hi, lo] := by
  have high := hi.isLt
  have low := lo.isLt
  have top : byte ((256 * hi.toNat + lo.toNat) / 256) = hi := by
    rw [show (256 * hi.toNat + lo.toNat) / 256 = hi.toNat by omega, byte_toNat]
  have bottom : byte (256 * hi.toNat + lo.toNat) = lo := by
    apply BitVec.eq_of_toNat_eq
    rw [byte, BitVec.toNat_ofNat]
    omega
  rw [be16, top, bottom]

theorem readItems_one (a : Byte) (ws : List Nat) (bs : List Byte) :
    readItems (1 :: ws) (a :: bs) = a.toNat :: readItems ws bs := by
  simp [readItems, ofBytes]

theorem readItems_two (a b : Byte) (ws : List Nat) (bs : List Byte) :
    readItems (2 :: ws) (a :: b :: bs) = (256 * a.toNat + b.toNat) :: readItems ws bs := by
  simp [readItems, ofBytes, Nat.mul_comm]

theorem encodeItems_readItems {ws : List Nat} (widths : ∀ w ∈ ws, w = 1 ∨ w = 2) {bs : List Byte}
    (length : bs.length = ws.sum) : encodeItems ws (readItems ws bs) = bs := by
  induction ws generalizing bs with
  | nil => exact (List.eq_nil_of_length_eq_zero length).symm
  | cons w ws ih =>
    have rest := fun {bs} => @ih (fun w mem => widths w (List.mem_cons_of_mem _ mem)) bs
    rw [List.sum_cons] at length
    obtain rfl | rfl := widths w List.mem_cons_self
    · obtain _ | ⟨a, bs⟩ := bs
      · simp at length; omega
      · rw [readItems_one, encodeItems, if_pos rfl, byte_toNat, rest (by simp at length; omega)]
        rfl
    · obtain _ | ⟨a, _ | ⟨b, bs⟩⟩ := bs
      · simp at length; omega
      · simp at length; omega
      · rw [readItems_two, encodeItems, if_neg (by decide), be16_ofBytes, rest (by simp at length; omega)]
        rfl

theorem itemWidths_sum (id : SectionId) : (itemWidths id).sum = sectionLength id := by cases id <;> rfl

theorem itemWidths_mem (id : SectionId) : ∀ w ∈ itemWidths id, w = 1 ∨ w = 2 := by cases id <;> decide

theorem list_eq_map_getD {l : List Nat} {n : Nat} (length : l.length = n) :
    l = (List.range n).map fun i => l.getD i 0 := by
  subst length
  refine List.ext_getElem (by simp) fun i here _ => ?_
  simp [here]

theorem ofInt_signedByte (n : Nat) : BitVec.ofInt 8 (signedByte n) = byte n := BitVec.ofInt_toInt

/-- THRESHOLDS as sent, from the number that its signed byte carries. -/
theorem Thresholds.bytes_of_warm {t : Thresholds} {w : Nat} (warm : BitVec.ofInt 8 t.warm = byte w) : t.bytes =
    be16 t.fireSpeed ++ [byte t.idleBand, byte t.stopped] ++ be16 t.overspeed ++
      [byte t.cooldownNotch, byte w, byte t.hot, byte t.overheat, byte t.warmupCeiling, byte t.hotCeiling,
        byte t.degradedCeiling, byte t.lockoutCount] ++
      be16 t.startThreshold ++ [byte t.hysteresis] ++ be16 t.sagFloor ++ [byte t.batteryFilter] := by
  rw [Thresholds.bytes, warm]

theorem rank_roleOf {n : Nat} (small : n ≤ 3) : (roleOf n).rank = n := by
  interval_cases n <;> rfl

/-- A section that items within their ranges make is sent as those items. -/
theorem contents_put (working : Image) (id : SectionId) (x : Nat → Nat)
    (codes : id = .arbiter → x 0 ≤ 1 ∧ x 1 ≤ 1) (source : id = .inputs → x 5 ≤ 1)
    (roles : id = .origins → ∀ n < 16, x n ≤ 3) :
    (working.put (sectionData id ((List.range (itemWidths id).length).map x))).contents id =
      encodeItems (itemWidths id) ((List.range (itemWidths id).length).map x) := by
  cases id
  case thresholds => exact Thresholds.bytes_of_warm (ofInt_signedByte (x 5))
  case arbiter =>
    obtain ⟨sharing, park⟩ := codes rfl
    have shared : (if x 0 = 1 then Sharing.shared else .exclusive).code = byte (x 0) := by
      interval_cases x 0 <;> rfl
    have parked : bit (decide (x 1 = 1)) = byte (x 1) := by interval_cases x 1 <;> rfl
    change [(if x 0 = 1 then Sharing.shared else .exclusive).code, bit (decide (x 1 = 1))] ++ be16 (x 2) ++ be16 (x 3) = _
    rw [shared, parked]
    rfl
  case inputs =>
    have link := source rfl
    have linked : (if x 5 = 1 then Source.link else .trainline).code = byte (x 5) := by interval_cases x 5 <;> rfl
    change [byte (x 0), byte (x 1)] ++ be16 (x 2) ++ be16 (x 3) ++
      [byte (x 4), (if x 5 = 1 then Source.link else .trainline).code] = _
    rw [linked]
    rfl
  case origins =>
    have roleAt : ∀ n ∈ List.range 16,
        byte ((((List.range 16).map x).map roleOf).getD n .none).rank = byte (x n) := by
      intro n mem
      have small := List.mem_range.mp mem
      rw [← rank_roleOf (roles rfl n small)]
      simp [small]
    exact List.map_congr_left roleAt
  all_goals rfl

theorem firstFailing_none {checks : List (Bool × Nat)} (passes : firstFailing checks = none) {c : Bool × Nat}
    (mem : c ∈ checks) : c.1 = true := by
  have all := List.find?_eq_none.mp (Option.map_eq_none_iff.mp passes) c mem
  simpa using all

theorem itemOk_of_passes {id : SectionId} {items : List Nat} (passes : firstFailing (rangeTable id items) = none) {n : Nat}
    (item : n < (itemTable id).length) : itemOk id n (items.getD n 0) = true :=
  firstFailing_none passes (c := (itemOk id n (items.getD n 0), n + 1))
    (List.mem_map.mpr ⟨n, List.mem_range.mpr item, rfl⟩)

/-- A section that passes its checks reads back as it was written. -/
theorem contents_readBack {working : Image} {id : SectionId} {contents : List Byte}
    (length : contents.length = sectionLength id) (passes : refusedIndex working id contents = none) :
    (working.put (decodeSection id contents)).contents id = contents := by
  have items := list_eq_map_getD (readItems_length (itemWidths id) contents)
  rw [refusedIndex_eq, firstFailing_append, Option.or_eq_none_iff] at passes
  have ok := fun {n} => @itemOk_of_passes id _ passes.1 n
  generalize given : readItems (itemWidths id) contents = values at *
  have sent := contents_put working id (fun i => values.getD i 0) ?codes ?source ?roles
  · rw [← items, ← given, encodeItems_readItems (itemWidths_mem id) (length.trans (itemWidths_sum id).symm)] at sent
    exact sent
  case codes =>
    rintro rfl
    have first := ok (n := 0) (by decide)
    have second := ok (n := 1) (by decide)
    simp [itemOk, itemTable, itemSigned] at first second
    exact ⟨first, second⟩
  case source =>
    rintro rfl
    have last := ok (n := 5) (by decide)
    simp [itemOk, itemTable, itemSigned] at last
    exact last
  case roles =>
    rintro rfl n small
    have role := ok (n := n) small
    have range : ∀ n < 16, (itemTable .origins).getD n (0, 0, 0) = (1, 0, 3) := by decide
    rw [itemOk, range n small] at role
    simpa [itemSigned] using role

theorem contents_put_other (working : Image) {id other : SectionId} (different : other ≠ id) (contents : List Byte) :
    (working.put (decodeSection id contents)).contents other = working.contents other := by
  cases id <;> cases other <;> trivial

theorem contents_length (im : Image) (id : SectionId) : (im.contents id).length = sectionLength id := by
  cases id <;> rfl

/-! ## READ_CONFIG and WRITE_CONFIG (R189 to R191) -/

theorem readConfig_reads {s : State} {c : Caller} {sec : Byte} {id : SectionId} (names : sectionOf sec = some id)
    (taken : s.takes (.readConfig c sec) = true) : ∃ t, exec (.readConfig c sec) s = .next t ∧
      s.answers t (.readConfig c sec) .ok (s.cfs.working.contents id) ∧
      (s.cfs.working.contents id).length = sectionLength id ∧ s.onlyChanges t answerParts := by
  have own : s.readConfig sec = (s, ⟨.ok, s.cfs.working.contents id⟩) := by rw [State.readConfig, names]
  obtain ⟨answers, frame⟩ := State.served_idle (owner := fun t => t.readConfig sec) taken own
  exact ⟨_, rfl, answers, contents_length _ id, frame⟩

theorem State.writeConfig_eq {s : State} {sec : Byte} {id : SectionId} (names : sectionOf sec = some id)
    (contents : List Byte) :
    (s.writing = true → s.writeConfig sec contents = (s, .bare .busy)) ∧
    (s.writing = false → (∃ k, s.fitted k = true ∧ (s.eng k).state.resting = false) →
      s.writeConfig sec contents = (s, .bare .wrongState)) ∧
    (s.writing = false → (∀ k, s.fitted k = true → (s.eng k).state.resting = true) → s.writeConfig sec contents =
      match refusedIndex s.cfs.working id contents with
      | some n => (s, ⟨.badValue, [byte n]⟩)
      | none =>
        ((s.setCfs { s.cfs with write := some (decodeSection id contents) }).emit (.replan .write), .bare .ok)) := by
  unfold State.writeConfig
  rw [names]
  refine ⟨fun writing => if_pos writing, fun quiet ⟨k, fitted, moving⟩ => ?_, fun quiet rests => ?_⟩
  · have notAll : s.allResting = false :=
      Bool.eq_false_iff.mpr fun all => by simp [s.allResting_iff.mp all k fitted] at moving
    exact (if_neg (by simp [quiet])).trans (if_pos (by simp [notAll]))
  · exact (if_neg (by simp [quiet])).trans (if_neg (by simp [s.allResting_iff.mpr rests]))

theorem State.writeBegun_onlyChanges (s : State) (x : Cfs) (e : Event) :
    s.onlyChanges ((s.setCfs x).emit e) [.cfs, .handed] := by
  simp [State.onlyChanges_iff, Part.same, State.eng, State.sense, State.dutyOf]

/-- Settles O58: the validation of the model is that of the tables, a section that passes is read back item by item, and the
requests are taken by `State.writeConfig_eq`. -/
theorem configReadAndWriteBegin : Obligations.ConfigReadAndWriteBegin := by
  refine ⟨fun s c sec contents id names => ⟨readConfig_reads names, fun taken => ?_⟩,
    fun working id contents items length read => ?_, fun id => by cases id <;> rfl,
    fun a b ws bs => ⟨rfl, readItems_one a ws bs, readItems_two a b ws bs⟩⟩
  · obtain ⟨writing, moving, rests⟩ := State.writeConfig_eq (s := s) names contents
    refine ⟨fun write => ?_, fun quiet turns => ?_, fun quiet still => ⟨fun n bad => ?_, fun passes => ?_⟩⟩
    · exact ⟨_, rfl, State.served_idle (owner := fun t => t.writeConfig sec contents) taken (writing write)⟩
    · exact ⟨_, rfl, State.served_idle (owner := fun t => t.writeConfig sec contents) taken (moving quiet turns)⟩
    · have own := rests quiet still
      rw [bad] at own
      exact ⟨_, rfl, State.served_idle (owner := fun t => t.writeConfig sec contents) taken own⟩
    · have own := rests quiet still
      rw [passes] at own
      obtain ⟨answers, frame, answered⟩ := State.served (owner := fun t => t.writeConfig sec contents) taken own
        (s.writeBegun_onlyChanges _ _) (by decide)
      exact ⟨_, rfl, answers, answered .cfs (by decide), answered .handed (by decide), frame⟩
  · subst read
    exact ⟨refusedIndex_eq working id contents, fun passes =>
      ⟨contents_readBack length passes, fun other different => contents_put_other working different contents⟩⟩

end Sys2Proof.Machine

namespace Sys2Proof.Machine

/-! ## The entries at an apply (R35, R36) -/

theorem State.slotAt_appliedTable (s : State) (n : Nat) : slotAt s.appliedTable n =
    { slotAt s.table n with entry := (slotAt s.table n).entry.bind s.applyEntry } := by
  simp only [slotAt, State.appliedTable, List.getD_eq_getElem?_getD, List.getElem?_map]
  cases s.table[n]? <;> rfl

theorem Slot.bind_free {x : Slot} (free : x.entry = none) (f : Entry → Option Entry) :
    { x with entry := x.entry.bind f } = x := by
  cases x
  cases free
  rfl

theorem Slot.bind_live {x : Slot} {e : Entry} (live : x = ⟨x.gen, some e⟩) (f : Entry → Option Entry) :
    { x with entry := x.entry.bind f } = ⟨x.gen, f e⟩ := by
  rw [live]
  rfl

section

variable {s : State} {e : Entry} {set : PerEngine Bool} {k : Engine}

theorem State.noEngine_keepFitted (gone : ∀ k, set.get k = true → s.fitted k = false) :
    noEngine (s.keepFitted set) = true := by
  refine (noEngine_iff _).mpr fun k => ?_
  rw [State.keepFitted, PerEngine.get_of]
  cases named : set.get k
  · rfl
  · exact gone k named

theorem State.noEngine_keepFitted_some (named : set.get k = true) (fitted : s.fitted k = true) :
    ¬ noEngine (s.keepFitted set) = true := by
  intro none
  have absent := (noEngine_iff _).mp none k
  simp [State.keepFitted, named, fitted] at absent

theorem State.applyEntry_batteryLow (owner : e.owner = .internal .batteryLow) :
    s.applyEntry e = some { e with scope := .engines s.fittedSet } := by
  rw [State.applyEntry, owner]

theorem State.applyEntry_internal {x : Condition} (owner : e.owner = .internal x) (other : x ≠ .batteryLow)
    (scope : e.scope = .engines set) : s.applyEntry e =
      if noEngine (s.keepFitted set) then none else some { e with value := (s.internalEntry x .e1).value } := by
  unfold State.applyEntry
  rw [owner, scope]
  cases x
  case batteryLow => exact absurd rfl other
  all_goals rfl

theorem State.applyEntry_external {o : Byte} (owner : e.owner = .external o) (scope : e.scope = .engines set) :
    s.applyEntry e = if noEngine (s.keepFitted set) then none else some { e with scope := .engines (s.keepFitted set) } := by
  unfold State.applyEntry
  rw [owner, scope]

theorem State.applyEntry_locomotive {o : Byte} (owner : e.owner = .external o) (scope : e.scope = .locomotive) :
    s.applyEntry e = some e := by
  unfold State.applyEntry
  rw [owner, scope]

theorem State.applyEntry_congr {t : State} (cfs : t.cfs = s.cfs) : t.applyEntry = s.applyEntry := by
  have cfg := State.cfg_congr cfs
  have fitted := State.fitted_congr cfs
  have kept : t.keepFitted = s.keepFitted := by
    funext set
    simp only [State.keepFitted, fitted]
  have set : t.fittedSet = s.fittedSet := by simp only [State.fittedSet, fitted]
  have internal (x : Condition) : t.internalEntry x .e1 = s.internalEntry x .e1 := by
    simp only [State.internalEntry, cfg, set]
  funext e
  simp only [State.applyEntry, kept, set, internal]

end

/-! ## The lockout test at an apply (R169) -/

section

variable (s : State)

theorem State.lockoutTest_slot_kept (j : Engine) {n : Nat}
    (kept : n ≠ internalSlot .lockout j ∨ (slotAt s.table n).live = true) :
    slotAt (s.lockoutTest j).table n = slotAt s.table n := by
  unfold State.lockoutTest
  split
  · rw [State.postInternal_slot, if_neg]
    rintro ⟨rfl, -, -, free⟩
    obtain other | live := kept
    · exact other rfl
    · rw [State.stands, live] at free
      cases free
  · rfl

theorem State.foldl_lockoutTest_slot (ks : List Engine) {n : Nat}
    (kept : (∀ k ∈ ks, n ≠ internalSlot .lockout k) ∨ (slotAt s.table n).live = true) :
    slotAt (ks.foldl (fun t k => t.lockoutTest k) s).table n = slotAt s.table n := by
  induction ks generalizing s with
  | nil => rfl
  | cons j ks ih =>
    have head := s.lockoutTest_slot_kept j (kept.imp (fun all => all j List.mem_cons_self) id)
    rw [List.foldl_cons, ih, head]
    rw [head]
    exact kept.imp (fun all k mem => all k (List.mem_cons_of_mem _ mem)) id

theorem State.foldl_lockoutTest_keeps (ks : List Engine) :
    (ks.foldl (fun t k => t.lockoutTest k) s).dct = s.dct ∧ (ks.foldl (fun t k => t.lockoutTest k) s).cfs = s.cfs := by
  induction ks generalizing s with
  | nil => exact ⟨rfl, rfl⟩
  | cons j ks ih =>
    obtain ⟨dct, cfs⟩ := ih (s.lockoutTest j)
    exact ⟨dct.trans (by simp), cfs.trans (by simp)⟩

/-- The LOCKOUT slot of an engine, FREE before its lockout test. -/
def State.lockoutSlot (s : State) (k : Engine) : Slot :=
  if s.cfg.thresholds.lockoutCount ≤ (s.dutyOf k).stored.consecutive then
    ⟨nextGen (slotAt s.table (internalSlot .lockout k)).gen, some (s.internalEntry .lockout k)⟩
  else slotAt s.table (internalSlot .lockout k)

theorem State.lockoutTest_lockoutSlot {k : Engine} (full : s.table.length = Config.slots) (fitted : s.fitted k = true)
    (free : s.stands .lockout k = false) :
    slotAt (s.lockoutTest k).table (internalSlot .lockout k) = s.lockoutSlot k := by
  unfold State.lockoutTest State.lockoutSlot
  split
  · rw [State.postInternal_slot, if_pos ⟨rfl, full ▸ internalSlot_lt .lockout k, fitted, free⟩]
  · rfl

theorem State.lockoutSlot_after (j : Engine) {k : Engine} (other : k ≠ j) :
    (s.lockoutTest j).lockoutSlot k = s.lockoutSlot k := by
  have cfg : (s.lockoutTest j).cfg = s.cfg := State.cfg_congr (by simp)
  have duty : (s.lockoutTest j).dutyOf k = s.dutyOf k := by simp [State.dutyOf]
  have slot := s.lockoutTest_slot_kept j (n := internalSlot .lockout k)
    (.inl fun same => other (internalSlot_inj (by simp) same).2)
  simp only [State.lockoutSlot, State.internalEntry, cfg, duty, slot]

theorem State.foldl_lockoutTest_posts {ks : List Engine} (once : ks.Nodup) {k : Engine} (mem : k ∈ ks)
    (full : s.table.length = Config.slots) (fitted : s.fitted k = true) (free : s.stands .lockout k = false) :
    slotAt (ks.foldl (fun t k => t.lockoutTest k) s).table (internalSlot .lockout k) = s.lockoutSlot k := by
  induction ks generalizing s with
  | nil => cases mem
  | cons j ks ih =>
    obtain ⟨absent, once⟩ := List.nodup_cons.mp once
    rw [List.foldl_cons]
    by_cases same : k = j
    · subst same
      rw [State.foldl_lockoutTest_slot, s.lockoutTest_lockoutSlot full fitted free]
      exact .inl fun j mem same => absent ((internalSlot_inj (by simp) same).2 ▸ mem)
    · have slot := s.lockoutTest_slot_kept j (n := internalSlot .lockout k)
        (.inl fun h => same (internalSlot_inj (by simp) h).2)
      rw [ih (s.lockoutTest j) once ((List.mem_cons.mp mem).resolve_left same) ((s.lockoutTest_length j).trans full)
        (by rw [State.fitted_congr (t := s.lockoutTest j) (s := s) (by simp)]; exact fitted) (by rw [State.stands, slot]; exact free),
        s.lockoutSlot_after j same]

/-! ## Table, limits and counters after an apply -/

variable (old : Image)

/-- The counters at an apply, before the lockout test. -/
def State.appliedCounters (s : State) (old : Image) : State :=
  let b := (s.appliedBlocks old).changeTable (s.appliedBlocks old).appliedTable
  b.setDct { b.dct with
      queue := b.dct.queue.filter b.fitted
      duty := .of fun k =>
        if s.refits old k then (if b.fitted k then (b.dct.store.get k).load k else .begin .zero false) else b.dutyOf k }

theorem State.appliedTables_eq : s.appliedTables old =
    (s.appliedCounters old).fittedEngines.foldl (fun t k => t.lockoutTest k) (s.appliedCounters old) := rfl

theorem State.appliedCounters_cfs : (s.appliedCounters old).cfs = s.cfs := by
  simp [State.appliedCounters, State.appliedBlocks]

theorem State.appliedCounters_slot (n : Nat) : slotAt (s.appliedCounters old).table n =
    { slotAt s.table n with entry := (slotAt s.table n).entry.bind s.applyEntry } := by
  have table := ((s.appliedBlocks old).changeTable_spec (s.appliedBlocks old).appliedTable).1
  obtain ⟨cfs, same, -⟩ := s.appliedBlocks_keeps old
  rw [State.appliedCounters, State.setDct_table, table, State.slotAt_appliedTable, same, State.applyEntry_congr cfs]

theorem State.appliedCounters_length : (s.appliedCounters old).table.length = s.table.length := by
  have table := ((s.appliedBlocks old).changeTable_spec (s.appliedBlocks old).appliedTable).1
  rw [State.appliedCounters, State.setDct_table, table, State.appliedTable, List.length_map,
    (s.appliedBlocks_keeps old).2.1]

theorem State.appliedTables_limits : (s.appliedTables old).limits = resolve (s.appliedTables old).table := by
  rw [State.appliedTables_eq]
  have resolved : (s.appliedCounters old).limits = resolve (s.appliedCounters old).table := by
    rw [State.appliedCounters, State.setDct_limits, State.setDct_table]
    exact State.changeTable_limits (s.appliedBlocks old) _
  generalize s.appliedCounters old = t at *
  generalize t.fittedEngines = ks
  induction ks generalizing t with
  | nil => exact resolved
  | cons k ks ih => exact ih _ (State.lockoutTest_limits k resolved)

/-- A slot no lockout test posts into: its entry is brought in line, its generation kept. -/
theorem State.appliedTables_slot {n : Nat}
    (kept : (∀ k, s.fitted k = true → n ≠ internalSlot .lockout k) ∨
      ((slotAt s.table n).entry.bind s.applyEntry).isSome = true) :
    slotAt (s.appliedTables old).table n =
      { slotAt s.table n with entry := (slotAt s.table n).entry.bind s.applyEntry } := by
  rw [State.appliedTables_eq, State.foldl_lockoutTest_slot, State.appliedCounters_slot]
  obtain elsewhere | live := kept
  · refine .inl fun k mem => elsewhere k ?_
    rw [← State.fitted_congr (s.appliedCounters_cfs old)]
    exact (State.mem_fittedEngines _ _).mp mem
  · refine .inr ?_
    rw [State.appliedCounters_slot]
    exact live

theorem State.appliedTables_dct : (s.appliedTables old).dct = (s.appliedCounters old).dct := by
  rw [State.appliedTables_eq, (State.foldl_lockoutTest_keeps _ _).1]

theorem State.appliedTables_cfs : (s.appliedTables old).cfs = s.cfs := by
  rw [State.appliedTables_eq, (State.foldl_lockoutTest_keeps _ _).2, s.appliedCounters_cfs old]

/-- The LOCKOUT slot of a fitted engine, FREE before the apply: posted where the count in force calls for it. -/
theorem State.appliedTables_lockoutSlot {k : Engine} (full : s.table.length = Config.slots) (fitted : s.fitted k = true)
    (free : s.stands .lockout k = false) :
    slotAt (s.appliedTables old).table (internalSlot .lockout k) =
      if s.cfg.thresholds.lockoutCount ≤ ((s.appliedTables old).dutyOf k).stored.consecutive then
        ⟨nextGen (slotAt s.table (internalSlot .lockout k)).gen, some (s.internalEntry .lockout k)⟩
      else slotAt s.table (internalSlot .lockout k) := by
  have empty : (slotAt s.table (internalSlot .lockout k)).entry = none := by simpa [State.stands, Slot.live] using free
  have same : slotAt (s.appliedCounters old).table (internalSlot .lockout k) = slotAt s.table (internalSlot .lockout k) := by
    rw [State.appliedCounters_slot, Slot.bind_free empty]
  have cfg := State.cfg_congr (s.appliedCounters_cfs old)
  have fitted' : (s.appliedCounters old).fitted k = true := by
    rw [State.fitted_congr (s.appliedCounters_cfs old)]
    exact fitted
  have duty : (s.appliedTables old).dutyOf k = (s.appliedCounters old).dutyOf k := by
    rw [State.dutyOf, s.appliedTables_dct old]
    rfl
  rw [duty, State.appliedTables_eq, State.foldl_lockoutTest_posts, State.lockoutSlot, cfg, same]
  · rfl
  · exact List.Nodup.filter _ (by decide)
  · exact (State.mem_fittedEngines _ _).mpr fitted'
  · rw [State.appliedCounters_length, full]
  · exact fitted'
  · rw [State.stands, same]
    exact free

end

end Sys2Proof.Machine

namespace Sys2Proof.Machine

/-! ## Level changes handed: no operation of the sequencer, the table or the arbiter hands one (R4) -/

/-- Every level change of the second list is in the first. -/
def levelsFrom (a b : List Event) : Prop := ∀ i x l, .level i x l ∈ b → .level i x l ∈ a

theorem levelsFrom.trans {a b c : List Event} (h : levelsFrom a b) (h' : levelsFrom b c) : levelsFrom a c :=
  fun i x l mem => h i x l (h' i x l mem)

theorem levelsFrom_of_subset {a b : List Event} (h : b ⊆ a) : levelsFrom a b := fun _ _ _ mem => h mem

theorem levelsFrom_append {a new : List Event} (other : ∀ e ∈ new, ∀ i x l, e ≠ .level i x l) :
    levelsFrom a (a ++ new) := fun i x l mem =>
  (List.mem_append.mp mem).resolve_right fun added => other _ added i x l rfl

section

variable (s : State) (k : Engine)

theorem State.changeTable_levels (t : List Slot) : levelsFrom s.handed (s.changeTable t).handed := by
  obtain ⟨-, -, new, handed, limits⟩ := s.changeTable_spec t
  rw [handed]
  refine levelsFrom_append fun e mem i x l same => ?_
  obtain ⟨b, p, q, rfl⟩ := limits e mem
  cases same

theorem State.retireInternal_levels (c : Condition) : levelsFrom s.handed (s.retireInternal c k).handed := by
  unfold State.retireInternal
  split
  · exact s.changeTable_levels _
  · exact levelsFrom_of_subset (List.Subset.refl _)

theorem State.lockoutTest_levels : levelsFrom s.handed (s.lockoutTest k).handed := by
  unfold State.lockoutTest State.postInternal
  split
  · split
    · exact s.changeTable_levels _
    · exact levelsFrom_of_subset (List.Subset.refl _)
  · exact levelsFrom_of_subset (List.Subset.refl _)

theorem State.decideGrant_levels : levelsFrom s.handed s.decideGrant.handed := by
  obtain ⟨same, -⟩ | ⟨k, -, -, -, -, handed⟩ := s.decideGrant_cases
  · rw [same]
    exact levelsFrom_of_subset (List.Subset.refl _)
  · rw [handed]
    exact (levelsFrom_of_subset (List.filter_subset_self _)).trans (levelsFrom_append (by simp))

theorem State.releaseUsed_levels : levelsFrom s.handed (s.releaseUsed k).handed := by
  unfold State.releaseUsed
  split
  · dsimp only
    split
    · rw [State.setPhase_handed, State.setCar_handed, State.giveUpIfWithdrawn_handed, State.setPhase_handed,
        State.setCar_handed, List.append_assoc]
      exact levelsFrom_append (by simp)
    · rw [State.giveUpIfWithdrawn_handed, State.setPhase_handed, State.setCar_handed]
      exact levelsFrom_append (by simp)
  · exact levelsFrom_of_subset (List.Subset.refl _)

theorem State.arbiterOnChange_levels (old new : EState) :
    levelsFrom s.handed (s.arbiterOnChange k old new).handed := by
  have left (c : Prop) [Decidable c] : (if c then s.leave k else s).handed = s.handed := by
    split
    · exact s.leave_handed k
    · rfl
  have released (c : Prop) [Decidable c] (u : State) : levelsFrom u.handed (if c then u.releaseUsed k else u).handed := by
    split
    · exact u.releaseUsed_levels k
    · exact levelsFrom_of_subset (List.Subset.refl _)
  have joined (c : Prop) [Decidable c] (u : State) : (if c then u.join k else u).handed = u.handed := by
    split
    · exact u.join_handed k
    · rfl
  have granted (c : Prop) [Decidable c] (u : State) : levelsFrom u.handed (if c then u.decideGrant else u).handed := by
    split
    · exact u.decideGrant_levels
    · exact levelsFrom_of_subset (List.Subset.refl _)
  unfold State.arbiterOnChange
  refine levelsFrom.trans ?_ (granted _ _)
  rw [State.formWish_handed, joined]
  refine levelsFrom.trans ?_ (released _ _)
  rw [left]
  exact levelsFrom_of_subset (List.Subset.refl _)

theorem State.enter_levels (new : EState) (c : List CountedEvent) (f : EngineRec → EngineRec) :
    levelsFrom s.handed (s.enter k new c f).handed := by
  unfold State.enter
  refine levelsFrom.trans ?_ (State.arbiterOnChange_levels _ _ _ _)
  have handed : levelsFrom s.handed
      (((s.setEng k { f (s.eng k) with state := new }).flagChanged k).emitAll
        (.replan (.engine ((s.eng k).inO != EngineRec.inO { f (s.eng k) with state := new })) ::
          if c.isEmpty then [] else [.counted k c])).handed := by
    refine levelsFrom_append fun e mem i x l same => ?_
    subst same
    split at mem <;> simp at mem
  split
  · exact handed.trans (State.retireInternal_levels _ _ _)
  · exact handed

theorem State.toPrelube_flags (reason : StartReason) :
    (∀ j, j ≠ k → (s.toPrelube k reason).cli.notices.changed.get j = s.cli.notices.changed.get j) ∧
      levelsFrom s.handed (s.toPrelube k reason).handed := by
  have entered := s.enter_notices k .prelube [] fun r => r.starting reason s.cfg.timing.attempts
  have levels := s.enter_levels k .prelube [] fun r => r.starting reason s.cfg.timing.attempts
  unfold State.toPrelube
  generalize s.enter k .prelube [] _ = t at *
  refine ⟨fun j other => ?_, levels⟩
  change t.cli.notices.changed.get j = _
  rw [entered]
  exact PerEngine.get_set_other _ _ _ _ other

/-- A start flags its engine alone and hands on no level change. -/
theorem State.admitStart_flags (reason : StartReason) :
    (∀ j, j ≠ k → (s.admitStart k reason).cli.notices.changed.get j = s.cli.notices.changed.get j) ∧
      levelsFrom s.handed (s.admitStart k reason).handed := by
  obtain ⟨flags, levels⟩ := s.toPrelube_flags k reason
  rw [State.admitStart_eq]
  generalize s.toPrelube k reason = t at *
  split
  · unfold State.prelubeStep
    split
    · refine ⟨fun j other => ?_, ?_⟩
      · rw [← flags j other, State.hold]
        exact PerEngine.get_set_other _ _ _ _ other
      · rw [(t.hold_changes k).2.2.2.2 .handed (by simp)]
        exact levels
    · refine ⟨fun j other => ?_, levels.trans (t.enter_levels k .crankWait [] _)⟩
      rw [← flags j other, State.enterCrankWait, t.enter_notices]
      exact PerEngine.get_set_other _ _ _ _ other
  · exact ⟨flags, levels⟩

theorem State.runDemandStart_flags :
    (∀ j, j ≠ k → (s.runDemandStart k).cli.notices.changed.get j = s.cli.notices.changed.get j) ∧
      levelsFrom s.handed (s.runDemandStart k).handed := by
  unfold State.runDemandStart State.takeStart
  split
  · split
    · exact s.admitStart_flags k _
    · exact ⟨fun _ _ => rfl, levelsFrom_of_subset (List.Subset.refl _)⟩
  · exact ⟨fun _ _ => rfl, levelsFrom_of_subset (List.Subset.refl _)⟩

end

/-! ## A run demand in force offered to every engine in turn (R72) -/

/-- The parts that starts of some engines may change. -/
def startParts : List Part :=
  [.sense .e1, .sense .e2, .sense .e3, .sense .e4, .engine .e1, .engine .e2, .engine .e3, .engine .e4, .car, .notices,
    .handed]

section

variable (s : State)

theorem State.runDemandStart_frame (k : Engine) : s.onlyChanges (s.runDemandStart k) startParts :=
  (s.runDemandStart_onlyChanges k).mono (by cases k <;> decide)

/-- The run demand offered to some engines, one after the other. -/
def State.offered (s : State) (ks : List Engine) : State := ks.foldl (fun t k => t.runDemandStart k) s

theorem State.offered_frame (ks : List Engine) : s.onlyChanges (s.offered ks) startParts := by
  induction ks generalizing s with
  | nil => exact s.onlyChanges_refl _
  | cons k ks ih => exact (s.runDemandStart_frame k).trans (ih _)

/-- An engine not fitted is passed over. -/
theorem State.offered_filter (ks : List Engine) : s.offered (ks.filter s.fitted) = s.offered ks := by
  induction ks generalizing s with
  | nil => rfl
  | cons k ks ih =>
    have same : (s.runDemandStart k).fitted = s.fitted :=
      State.fitted_congr ((s.runDemandStart_frame k).cfs (by decide))
    have rest := ih (s.runDemandStart k)
    rw [same] at rest
    cases fitted : s.fitted k with
    | true =>
      rw [List.filter_cons_of_pos fitted]
      exact rest
    | false =>
      have idle : s.runDemandStart k = s := State.runDemandStart_idle (.inl fitted)
      rw [List.filter_cons_of_neg (by simp [fitted])]
      rw [idle] at rest
      change s.offered (ks.filter s.fitted) = (s.runDemandStart k).offered ks
      rw [idle, rest]

/-- An engine not fitted is left as it is, and nothing but a start is handed. -/
theorem State.offered_keeps (ks : List Engine) : eventsKept s.handed (s.offered ks).handed ∧
    levelsFrom s.handed (s.offered ks).handed ∧ ∀ k, s.fitted k = false → (s.offered ks).eng k = s.eng k ∧
      (s.offered ks).sense k = s.sense k ∧
      (s.offered ks).cli.notices.changed.get k = s.cli.notices.changed.get k := by
  induction ks generalizing s with
  | nil => exact ⟨eventsKept_of_prefix (List.prefix_refl _), levelsFrom_of_subset (List.Subset.refl _),
      fun _ _ => ⟨rfl, rfl, rfl⟩⟩
  | cons j ks ih =>
    obtain ⟨kept, levels, others⟩ := ih (s.runDemandStart j)
    obtain ⟨flags, noLevels⟩ := s.runDemandStart_flags j
    have frame := s.runDemandStart_onlyChanges j
    have passed : s.offered (j :: ks) = (s.runDemandStart j).offered ks := rfl
    rw [passed]
    refine ⟨eventsKept_trans (s.runDemandStart_keepsHanded j) kept, noLevels.trans levels, fun k absent => ?_⟩
    obtain ⟨record, sensing, changed⟩ := others k (by rw [State.fitted_congr (frame.cfs (by simp))]; exact absent)
    by_cases same : k = j
    · subst same
      have idle : s.runDemandStart k = s := State.runDemandStart_idle (.inl absent)
      exact ⟨record.trans (by rw [idle]), sensing.trans (by rw [idle]), changed.trans (by rw [idle])⟩
    · exact ⟨record.trans (frame (.engine k) (by simp [same])), sensing.trans (frame (.sense k) (by simp [same])),
        changed.trans (flags k same)⟩

/-- With the configuration invalid no start is admitted. -/
theorem State.offered_invalid (invalid : s.valid = false) (ks : List Engine) : s.offered ks = s := by
  induction ks with
  | nil => rfl
  | cons k ks ih =>
    have idle : s.runDemandStart k = s :=
      State.runDemandStart_idle (.inr (.inr (.inr (by simp [State.admits, invalid]))))
    rw [State.offered, List.foldl_cons, idle]
    exact ih

end

end Sys2Proof.Machine

namespace Sys2Proof.Machine

/-! ## Each block at an apply (R4, R64, R132, R147, R149, R158, R169, R193) -/

/-- The parts that the blocks before the table change at an apply. -/
def blockParts : List Part :=
  [.lic, .plan, .engine .e1, .engine .e2, .engine .e3, .engine .e4, .car, .sense .e1, .sense .e2, .sense .e3, .sense .e4,
    .bsm, .notices, .handed]

/-- The parts that the table and the counters change at an apply. -/
def tableParts : List Part :=
  [.table, .limits, .duty .e1, .duty .e2, .duty .e3, .duty .e4, .saves, .handed]

section

variable (s : State) (old : Image)

theorem State.appliedBlocks_cli : (s.appliedBlocks old).cli =
    { s.cli with notices := { s.cli.notices with changed := s.keepFitted s.cli.notices.changed } } := by
  have before : (s.appliedBlocks old).cli = (((s.applyLic (s.refits old)).applyPlan).applyEngines (s.refits old)).cli := by
    simp [State.appliedBlocks]
  rw [before]
  rfl

theorem State.appliedBlocks_frame : s.onlyChanges (s.appliedBlocks old) blockParts := by
  have engines (k : Engine) : Part.engine k ∈ blockParts := by cases k <;> decide
  have sensing (k : Engine) : Part.sense k ∈ blockParts := by cases k <;> decide
  have cli := s.appliedBlocks_cli old
  rw [State.onlyChanges_iff]
  refine ⟨fun out => absurd (by decide) out, fun _ => ?_, fun _ => ?_, fun _ => ?_, fun out => absurd (by decide) out,
    fun k out => absurd (engines k) out, fun out => absurd (by decide) out, fun k out => absurd (sensing k) out,
    fun out => absurd (by decide) out, fun k _ => ?_, fun _ => ?_, fun _ => ?_, fun _ => ?_,
    fun out => absurd (by decide) out, fun _ => ?_, fun _ => ?_, fun out => absurd (by decide) out, fun _ => ?_,
    fun _ => ?_⟩
  case refine_6 | refine_7 => simp [Part.same, cli]
  all_goals simp [State.appliedBlocks, Part.same, State.dutyOf]

theorem State.appliedBlocks_lic : (s.appliedBlocks old).lic = (s.applyLic (s.refits old)).lic := by
  simp [State.appliedBlocks]

theorem State.appliedBlocks_online (k : Engine) :
    (s.appliedBlocks old).plan.online.get k = (s.plan.online.get k && s.fitted k) := by
  have before : (s.appliedBlocks old).plan = ((s.applyLic (s.refits old)).applyPlan).plan := by
    simp [State.appliedBlocks]
  rw [before]
  exact PerEngine.get_of _ _

theorem State.appliedBlocks_changed (k : Engine) :
    (s.appliedBlocks old).cli.notices.changed.get k = (s.cli.notices.changed.get k && s.fitted k) := by
  rw [State.appliedBlocks_cli]
  exact PerEngine.get_of _ _

theorem State.appliedBlocks_sense (k : Engine) :
    (s.appliedBlocks old).sense k = (s.sense k).applied (s.refits old k) := by
  have after : (s.appliedBlocks old).sensing = ((((((s.applyLic (s.refits old)).applyPlan).applyEngines
      (s.refits old)).applyCar old.arbiter.sharing).applySensing (s.refits old))).sensing := by
    simp [State.appliedBlocks]
  rw [State.sense, after, State.applySensing, State.setSensing_sensing, PerEngine.get_of]
  simp [State.sense]

theorem State.appliedBlocks_bsm : (s.appliedBlocks old).bsm = { s.bsm with low := 0, high := 0, sag := 0 } := by
  simp [State.appliedBlocks, State.applyBsm]

theorem State.appliedBlocks_handed : (s.appliedBlocks old).handed ⊆ s.handed := by
  rw [State.appliedBlocks, State.dropUnfitted, State.setHanded_handed]
  refine List.Subset.trans (List.filter_subset_self _) ?_
  simp

/-! ## The table and the counters -/

theorem State.appliedTables_frame : (s.appliedBlocks old).onlyChanges (s.appliedTables old) tableParts := by
  have duty (k : Engine) : Part.duty k ∈ tableParts := by cases k <;> decide
  rw [State.onlyChanges_iff]
  refine ⟨fun _ => ?_, fun _ => ?_, fun out => absurd (by decide) out, fun out => absurd (by decide) out, fun _ => ?_,
    fun k _ => ?_, fun _ => ?_, fun k _ => ?_, fun _ => ?_, fun k out => absurd (duty k) out,
    fun out => absurd (by decide) out, fun _ => ?_, fun _ => ?_, fun _ => ?_, fun _ => ?_, fun _ => ?_,
    fun out => absurd (by decide) out, fun _ => ?_, fun _ => ?_⟩
  all_goals simp [State.appliedTables, Part.same, State.eng, State.sense]

theorem State.appliedCounters_dct : (s.appliedCounters old).dct = { s.dct with
    queue := s.dct.queue.filter s.fitted
    duty := .of fun k =>
      if s.refits old k then (if s.fitted k then (s.dct.store.get k).load k else .begin .zero false) else s.dutyOf k } := by
  have blocks : (s.appliedBlocks old).dct = s.dct := by simp [State.appliedBlocks]
  have cfs := (s.appliedBlocks_keeps old).1
  have dct : ((s.appliedBlocks old).changeTable (s.appliedBlocks old).appliedTable).dct = s.dct := by simp [blocks]
  have fitted : ((s.appliedBlocks old).changeTable (s.appliedBlocks old).appliedTable).fitted = s.fitted := by
    refine State.fitted_congr ?_
    simp [cfs]
  rw [State.appliedCounters, State.setDct_dct]
  simp only [dct, fitted, State.dutyOf]

theorem State.appliedTables_dutyOf (k : Engine) : (s.appliedTables old).dutyOf k =
    if s.refits old k then (if s.fitted k then (s.dct.store.get k).load k else .begin .zero false) else s.dutyOf k := by
  rw [State.dutyOf, s.appliedTables_dct old, s.appliedCounters_dct old, PerEngine.get_of]

theorem State.appliedTables_queue : (s.appliedTables old).dct.queue = s.dct.queue.filter s.fitted := by
  rw [s.appliedTables_dct old, s.appliedCounters_dct old]

theorem State.appliedTables_levels : levelsFrom s.handed (s.appliedTables old).handed := by
  have counters : levelsFrom s.handed (s.appliedCounters old).handed := by
    rw [State.appliedCounters, State.setDct_handed]
    exact (levelsFrom_of_subset (s.appliedBlocks_handed old)).trans (State.changeTable_levels _ _)
  rw [State.appliedTables_eq]
  generalize s.appliedCounters old = t at *
  generalize t.fittedEngines = ks
  induction ks generalizing t with
  | nil => exact counters
  | cons k ks ih => exact ih _ (counters.trans (t.lockoutTest_levels k))

end

end Sys2Proof.Machine

namespace Sys2Proof.Machine

/-! ## The end of an apply: the wish, the grant decision, the run demands (R72, R121, R127) -/

/-- With nothing queued and nothing wanted the arbiter stands as it is, unless the line asks or holds. -/
theorem State.wishEnds_idle {s : State} (queue : s.car.queue = []) (unwanted : ¬ s.wantsSupply)
    (line : s.cfg.arbiter.sharing = .exclusive ∨ (s.car.line ≠ .asking ∧ s.car.line ≠ .held)) :
    s.formWish.decideGrant.car = s.car := by
  have formed : s.formWish = s := by
    obtain ⟨same, -⟩ | ⟨-, wish, -⟩ | ⟨asks, -, -⟩ := s.formWish_cases
    · exact same
    · exact absurd ((State.wish_iff s).mp wish) unwanted
    · obtain exclusive | ⟨notAsking, notHeld⟩ := line
      · exact if_pos exclusive
      · exact absurd asks (by simp [notAsking, notHeld])
  rw [formed, State.decideGrant_none (.inr (.inr (by simp [queue])))]

section

variable (s : State) (d : SectionData)

/-- The part after a write whose configuration is applied, each fitted engine offered its run demand. -/
def State.completed (s : State) (d : SectionData) : State := ((s.writeEnded d).apply s.cfg).offered Engine.all

theorem State.writeComplete_of {s : State} {d : SectionData} (write : s.cfs.write = some d) :
    s.writeComplete = (if (s.writeEnded d).valid then (s.writeEnded d).apply s.cfg else s.writeEnded d).offered
      Engine.all := by
  have offers (t : State) : (t.forFitted fun k v => v.runDemandStart k) = t.offered Engine.all := by
    rw [← t.offered_filter Engine.all]
    rfl
  rw [State.writeComplete_eq, write]
  exact offers _

theorem State.apply_frame (s : State) (old : Image) : (s.appliedTables old).onlyChanges (s.apply old) [.car, .handed] := by
  rw [State.apply_eq]
  generalize s.appliedTables old = t
  exact (t.formWish_onlyChanges.mono (by simp)).trans
    ((t.formWish.decideGrant_onlyChanges).trans ((State.emit_onlyChanges _ _).mono (by simp)))

/-- What is left to do after the table and the counters: the crank supply, and the starts. -/
theorem State.completed_frame : ((s.writeEnded d).appliedTables s.cfg).onlyChanges (s.completed d) startParts :=
  ((State.apply_frame _ _).mono (by decide)).trans (State.offered_frame _ _)

theorem State.completed_cfs : (s.completed d).cfs = (s.writeEnded d).cfs :=
  ((s.completed_frame d).cfs (by decide)).trans (State.appliedTables_cfs _ _)

theorem State.completed_fitted : (s.completed d).fitted = (s.writeEnded d).fitted :=
  State.fitted_congr (s.completed_cfs d)

theorem State.completed_cfg : (s.completed d).cfg = (s.writeEnded d).cfg := State.cfg_congr (s.completed_cfs d)

theorem State.refits_eq (k : Engine) :
    (s.writeEnded d).refits s.cfg k = ((s.completed d).fitted k != s.fitted k) := by
  rw [s.completed_fitted d]
  rfl

theorem State.completed_table : (s.completed d).table = ((s.writeEnded d).appliedTables s.cfg).table :=
  s.completed_frame d .table (by decide)

theorem State.completed_limits : (s.completed d).limits = resolve (s.completed d).table := by
  rw [s.completed_table d, ← State.appliedTables_limits]
  exact s.completed_frame d .limits (by decide)

/-- The parts that an apply may change. -/
def applyParts : List Part :=
  [.lic, .table, .limits, .plan, .engine .e1, .engine .e2, .engine .e3, .engine .e4, .car, .sense .e1, .sense .e2,
    .sense .e3, .sense .e4, .bsm, .duty .e1, .duty .e2, .duty .e3, .duty .e4, .saves, .notices, .cfs, .handed]

theorem State.writeEnded_frame : s.onlyChanges (s.writeEnded d) [.cfs, .handed] := s.writeBegun_onlyChanges _ _

theorem State.completed_onlyChanges : s.onlyChanges (s.completed d) applyParts :=
  ((s.writeEnded_frame d).mono (by decide)).trans
    (((State.appliedBlocks_frame _ _).mono (by decide)).trans
      (((State.appliedTables_frame _ _).mono (by decide)).trans ((s.completed_frame d).mono (by decide))))

/-! ## The table after an apply -/

/-- A slot that no lockout test posts into keeps its generation, its entry brought in line. -/
theorem State.completed_slot {n : Nat} {e : Entry} (live : slotAt s.table n = ⟨(slotAt s.table n).gen, some e⟩)
    (kept : (∀ k, (s.completed d).fitted k = true → n ≠ internalSlot .lockout k) ∨
      ((s.writeEnded d).applyEntry e).isSome = true) :
    slotAt (s.completed d).table n = ⟨(slotAt s.table n).gen, (s.writeEnded d).applyEntry e⟩ := by
  rw [s.completed_fitted d] at kept
  have live' : slotAt (s.writeEnded d).table n = ⟨(slotAt (s.writeEnded d).table n).gen, some e⟩ := live
  rw [s.completed_table d, State.appliedTables_slot, Slot.bind_live live']
  · rfl
  · rw [live']
    exact kept

theorem State.completed_slot_some {n : Nat} {e f : Entry} (live : slotAt s.table n = ⟨(slotAt s.table n).gen, some e⟩)
    (applied : (s.writeEnded d).applyEntry e = some f) :
    slotAt (s.completed d).table n = ⟨(slotAt s.table n).gen, some f⟩ := by
  rw [s.completed_slot d live (.inr (by rw [applied]; rfl)), applied]

theorem State.completed_slot_free {n : Nat} (free : (slotAt s.table n).entry = none)
    (elsewhere : ∀ k, (s.completed d).fitted k = true → n ≠ internalSlot .lockout k) :
    slotAt (s.completed d).table n = slotAt s.table n := by
  rw [s.completed_fitted d] at elsewhere
  rw [s.completed_table d, State.appliedTables_slot _ _ (.inl elsewhere)]
  exact Slot.bind_free free _

/-- The entry of an internal condition of one engine, still fitted. -/
theorem State.completed_internal {n : Nat} {e : Entry} {x : Condition} {k : Engine}
    (live : slotAt s.table n = ⟨(slotAt s.table n).gen, some e⟩) (owner : e.owner = .internal x) (other : x ≠ .batteryLow)
    (scope : e.scope = .engines (only k)) (fitted : (s.completed d).fitted k = true) :
    slotAt (s.completed d).table n =
      ⟨(slotAt s.table n).gen, some { e with value := ((s.completed d).internalEntry x .e1).value }⟩ := by
  have here : (s.writeEnded d).fitted k = true := by
    rw [← s.completed_fitted d]
    exact fitted
  have value : ((s.completed d).internalEntry x .e1).value = ((s.writeEnded d).internalEntry x .e1).value := by
    simp only [State.internalEntry, s.completed_cfg d]
  rw [value]
  refine s.completed_slot_some d live ?_
  rw [State.applyEntry_internal owner other scope, if_neg (State.noEngine_keepFitted_some (k := k) (by simp [only]) here)]

/-- The entry of an internal condition of one engine, no longer fitted. -/
theorem State.completed_internal_gone {e : Entry} {x : Condition} {k : Engine}
    (live : slotAt s.table (internalSlot x k) = ⟨(slotAt s.table (internalSlot x k)).gen, some e⟩)
    (owner : e.owner = .internal x) (other : x ≠ .batteryLow) (scope : e.scope = .engines (only k))
    (absent : (s.completed d).fitted k = false) :
    slotAt (s.completed d).table (internalSlot x k) = ⟨(slotAt s.table (internalSlot x k)).gen, none⟩ := by
  have elsewhere : ∀ j, (s.completed d).fitted j = true → internalSlot x k ≠ internalSlot .lockout j := by
    intro j fitted same
    obtain ⟨-, rfl⟩ := internalSlot_inj other same
    simp [absent] at fitted
  rw [s.completed_slot d live (.inl elsewhere), State.applyEntry_internal owner other scope,
    if_pos (State.noEngine_keepFitted fun j named => ?_)]
  rw [only, PerEngine.get_of, decide_eq_true_iff] at named
  rw [named, ← s.completed_fitted d]
  exact absent

theorem lockoutSlot_lt (k : Engine) : internalSlot .lockout k < 17 := by cases k <;> decide

/-- An external entry over some engines. -/
theorem State.completed_external {n : Nat} {e : Entry} {o : Byte} {set : PerEngine Bool} (external : 17 ≤ n)
    (live : slotAt s.table n = ⟨(slotAt s.table n).gen, some e⟩) (owner : e.owner = .external o)
    (scope : e.scope = .engines set) :
    ((∃ k, set.get k = true ∧ (s.completed d).fitted k = true) → slotAt (s.completed d).table n =
      ⟨(slotAt s.table n).gen,
        some { e with scope := .engines (.of fun k => set.get k && (s.completed d).fitted k) }⟩) ∧
      ((∀ k, set.get k = true → (s.completed d).fitted k = false) →
        slotAt (s.completed d).table n = ⟨(slotAt s.table n).gen, none⟩) := by
  have elsewhere : ∀ k, (s.completed d).fitted k = true → n ≠ internalSlot .lockout k := by
    intro k _ same
    have low := lockoutSlot_lt k
    omega
  rw [s.completed_slot d live (.inl elsewhere), s.completed_fitted d, State.applyEntry_external owner scope]
  refine ⟨fun ⟨k, named, fitted⟩ => ?_, fun gone => ?_⟩
  · rw [if_neg (State.noEngine_keepFitted_some named fitted)]
    rfl
  · rw [if_pos (State.noEngine_keepFitted gone)]

end

end Sys2Proof.Machine

namespace Sys2Proof.Machine

/-! ## Records, counters and the crank supply after an apply -/

section

variable (s : State) (old : Image) (k : Engine)

theorem State.apply_eng : (s.apply old).eng k = if s.refits old k then .fresh else s.eng k := by
  rw [← s.appliedBlocks_eng old k]
  exact ((s.apply_frame old) (.engine k) (by simp)).trans
    (s.appliedTables_frame old (.engine k) (by cases k <;> decide))

theorem State.apply_sense : (s.apply old).sense k = (s.sense k).applied (s.refits old k) := by
  rw [← s.appliedBlocks_sense old k]
  exact ((s.apply_frame old).sense k (by simp)).trans
    ((s.appliedTables_frame old).sense k (by cases k <;> decide))

theorem State.apply_dutyOf : (s.apply old).dutyOf k =
    if s.refits old k then (if s.fitted k then (s.dct.store.get k).load k else .begin .zero false) else s.dutyOf k := by
  rw [← s.appliedTables_dutyOf old k]
  exact (s.apply_frame old) (.duty k) (by simp)

theorem State.apply_car_idle {s : State} {old : Image} (queue : s.car.queue = []) (holder : s.car.holder = none)
    (rests : ∀ k, s.fitted k = true → s.refits old k = false → (s.eng k).state.resting = true)
    (line : s.cfg.arbiter.sharing = old.arbiter.sharing →
      s.cfg.arbiter.sharing = .exclusive ∨ (s.car.line ≠ .asking ∧ s.car.line ≠ .held)) :
    (s.apply old).car =
      if s.cfg.arbiter.sharing = old.arbiter.sharing then s.car else { s.car with line := .quiet, rerequest := none } := by
  have blocks := s.appliedBlocks_car old
  have car := s.appliedTables_car old
  have cfs := s.appliedTables_cfs old
  have records (j : Engine) : (s.appliedTables old).eng j = if s.refits old j then .fresh else s.eng j := by
    rw [← s.appliedBlocks_eng old j]
    exact s.appliedTables_frame old (.engine j) (by cases j <;> decide)
  rw [← blocks, ← car, State.apply_eq]
  generalize s.appliedTables old = t at *
  have cfg : t.cfg = s.cfg := State.cfg_congr cfs
  rw [blocks] at car
  have unwanted : ¬ t.wantsSupply := by
    rintro (some | held | ⟨-, j, fitted, moves⟩)
    · exact some (by rw [car]; split <;> exact queue)
    · have noHolder : t.car.holder = none := by rw [car]; split <;> exact holder
      simp [noHolder] at held
    · rw [State.fitted_congr cfs] at fitted
      rw [records] at moves
      cases refit : s.refits old j with
      | true => simp [refit, EngineRec.fresh, EngineRec.blank] at moves
      | false =>
        have still := rests j fitted refit
        rw [refit] at moves
        obtain state | state := moves
        · simp [show (s.eng j).state = .prelube from state, EState.resting] at still
        · simp [show (s.eng j).state = .crankRest from state, EState.resting] at still
  refine State.wishEnds_idle (s := t) (by rw [car]; split <;> exact queue) unwanted ?_
  rw [cfg, car]
  split
  next same => exact line same
  next => exact .inr ⟨nofun, nofun⟩

end

section

variable (s : State) (d : SectionData)

theorem State.completed_chain : s.completed d =
    (((((s.writeEnded d).apply s.cfg).runDemandStart .e1).runDemandStart .e2).runDemandStart .e3).runDemandStart .e4 := by
  simp only [State.completed, State.offered, Engine.all, List.foldl_cons, List.foldl_nil]

theorem State.apply_fitted : ((s.writeEnded d).apply s.cfg).fitted = (s.completed d).fitted := by
  rw [s.completed_fitted d]
  exact State.fitted_congr (((State.apply_frame _ _).cfs (by simp)).trans (State.appliedTables_cfs _ _))

theorem State.refits_kept {k : Engine} (before : s.fitted k = true) (after : (s.completed d).fitted k = true) :
    (s.writeEnded d).refits s.cfg k = false := by
  rw [State.refits_eq, before, after]
  rfl

theorem State.refits_new {k : Engine} (before : s.fitted k = false) (after : (s.completed d).fitted k = true) :
    (s.writeEnded d).refits s.cfg k = true := by
  rw [State.refits_eq, before, after]
  rfl

theorem State.refits_gone {k : Engine} (before : s.fitted k = true) (after : (s.completed d).fitted k = false) :
    (s.writeEnded d).refits s.cfg k = true := by
  rw [State.refits_eq, before, after]
  rfl

/-- An engine fitted before and after keeps its record, its sensing set but for the counts, and its counters. -/
theorem State.apply_sameEngine {k : Engine} (before : s.fitted k = true) (after : (s.completed d).fitted k = true) :
    ((s.writeEnded d).apply s.cfg).eng k = s.eng k ∧
      ((s.writeEnded d).apply s.cfg).sense k =
        { s.sense k with hotCount := 0, coolCount := 0, overCount := 0, warmCount := 0 } ∧
      ((s.writeEnded d).apply s.cfg).dutyOf k = s.dutyOf k := by
  rw [State.apply_eng, State.apply_sense, State.apply_dutyOf, s.refits_kept d before after]
  exact ⟨rfl, rfl, rfl⟩

/-- A newly fitted engine begins afresh. -/
theorem State.apply_newEngine {k : Engine} (before : s.fitted k = false) (after : (s.completed d).fitted k = true) :
    ((s.writeEnded d).apply s.cfg).eng k = .fresh ∧ ((s.writeEnded d).apply s.cfg).sense k = .reset ∧
      ((s.writeEnded d).apply s.cfg).dutyOf k = (s.dct.store.get k).load k := by
  have fitted : (s.writeEnded d).fitted k = true := by
    rw [← s.completed_fitted d]
    exact after
  rw [State.apply_eng, State.apply_sense, State.apply_dutyOf, s.refits_new d before after, fitted]
  exact ⟨rfl, rfl, rfl⟩

/-- The crank supply before the starts, where nothing is queued and every engine rests. -/
theorem State.apply_car (queue : s.car.queue = []) (holder : s.car.holder = none)
    (rests : ∀ k, s.fitted k = true → (s.eng k).state.resting = true) :
    ((s.completed d).cfg.arbiter.sharing ≠ s.cfg.arbiter.sharing →
        ((s.writeEnded d).apply s.cfg).car = { s.car with line := .quiet, rerequest := none }) ∧
      ((s.completed d).cfg.arbiter.sharing = s.cfg.arbiter.sharing →
        (s.completed d).cfg.arbiter.sharing = .exclusive ∨ (s.car.line ≠ .asking ∧ s.car.line ≠ .held) →
        ((s.writeEnded d).apply s.cfg).car = s.car) := by
  rw [s.completed_cfg d]
  have still : ∀ k, (s.writeEnded d).fitted k = true → (s.writeEnded d).refits s.cfg k = false →
      ((s.writeEnded d).eng k).state.resting = true := by
    intro k fitted kept
    have same : (s.writeEnded d).fitted k = fittedBy s.cfg.roster.fitted k := by simpa [State.refits] using kept
    exact rests k (same.symm.trans fitted)
  refine ⟨fun differs => ?_, fun same line => ?_⟩
  · rw [State.apply_car_idle (s := s.writeEnded d) queue holder still fun same => absurd same differs, if_neg differs]
    rfl
  · rw [State.apply_car_idle (s := s.writeEnded d) queue holder still fun _ => line, if_pos same]
    rfl

theorem State.completed_dutyOf (k : Engine) : (s.completed d).dutyOf k =
    if (s.writeEnded d).refits s.cfg k then
      (if (s.completed d).fitted k then (s.dct.store.get k).load k else .begin .zero false)
    else s.dutyOf k := by
  rw [s.completed_fitted d]
  exact (s.completed_frame d (.duty k) (by cases k <;> decide)).trans (State.appliedTables_dutyOf _ _ k)

theorem State.apply_notices (s : State) (old : Image) :
    (s.apply old).cli.notices = (s.appliedBlocks old).cli.notices :=
  ((s.apply_frame old) .notices (by simp)).trans (s.appliedTables_frame old .notices (by decide))

theorem State.completed_plan : (s.completed d).plan = ((s.writeEnded d).appliedBlocks s.cfg).plan :=
  (s.completed_frame d .plan (by decide)).trans (State.appliedTables_frame _ _ .plan (by decide))

theorem State.completed_queue : (s.completed d).dct.queue = s.dct.queue.filter (s.completed d).fitted := by
  rw [s.completed_fitted d]
  exact (s.completed_frame d .saves (by decide)).1.trans (State.appliedTables_queue _ _)

/-- An engine no longer fitted loses its record, sensing set and changed flag. -/
theorem State.completed_goneRecord {k : Engine} (before : s.fitted k = true) (after : (s.completed d).fitted k = false) :
    (s.completed d).eng k = .fresh ∧ (s.completed d).sense k = .reset ∧
      (s.completed d).cli.notices.changed.get k = false := by
  have refits := s.refits_gone d before after
  have absent : (s.writeEnded d).fitted k = false := by
    rw [← s.completed_fitted d]
    exact after
  have absent' : ((s.writeEnded d).apply s.cfg).fitted k = false := by
    rw [s.apply_fitted d]
    exact after
  obtain ⟨record, sensing, changed⟩ := (((s.writeEnded d).apply s.cfg).offered_keeps Engine.all).2.2 k absent'
  rw [State.apply_eng, refits] at record
  rw [State.apply_sense, refits] at sensing
  rw [State.apply_notices, State.appliedBlocks_changed, absent, Bool.and_false] at changed
  rw [State.completed]
  exact ⟨record, sensing, changed⟩

/-- An engine no longer fitted loses its counters and its places in the save queue and the plan. -/
theorem State.completed_gonePlaces {k : Engine} (before : s.fitted k = true) (after : (s.completed d).fitted k = false) :
    (s.completed d).dutyOf k = .begin .zero false ∧ k ∉ (s.completed d).dct.queue ∧
      (s.completed d).plan.online.get k = false := by
  refine ⟨?_, ?_, ?_⟩
  · rw [s.completed_dutyOf d, s.refits_gone d before after, after]
    rfl
  · rw [s.completed_queue d, List.mem_filter, after]
    simp
  · rw [s.completed_plan d, State.appliedBlocks_online, ← s.completed_fitted d, after, Bool.and_false]

/-! ## Filters, battery and events handed after an apply -/

theorem State.completed_lic : (s.completed d).lic = ((s.writeEnded d).applyLic ((s.writeEnded d).refits s.cfg)).lic := by
  rw [← State.appliedBlocks_lic]
  exact (s.completed_frame d .lic (by decide)).trans (State.appliedTables_frame _ _ .lic (by decide))

theorem State.completed_filters (k : Engine) :
    (s.completed d).lic.iso.get k =
        (if (s.writeEnded d).refits s.cfg k then ⟨false, 0, true⟩ else s.lic.iso.get k) ∧
      (s.completed d).lic.lube.get k =
        if (s.writeEnded d).refits s.cfg k then ⟨false, 0, true⟩ else s.lic.lube.get k := by
  rw [s.completed_lic d]
  exact ⟨PerEngine.get_of _ _, PerEngine.get_of _ _⟩

theorem State.completed_bsm : (s.completed d).bsm = { s.bsm with low := 0, high := 0, sag := 0 } :=
  ((s.completed_frame d .bsm (by decide)).trans (State.appliedTables_frame _ _ .bsm (by decide))).trans
    (State.appliedBlocks_bsm _ _)

theorem State.completed_handed : .replan .apply ∈ (s.completed d).handed ∧
    ∀ i b l, .level i b l ∈ (s.completed d).handed → .level i b l ∈ s.handed := by
  obtain ⟨kept, levels, -⟩ := ((s.writeEnded d).apply s.cfg).offered_keeps Engine.all
  have tables := State.appliedTables_levels (s.writeEnded d) s.cfg
  have ended : levelsFrom s.handed (s.writeEnded d).handed := levelsFrom_append (by simp)
  have applied : levelsFrom s.handed ((s.writeEnded d).apply s.cfg).handed := by
    refine ended.trans (tables.trans ?_)
    rw [State.apply_eq, ← State.formWish_handed]
    exact (State.decideGrant_levels _).trans (levelsFrom_append (by simp))
  refine ⟨kept _ ?_ nofun, applied.trans levels⟩
  rw [State.apply_eq, State.emit_handed]
  exact List.mem_append_right _ List.mem_cons_self

/-! ## The end of a configuration write -/

/-- What the apply, before the starts, makes of the engines and the crank supply, and the run demands offered after it. -/
theorem State.completed_offers : ∃ u u1 u2 u3 : State, u.cfs = (s.completed d).cfs ∧ u.limits = (s.completed d).limits ∧
    (∀ k, s.fitted k = true → (s.completed d).fitted k = true → u.eng k = s.eng k ∧
      u.sense k = { s.sense k with hotCount := 0, coolCount := 0, overCount := 0, warmCount := 0 } ∧
      u.dutyOf k = s.dutyOf k) ∧
    (∀ k, s.fitted k = false → (s.completed d).fitted k = true →
      u.eng k = .fresh ∧ u.sense k = .reset ∧ u.dutyOf k = (s.dct.store.get k).load k) ∧
    (s.car.queue = [] → s.car.holder = none → (∀ k, s.fitted k = true → (s.eng k).state.resting = true) →
      ((s.completed d).cfg.arbiter.sharing ≠ s.cfg.arbiter.sharing →
        u.car = { s.car with line := .quiet, rerequest := none }) ∧
      ((s.completed d).cfg.arbiter.sharing = s.cfg.arbiter.sharing →
        (s.completed d).cfg.arbiter.sharing = .exclusive ∨ (s.car.line ≠ .asking ∧ s.car.line ≠ .held) →
        u.car = s.car)) ∧
    u.offersRunDemand u1 .e1 ∧ u1.offersRunDemand u2 .e2 ∧ u2.offersRunDemand u3 .e3 ∧
    u3.offersRunDemand (s.completed d) .e4 := by
  have starts : ((s.writeEnded d).apply s.cfg).onlyChanges (s.completed d) startParts := State.offered_frame _ _
  have chain := s.completed_chain d
  refine ⟨(s.writeEnded d).apply s.cfg, _, _, _, (starts.cfs (by decide)).symm,
    (show (s.completed d).limits = _ from starts .limits (by decide)).symm,
    fun k before after => s.apply_sameEngine d before after, fun k before after => s.apply_newEngine d before after,
    fun queue holder rests => s.apply_car d queue holder rests, State.runDemandStart_offers _ _,
    State.runDemandStart_offers _ _, State.runDemandStart_offers _ _, ?_⟩
  rw [chain]
  exact State.runDemandStart_offers _ _

theorem State.completed_changedFilters :
    (∀ k, s.fitted k = false → (s.completed d).fitted k = true →
        (s.completed d).lic.iso.get k = ⟨false, 0, true⟩ ∧ (s.completed d).lic.lube.get k = ⟨false, 0, true⟩) ∧
      (∀ k, s.fitted k = true → (s.completed d).fitted k = false →
        ((s.completed d).lic.iso.get k).level = false ∧ ((s.completed d).lic.iso.get k).count = 0 ∧
          ((s.completed d).lic.lube.get k).level = false ∧ ((s.completed d).lic.lube.get k).count = 0) ∧
      (∀ k, (s.completed d).fitted k = s.fitted k → (s.completed d).lic.iso.get k = s.lic.iso.get k ∧
        (s.completed d).lic.lube.get k = s.lic.lube.get k) ∧
      (s.completed d).lic = { s.lic with iso := (s.completed d).lic.iso, lube := (s.completed d).lic.lube } := by
  refine ⟨fun k before after => ?_, fun k before after => ?_, fun k same => ?_, ?_⟩
  · obtain ⟨iso, lube⟩ := s.completed_filters d k
    rw [iso, lube, s.refits_new d before after]
    exact ⟨rfl, rfl⟩
  · obtain ⟨iso, lube⟩ := s.completed_filters d k
    rw [iso, lube, s.refits_gone d before after]
    exact ⟨rfl, rfl, rfl, rfl⟩
  · obtain ⟨iso, lube⟩ := s.completed_filters d k
    rw [iso, lube, State.refits_eq, same, bne_self_eq_false]
    exact ⟨rfl, rfl⟩
  · rw [s.completed_lic d]
    rfl

end

end Sys2Proof.Machine

namespace Sys2Proof.Machine

/-- The ceiling of an internal condition, as the configuration in use has it. -/
theorem State.internalEntry_ceiling (t : State) {x : Condition} {v : Nat}
    (value : (x = .warmup ∧ v = t.cfg.thresholds.warmupCeiling) ∨ (x = .hot ∧ v = t.cfg.thresholds.hotCeiling) ∨
      (x = .pickup ∧ v = t.cfg.thresholds.degradedCeiling)) :
    x ≠ .batteryLow ∧ (t.internalEntry x .e1).value = some v := by
  obtain ⟨rfl, rfl⟩ | ⟨rfl, rfl⟩ | ⟨rfl, rfl⟩ := value
  · exact ⟨nofun, rfl⟩
  · exact ⟨nofun, rfl⟩
  · exact ⟨nofun, rfl⟩

section

variable (s : State) (d : SectionData)

/-- The entries of the internal conditions of one engine that carry a ceiling take the value now in force. -/
theorem State.completed_ceiling {n : Nat} {e : Entry} {k : Engine} {x : Condition} {v : Nat}
    (live : slotAt s.table n = ⟨(slotAt s.table n).gen, some e⟩) (owner : e.owner = .internal x)
    (value : (x = .warmup ∧ v = (s.completed d).cfg.thresholds.warmupCeiling) ∨
      (x = .hot ∧ v = (s.completed d).cfg.thresholds.hotCeiling) ∨
        (x = .pickup ∧ v = (s.completed d).cfg.thresholds.degradedCeiling))
    (scope : e.scope = .engines (only k)) (fitted : (s.completed d).fitted k = true) :
    slotAt (s.completed d).table n = ⟨(slotAt s.table n).gen, some { e with value := some v }⟩ := by
  obtain ⟨other, inForce⟩ := (s.completed d).internalEntry_ceiling value
  rw [s.completed_internal d live owner other scope fitted, inForce]

/-- A LOCKOUT of an engine still fitted stays. -/
theorem State.completed_lockout {n : Nat} {e : Entry} {k : Engine}
    (live : slotAt s.table n = ⟨(slotAt s.table n).gen, some e⟩) (owner : e.owner = .internal .lockout)
    (scope : e.scope = .engines (only k)) (fitted : (s.completed d).fitted k = true) (none : e.value = none) :
    slotAt (s.completed d).table n = slotAt s.table n := by
  rw [s.completed_internal d live owner nofun scope fitted, live]
  exact congrArg (fun v => Slot.mk _ (some { e with value := v })) none.symm

/-- The LOCKOUT slot of a fitted engine, FREE before, by the count in force. -/
theorem State.completed_lockoutSlot {k : Engine} (fitted : (s.completed d).fitted k = true)
    (full : s.table.length = 49) (free : s.stands .lockout k = false) :
    slotAt (s.completed d).table (internalSlot .lockout k) =
      if (s.completed d).cfg.thresholds.lockoutCount ≤ ((s.completed d).dutyOf k).stored.consecutive then
        ⟨nextGen (slotAt s.table (internalSlot .lockout k)).gen, some (s.internalEntry .lockout k)⟩
      else slotAt s.table (internalSlot .lockout k) := by
  rw [s.completed_fitted d] at fitted
  have duty : (s.completed d).dutyOf k = ((s.writeEnded d).appliedTables s.cfg).dutyOf k :=
    s.completed_frame d (.duty k) (by cases k <;> decide)
  rw [s.completed_table d, s.completed_cfg d, duty,
    State.appliedTables_lockoutSlot (s.writeEnded d) s.cfg (k := k) full fitted free]
  rfl

end

/-- Settles O59: a write that leaves the configuration invalid starts nothing; one that makes it valid is applied block by
block (`State.appliedBlocks`, `State.appliedTables`), and each engine is then offered its run demand. -/
theorem writeCompleteAppliesConfiguration : Obligations.WriteCompleteAppliesConfiguration := by
  intro s d awake write
  have complete := State.writeComplete_of write
  cases valid : (s.writeEnded d).valid with
  | false =>
    rw [valid, if_neg (by simp), State.offered_invalid _ valid] at complete
    refine ⟨s.writeEnded d, State.running_does State.writeComplete awake complete, rfl, fun _ => ⟨rfl, s.writeEnded_frame d⟩,
      fun on => ?_⟩
    rw [valid] at on
    cases on
  | true =>
    rw [valid, if_pos rfl] at complete
    refine ⟨s.completed d, State.running_does State.writeComplete awake complete, s.completed_cfs d, fun off => ?_, fun _ => ?_⟩
    · rw [State.valid, s.completed_cfs d, ← State.valid, valid] at off
      cases off
    · obtain ⟨replan, levels⟩ := s.completed_handed d
      obtain ⟨newFilters, goneFilters, sameFilters, lines⟩ := s.completed_changedFilters d
      refine ⟨s.completed_limits d, s.completed_bsm d, s.completed_onlyChanges d .dsl (by decide), replan,
        fun n e k x v live owner value scope fitted => s.completed_ceiling d live owner value scope fitted,
        fun n e live owner => ?battery,
        fun n e k live owner scope fitted none => s.completed_lockout d live owner scope fitted none,
        fun n e o live owner scope => ?locomotive,
        fun k fitted full free => s.completed_lockoutSlot d fitted full free,
        fun n free elsewhere => s.completed_slot_free d free elsewhere,
        newFilters, goneFilters, sameFilters, lines, levels, s.completed_offers d, fun k before after => ?gone,
        fun n e o set external live owner scope => s.completed_external d external live owner scope,
        s.completed_onlyChanges d⟩
      case battery =>
        rw [s.completed_fitted d]
        exact s.completed_slot_some d live (State.applyEntry_batteryLow owner)
      case locomotive =>
        rw [s.completed_slot_some d live (State.applyEntry_locomotive owner scope)]
        exact live.symm
      case gone =>
        obtain ⟨record, sensing, changed⟩ := s.completed_goneRecord d before after
        obtain ⟨duty, queue, online⟩ := s.completed_gonePlaces d before after
        exact ⟨record, sensing, duty, changed, queue, online, fun x e live other owner scope =>
          s.completed_internal_gone d live owner other scope after⟩

end Sys2Proof.Machine
